-- ==== Sys2Proof/Word.lean ====
section
/-! DEFINITION. The words of the SN6: bytes, frame numbers, tick stamps and station numbers. -/

namespace Sys2Proof

/-- A byte of a payload, a row packet or show memory (Formats, 13.1). -/
abbrev Byte := BitVec 8

/-- A frame number or row tag: 16 bits, wrapping (1.6.2). -/
abbrev FrameNo := BitVec 16

/-- A value of the tick counter taken at an event: 32 bits, wrapping (1.6.4). -/
abbrev Stamp := BitVec 32

/-- A station number, 0 to 63 (Table 1-3). -/
abbrev Station := Fin 64

/-- The origin a cue message has in the lanes: a station number, or 64 for a node that holds none (R115). -/
abbrev Origin := Fin 65

/-- A colour: one value per component, of a pixel, a sum, a mean or a coefficient. -/
structure Rgb where
  r : Nat
  g : Nat
  b : Nat
  deriving DecidableEq, Repr

/-- The colour with every component 0. -/
def Rgb.black : Rgb := ⟨0, 0, 0⟩

/-- A colour formed component by component from two others. -/
def Rgb.zip (f : Nat → Nat → Nat) (x y : Rgb) : Rgb := ⟨f x.r y.r, f x.g y.g, f x.b y.b⟩

/-- A colour formed from each component of another. -/
def Rgb.map (f : Nat → Nat) (x : Rgb) : Rgb := ⟨f x.r, f x.g, f x.b⟩

/-- One component of a colour: 0 red, 1 green, 2 blue. -/
def Rgb.component (x : Rgb) (i : Fin 3) : Nat :=
  match i with
  | 0 => x.r
  | 1 => x.g
  | 2 => x.b

end Sys2Proof
end

