-- ==== Sys2Proof/Syntax.lean ====
section
/-! DEFINITION. The commands the SN6 takes: one constructor of `Instr` per row of spec/opcode_table.json, in the
table's order, with the values the event brings from outside the part. -/

namespace Sys2Proof

/-- What begins to hold the part in reset (R180). -/
inductive ResetHolder where
  | pin      -- the reset pin is asserted
  | supply   -- the core supply detector holds
  deriving DecidableEq, Repr

/-- What stops holding the part in reset (R180). -/
inductive ResetReleaser where
  | pin      -- the reset pin is released
  | supply   -- the core supply detector lets go, the supply having stood above its level for 10 ms
  | both     -- both at the same tick
  deriving DecidableEq, Repr

/-- The five kinds of link fault (Table 2-4). -/
inductive LinkFaultKind where
  | coding
  | form
  | level
  | check
  | noAck
  deriving DecidableEq, Repr

/-- Where a bit of the link stands against the last error signal of the node (R10): before the signal begins, which it does
after the acknowledge delimiter where a CHECK fault calls for it; from its first bit until the link is free for the station
again; or after. -/
inductive SignalPhase where
  | coming
  | sending
  | past
  deriving DecidableEq, Repr

/-- How the loader lets its request drop (R110): the bytes it stored in show memory while it held the port, in order, and
whether the request has risen again by the time the port is chosen for (R186). -/
structure LoaderDrop where
  writes     : List (Nat × Byte)
  risesAgain : Bool := false
  deriving DecidableEq, Repr

/-- A trigger pin at the edge at which it qualifies (R168), with the levels of the eight pins that this edge samples, bit p
for pin p, 1 for HIGH. -/
structure PinEdge where
  pin    : Fin 8
  levels : BitVec 8
  deriving DecidableEq, Repr

/-- A message from a peer as the link controller hands it on: origin, payload bytes and start-bit stamp (R6, R23). -/
structure LinkMessage where
  origin  : Station
  payload : List Byte
  stamp   : Stamp
  deriving DecidableEq, Repr

/-- The levels of a recovery that no dominant bit delays: 64 idle sequences of 14 recessive bits (R14). -/
def idleLink : List Bool := List.replicate 896 true

/-- The commands. A stamp operand `now` is the value of the tick counter at the event; `pins` are the levels of the
eight trigger pins at a frame edge, bit p for pin p, 1 for HIGH; `levels` are the levels of a line, one for each bit time,
in order. -/
inductive Instr where
  /-- COLD_RESET: the named source begins to hold the part. -/
  | coldReset (by_ : ResetHolder)
  /-- RESET_RELEASE: the named source, or both, stop holding the part. -/
  | resetRelease (by_ : ResetReleaser)
  /-- CONFIG_READ_END: the configuration read ends at `now`. -/
  | configReadEnd (now : Stamp) (pins : BitVec 8)
  /-- LINK_JOIN: 11 recessive bits seen after leaving the held condition. -/
  | linkJoin
  /-- ATTEMPT_START: the link is free; the start bit would be driven at `now`. -/
  | attemptStart (now : Stamp)
  /-- ARBITRATION_LOSS: lost at a bit of the 12-bit arbitration field. -/
  | arbitrationLoss
  /-- CLAIM_LOSS: a CLAIM lost at a bit of its length field or serial. -/
  | claimLoss
  /-- LINK_FAULT: a fault of the named kind; `phase` says where its bit stands against the node's last error signal
  (R10). -/
  | linkFault (kind : LinkFaultKind) (phase : SignalPhase)
  /-- DETACHED_RECOVERY: the levels of the link sampled since the entry to DETACHED, or since the last such command, as
far as the bit that completes the 64th idle sequence; true is recessive. -/
  | detachedRecovery (levels : List Bool := idleLink)
  /-- MESSAGE_SENT: the last end-field bit of the node's own message passes without fault. -/
  | messageSent
  /-- SYNC_RECEIVED. -/
  | syncReceived (m : LinkMessage)
  /-- CLAIM_RECEIVED. -/
  | claimReceived (m : LinkMessage)
  /-- GO_RECEIVED. -/
  | goReceived (m : LinkMessage)
  /-- HOLD_RECEIVED. -/
  | holdReceived (m : LinkMessage)
  /-- RELEASE_RECEIVED. -/
  | releaseReceived (m : LinkMessage)
  /-- TALLY_RECEIVED. -/
  | tallyReceived (m : LinkMessage)
  /-- QUERY_RECEIVED. -/
  | queryReceived (m : LinkMessage)
  /-- ANSWER_RECEIVED. -/
  | answerReceived (m : LinkMessage)
  /-- STATUS_RECEIVED. -/
  | statusReceived (m : LinkMessage)
  /-- UNKNOWN_MESSAGE_RECEIVED: a class and kind that Table 2-2 does not list. -/
  | unknownMessageReceived (cls : BitVec 2) (kind : BitVec 4) (m : LinkMessage)
  /-- RESTART_RECEIVED. -/
  | restartReceived (m : LinkMessage)
  /-- FRAME_EDGE: the tick counter reaches the scheduled stamp. -/
  | frameEdge (pins : BitVec 8)
  /-- STALE_BEACON. -/
  | staleBeacon
  /-- TRIGGER_EXPIRED. -/
  | triggerExpired
  /-- START_END. -/
  | startEnd
  /-- LOCK_QUIET_LOSS. -/
  | lockQuietLoss
  /-- CANDIDATE_CHOICE. -/
  | candidateChoice
  /-- CLAIM_WINDOW_END. -/
  | claimWindowEnd
  /-- DUPLICATE_CLEAR. -/
  | duplicateClear
  /-- PEER_AGE_OUT: the entry of station `n`. -/
  | peerAgeOut (n : Station)
  /-- WALL_HELD. -/
  | wallHeld
  /-- LIMIT_STEP_UP. -/
  | limitStepUp
  /-- TRIGGER_QUALIFIED: the named pin at its edge. Of the levels those of the pin and of the pins below it are read, which
  R169 lets go before it. -/
  | triggerQualified (pin : PinEdge)
  /-- REFERENCE_PULSE: rising edge at `now`. -/
  | referencePulse (now : Stamp)
  /-- REFERENCE_TIMEOUT. -/
  | referenceTimeout
  /-- ROW_ARRIVAL: the levels of the pixel port line since the last such command, as far as the bit at which a packet,
whole or broken, arrives; true is high. -/
  | rowArrival (levels : List Bool)
  /-- ROW_COMMIT. -/
  | rowCommit
  /-- RAIL_SAMPLE: the two sense inputs in units of 1/65536 of the internal reference; `ahead` says that this is the
  sample of slot 0 of the coming frame, taken at the tick of its edge and before that edge. -/
  | railSample (tile fixture : Nat) (ahead : Bool)
  /-- FETCH_COMPLETE. -/
  | fetchComplete
  /-- FETCH_TIMEOUT: the queued request of the named lane. -/
  | fetchTimeout (lane : Fin 4)
  /-- LOADER_REQUEST: the loader request input rises. -/
  | loaderRequest
  /-- LOADER_RELEASE: the loader request input drops. -/
  | loaderRelease (drop : LoaderDrop)
  deriving DecidableEq, Repr

end Sys2Proof
end

