-- ==== Sys2Proof/Decode.lean ====
section
/-! DEFINITION. The reader of command words. No row of spec/opcode_table.json gives bits: the commands of the SN6 are
events and not words, so no word spells one. -/

namespace Sys2Proof

/-- The command that a word of the table's bits spells: none, since no row of the table gives a match or a field. -/
def decodeTableWord (_nbits _w : Nat) : Option Instr := none

end Sys2Proof
end

