-- ==== Sys2Proof/Config.lean ====
section
/-! DEFINITION. What an implementation or an installation fixes: the checked configuration block as its values stand
after replacement (Table 13-4, Table 12-3), and the factory serial. -/

namespace Sys2Proof

/-- Number mode of the configuration block, with the values the mode uses (R25). -/
inductive NumberMode where
  | fixed (n : Station)
  | claim (lo hi : Station) (preferred : Nat)
  deriving DecidableEq, Repr

/-- Merge mode of a channel (R140). -/
inductive MergeMode where
  | htp
  | ltp
  deriving DecidableEq, Repr

/-- Polarity of a fixture output (R140). -/
inductive Polarity where
  | normal
  | inverted
  deriving DecidableEq, Repr

/-- Function of a trigger pin (Table 11-2). -/
inductive PinFunction where
  | none
  | goNext (playback : Fin 16)
  | hold (playback : Fin 16)
  | release (playback : Fin 16)
  | tally (camera : Fin 8)
  deriving DecidableEq, Repr

/-- Edge selection of a trigger pin (Table 11-2). -/
inductive EdgeSelect where
  | rise
  | fall
  | both
  deriving DecidableEq, Repr

/-- Configuration of one trigger pin (Table 11-2). -/
structure PinConfig where
  function  : PinFunction
  edge      : EdgeSelect
  debounce  : Nat
  mask      : BitVec 16
  lead      : Nat
  firstCue  : Nat
  step      : Nat
  deriving DecidableEq, Repr

/-- Configuration of one channel (Table 9-2). -/
structure ChannelConfig where
  merge     : MergeMode
  current   : Nat
  cycles    : Nat
  minOnTime : Nat
  polarity  : Polarity
  slew      : Nat
  deriving DecidableEq, Repr

/-- A zone: a rectangle of one tile (R79). -/
structure Zone where
  tile     : Nat
  firstCol : Nat
  lastCol  : Nat
  firstRow : Nat
  lastRow  : Nat
  deriving DecidableEq, Repr

/-- A scan profile: slots per frame M and blank ticks (R90). -/
structure ScanProfile where
  slots : Nat
  blank : Nat
  deriving DecidableEq, Repr

/-- The values the frame timer takes at a start and holds (R43, R65). -/
structure TimerConfig where
  pNom           : Nat
  window         : Nat
  slew           : Nat
  tLost          : Nat
  rxLatency      : Nat
  position       : Nat
  leadPermission : Bool
  deriving DecidableEq, Repr

/-- The values of the budget unit (Table 10-2). -/
structure BudgetConfig where
  limit            : Nat
  leastLimit       : Nat
  floor            : Nat
  wall             : Rgb
  tileThreshold    : Nat
  fixtureThreshold : Nat
  recoveryLength   : Nat
  deriving DecidableEq, Repr

/-- A configuration block that has passed its check, every non-structural value replaced (R183). -/
structure Config where
  timer             : TimerConfig
  bitTime           : Nat
  mode              : NumberMode
  restartPermission : Bool
  anchorExpected    : Bool
  ageLimit          : Nat
  fetchTimeout      : Nat
  holdLimit         : Nat
  paceTrigger       : Nat
  tiles             : Nat
  zones             : List Zone
  statusPeriod      : Nat
  gains             : Vector Rgb 4
  profiles          : Vector ScanProfile 9
  bindings          : Vector (Option (Fin 16)) 4
  groups            : BitVec 16
  channels          : Vector ChannelConfig 36
  budget            : BudgetConfig
  pins              : Vector PinConfig 8
  deriving DecidableEq, Repr

/-- The factory-programmed serial of the part, unique to each (Table 1-3): no value is stated. -/
opaque Config.factorySerial : BitVec 32

end Sys2Proof
end

