-- ==== Sys2Proof/Machine/State.lean ====
section
/-! DEFINITION. The state of the SN6, block by block (Table 1-1), the fault and refusal reasons, and the state right
after reset. Blocks that run exactly while the part is in RUNNING (pixel ingest, wall, lane engine, output stage,
budget unit, trigger and tally unit, report unit: R66, R83, R114, R141, R154, R167, R179) hold no running flag of
their own, and the link controller is held exactly while it is not (R1). -/

namespace Sys2Proof.Machine

open Sys2Proof

/-! ## Shared shapes -/

/-- A value published at each frame edge: the last and the previous one, the last labelled with the edge (counted in
order) at which it was published (1.6.5, R89, R144, R164). -/
structure Published (α : Type) where
  last     : α
  previous : α
  label    : Nat
  deriving DecidableEq, Repr

/-- Where a channel's target comes from (Table 7-4). A zone byte above 7 stands at or above every zone count (R190). -/
inductive Source where
  | fixed (level : Nat)
  | zone (zone : Nat) (component : Fin 3)
  deriving DecidableEq, Repr

/-! ## Start-up controller (Table 12-1) -/

/-- The phases of the part (12.1). -/
inductive Phase where
  | reset
  | configLoad
  | running
  | safe
  deriving DecidableEq, Repr

/-- Why the configuration was last read (R180, R186, R188). -/
inductive StartCause where
  | cold
  | restart
  | reload
  deriving DecidableEq, Repr

/-- Why a configuration block failed its check (Table 12-2). -/
inductive LoadFault where
  | check
  | period
  | rate
  | mode
  | range
  | tiles
  | zone
  deriving DecidableEq, Repr

/-- State of the start-up controller, with the two sources that may hold the part in reset (R180). -/
structure Startup where
  phase             : Phase
  pinHolds          : Bool
  supplyHolds       : Bool
  cause             : Option StartCause
  readAsked         : Bool
  restartPermission : Option Bool
  anchorExpected    : Option Bool
  lastLoadFault     : Option LoadFault
  failedLoads       : Nat
  restartRefused    : Nat
  deriving DecidableEq, Repr

/-! ## Link controller -/

/-- Link states (Table 2-6). -/
inductive LinkState where
  | active
  | caution
  | quiet
  | detached
  deriving DecidableEq, Repr

/-- The last-fault code (R15). -/
inductive FaultCode where
  | none
  | coding
  | form
  | level
  | check
  | noAck
  | unchanged
  deriving DecidableEq, Repr

/-- Timing roles as carried in SYNC and STATUS (Table 13-2). -/
inductive Role where
  | start
  | anchored
  | leading
  | following
  | free
  deriving DecidableEq, Repr

/-- A SYNC as the frame timer writes it (R57): the edge it stands for by number and stamp, role and link position.
The lateness is filled at each attempt (R17). -/
structure SyncBody where
  frame    : FrameNo
  edge     : Stamp
  role     : Role
  position : Nat
  deriving DecidableEq, Repr

/-- A CLAIM as the number unit writes it (R27, R30). -/
structure ClaimBody where
  candidate : Station
  serial    : BitVec 32
  deriving DecidableEq, Repr

/-- A TALLY as the trigger and tally unit writes it (R172). -/
structure TallyBody where
  mask : BitVec 8
  on   : BitVec 8
  deriving DecidableEq, Repr

/-- A STATUS as the report unit writes it (R174): the payload bytes of Table 13-1 but for the link state and the
last-fault code, which are filled at each attempt. -/
structure StatusBody where
  role        : Byte
  lock        : Byte
  leader      : Byte
  numbering   : Byte
  faults      : Byte
  scale       : Byte
  lanes01     : Byte
  lanes23     : Byte
  repeatRun   : Byte
  deriving DecidableEq, Repr

/-- An ANSWER as the report unit writes it (R175). -/
structure AnswerBody where
  requester : Station
  part      : Fin 4
  page      : Byte
  data      : List Byte
  deriving DecidableEq, Repr

/-- What a cue message asks for. -/
inductive CueKind where
  | go (cue : BitVec 16)
  | hold
  | release
  deriving DecidableEq, Repr

/-- A GO, HOLD or RELEASE: playback byte, group mask and execute frame (Table 13-1). -/
structure CueMessage where
  kind     : CueKind
  playback : Byte
  mask     : BitVec 16
  execute  : FrameNo
  deriving DecidableEq, Repr

/-- An outbound slot: its pending message, a message deferred behind it while it is in transmission, and whether the
pending message's lifetime ended while in transmission (R18). -/
structure Slot (α : Type) where
  pending  : Option α
  deferred : Option α
  ended    : Bool
  deriving DecidableEq, Repr

/-- The empty slot. -/
def Slot.empty {α : Type} : Slot α := ⟨none, none, false⟩

/-- Which slot, or the trigger queue, a message in transmission came from (R16). -/
inductive SlotName where
  | sync
  | claim
  | tally
  | status
  | answer
  | trigger
  deriving DecidableEq, Repr

/-- A message as it stands in its envelope (Table 2-1). -/
structure Envelope where
  cls     : BitVec 2
  kind    : BitVec 4
  origin  : Station
  payload : List Byte
  deriving DecidableEq, Repr

/-- What becomes of the trigger message in transmission if its attempt fails: it stays at the head of the queue (R11),
it is dropped as expired (R19), or it is delivered to the own lanes (R20). -/
inductive TriggerFate where
  | stays
  | expires
  | delivered
  deriving DecidableEq, Repr

/-- The message in transmission: the filled envelope, the bits it puts on the link (R3), the stamp of its start bit and,
for a SYNC, its lateness (R17). -/
structure Attempt where
  source   : SlotName
  message  : Envelope
  wire     : List Bool
  stamp    : Stamp
  lateness : Nat
  fate     : TriggerFate
  deriving DecidableEq, Repr

/-- Where an error signal begins: with the bit after the one at which the fault was found, or, for a CHECK fault, with
the bit after the acknowledge delimiter (R10). -/
inductive SignalStart where
  | nextBit
  | afterAckDelimiter
  deriving DecidableEq, Repr

/-- An error signal of the node: where it begins, and the level of its 9 bits, false for dominant (R10). -/
structure ErrorSignal where
  start : SignalStart
  level : Bool
  deriving DecidableEq, Repr

/-- The count of idle sequences in DETACHED (R14): the recessive bits of the sequence in progress, 0 to 13, and the
sequences completed. -/
structure IdleCount where
  bits : Nat
  done : Nat
  deriving DecidableEq, Repr

/-- Counters of Table 2-10. -/
structure LinkCounters where
  detach          : Nat
  stale           : Nat
  answerReplaced  : Nat
  triggerRefused  : Nat
  triggerExpired  : Nat
  unsentTrigger   : Nat
  lengthRefused   : Nat
  deriving DecidableEq, Repr

/-- State of the link controller. `joined` is set once 11 recessive bits have been seen after leaving the held
condition (R1). `idle` is the count of idle sequences in DETACHED (R14). `signal` is present from the node's error
signal until the link is free for it again (R10). `waitQuiet` says that the node waits 8 further recessive bits before
it contends (R6). -/
structure Link where
  joined        : Bool
  bitTime       : Nat
  tecCount      : Nat
  recCount      : Nat
  state         : LinkState
  idle          : IdleCount
  lastFault     : FaultCode
  signal        : Option ErrorSignal
  waitQuiet     : Bool
  attempt       : Option Attempt
  sync          : Slot SyncBody
  claim         : Slot ClaimBody
  tally         : Slot TallyBody
  status        : Slot StatusBody
  answer        : Slot AnswerBody
  triggers      : List CueMessage
  counters      : LinkCounters
  deriving DecidableEq, Repr

/-! ## Number unit (Table 3-1) -/

/-- Numbering states with the items present in each; `stopped` is a number unit that has not started (R25). -/
inductive Numbering where
  | stopped
  | fixed (n : Station)
  | listen (count : Nat)
  | claiming (candidate : Station) (window : Option Nat)
  | holding (n : Station)
  | numberless
  deriving DecidableEq, Repr

/-- Counters of Table 3-3. -/
structure NumberCounters where
  listenEntry : Nat
  withdraw    : Nat
  yield       : Nat
  defence     : Nat
  duplicate   : Nat
  deriving DecidableEq, Repr

/-- State of the number unit; `kept` is the HOLDING number carried through a warm restart (R36). -/
structure NumberUnit where
  numbering      : Numbering
  taken          : List Station
  duplicate      : Bool
  duplicateQuiet : Nat
  kept           : Option Station
  counters       : NumberCounters
  deriving DecidableEq, Repr

/-! ## Peer table (Table 3-4) -/

/-- A present entry of the peer table. -/
structure Peer where
  silence  : Nat
  role     : Option Role
  position : Option Nat
  /-- last SYNC frame and SYNC silence count -/
  sync     : Option (FrameNo × Nat)
  deriving DecidableEq, Repr

/-! ## Frame timer (Table 4-1) -/

/-- Lock quality codes (Table 13-2). -/
inductive LockQuality where
  | acquiring
  | locked
  | unlocked
  deriving DecidableEq, Repr

/-- The lock quality with its runs and quiet count (R54). -/
structure Lock where
  quality : LockQuality
  inRun   : Nat
  outRun  : Nat
  quiet   : Nat
  deriving DecidableEq, Repr

/-- The role with the items present in it (Table 4-1). -/
inductive TimerRole where
  | start (count : Nat)
  | anchored (lock : Lock)
  | leading
  | following (leader : Station) (lock : Lock) (jump : Bool)
  | free
  deriving DecidableEq, Repr

/-- A frame pair (n, m): the source's frame n corresponds to own frame m (R60). -/
structure FramePair where
  n : FrameNo
  m : FrameNo
  deriving DecidableEq, Repr

/-- A held measurement: phase error, and a frame pair for a beacon measurement (R60, R61). -/
structure Measurement where
  e    : Int
  pair : Option FramePair
  deriving DecidableEq, Repr

/-- The reference capture (R55). -/
structure RefCapture where
  lastPulse : Option Stamp
  good      : Nat
  valid     : Bool
  deriving DecidableEq, Repr

/-- The frame timer while it runs. `restart` holds the configuration with a new P_nom that starts it anew at its next
edge (R65). The next scheduled edge is `lastEdge` plus `length` (R44). -/
structure TimerRun where
  config       : TimerConfig
  restart      : Option TimerConfig
  pf           : Nat
  fraction     : Nat
  frame        : FrameNo
  length       : Nat
  lastEdge     : Stamp
  previousEdge : Option Stamp
  role         : TimerRole
  held         : Option Measurement
  numbering    : Option FramePair
  capture      : RefCapture
  lastError    : Int
  lastLateness : Nat
  deriving DecidableEq, Repr

/-- Counters of Table 4-6. -/
structure TimerCounters where
  renumber      : Nat
  jump          : Nat
  leaderChange  : Nat
  lockLoss      : Nat
  referenceLoss : Nat
  intervalFault : Nat
  beaconRefused : Nat
  beaconsSent   : Nat
  deriving DecidableEq, Repr

/-- State of the frame timer: stopped, or running; its counters; and `edges`, the model's own count of the frame edges
it has handed, by which edges are told apart in order (R89, R144). -/
structure FrameTimer where
  run      : Option TimerRun
  counters : TimerCounters
  edges    : Nat
  deriving DecidableEq, Repr

/-! ## Pixel port (13.3) -/

/-- The receiver of the pixel port (R191), by what it waits for. Levels come one for each bit time.
* `idle high`: no packet; the line has rested high for `high` bit times, at 20 or more a start bit begins a packet.
* `gap bytes high`: in a packet, `bytes` received (latest first), between two characters, the line high for `high` bit
  times since the stop bit.
* `char bytes bits`: in a character of a packet after its start bit, `bits` sampled (latest first); with 8 the stop bit
  is next.
* `tail left line high more`: after the 293rd character's last data bit, before the line has rested. `left` bits of a
  character are to come, the stop bit of the 293rd at first; `line` is the last level; the line has rested for `high` bit
  times; `more` says that a start bit has come. -/
inductive PixelPort where
  | idle (high : Nat)
  | gap (bytes : List Byte) (high : Nat)
  | char (bytes : List Byte) (bits : List Bool)
  | tail (left : Nat) (line : Bool) (high : Nat) (more : Bool)
  deriving DecidableEq, Repr

/-- What arrives at the pixel port: the 293 bytes of a packet, or a packet whose framing broke (R191). -/
inductive RowPacket where
  | whole (bytes : List Byte)
  | broken
  deriving DecidableEq, Repr

/-! ## Pixel ingest and the back buffer (Table 5-1) -/

/-- A row that has passed its check (Table 5-2). -/
structure Row where
  tag    : FrameNo
  tile   : Nat
  row    : Nat
  pixels : List Rgb
  deriving DecidableEq, Repr

/-- The pace line (R70). -/
inductive Pace where
  | go
  | stop
  deriving DecidableEq, Repr

/-- Back buffer states (Table 5-5). -/
inductive BackState where
  | empty
  | opened (tag : FrameNo)
  | complete (tag : FrameNo)
  deriving DecidableEq, Repr

/-- A pixel store: rows of 64 pixels at address tile × 64 + row, addresses strictly rising; an unlisted row is black. -/
abbrev PixelStore := List (Nat × List Rgb)

/-- The back buffer: state, store, received-row sets and sums. -/
structure BackBuffer where
  state    : BackState
  store    : PixelStore
  received : Vector (List Nat) 4
  tileSums : Vector Rgb 4
  zoneSums : Vector Rgb 8
  deriving DecidableEq, Repr

/-- Counts of Table 5-7. -/
structure IngestCounts where
  bad         : Nat
  malformed   : Nat
  outOfWindow : Nat
  stale       : Nat
  overrun     : Nat
  duplicate   : Nat
  superseded  : Nat
  deriving DecidableEq, Repr

/-- State of pixel ingest. -/
structure Ingest where
  queue  : List Row
  pace   : Pace
  writer : Option Row
  back   : BackBuffer
  counts : IngestCounts
  deriving DecidableEq, Repr

/-! ## Wall buffers and scan (Table 6-1) -/

/-- The wall figures: tile means and zone averages (R89). -/
structure Figures where
  tiles : Vector Rgb 4
  zones : Vector Rgb 8
  deriving DecidableEq, Repr

/-- The frame drive set of the scan: slots, slot lengths and lit window (R92), and the wall master, trims and scale by
which R93 and R94 give the on-time of every component of the front store, which no event of the frame changes (R85). -/
structure ScanDrive where
  slots      : Nat
  slotLength : Nat
  lastLength : Nat
  lit        : Nat
  master     : Nat
  trims      : Rgb
  scale      : Nat
  deriving DecidableEq, Repr

/-- State of the wall buffers and scan. `profile` is the profile in use: a camera 0 to 7, or 8 for the default. -/
structure Wall where
  front        : PixelStore
  figures      : Published Figures
  repeatRun    : Nat
  repeatHanded : Published Nat
  held         : Bool
  profile      : Option (Fin 9)
  drive        : Option ScanDrive
  repeats      : Nat
  missed       : Nat
  deriving DecidableEq, Repr

/-! ## Fetch unit (Table 7-1) -/

/-- Holder of the show memory port. -/
inductive PortUser where
  | none
  | fetch
  | configRead
  | loader
  deriving DecidableEq, Repr

/-- A fetch request (Table 7-2). -/
structure FetchRequest where
  lane     : Fin 4
  playback : Fin 16
  cue      : BitVec 16
  execute  : FrameNo
  wait     : Nat
  deriving DecidableEq, Repr

/-- The fetch in flight, with the tick at which its first read began; its phase and the bytes read so far follow from
the ticks since (R98, R102). -/
structure Flight where
  request : FetchRequest
  began   : Stamp
  deriving DecidableEq, Repr

/-- Reasons of a BAD_RECORD (R100, R101). -/
inductive BadReason where
  | check
  | number
  | curve
  | channel
  | source
  | count
  deriving DecidableEq, Repr

/-- The last bad record (R103). -/
structure BadRecord where
  playback : Fin 16
  cue      : BitVec 16
  reason   : BadReason
  deriving DecidableEq, Repr

/-- Counters of Table 7-5. -/
structure FetchCounters where
  done      : Nat
  notFound  : Nat
  badRecord : Nat
  timeout   : Nat
  withdraw  : Nat
  abort     : Nat
  grant     : Nat
  deriving DecidableEq, Repr

/-- State of the fetch unit; `loaderRequest` is the level of the loader request input. -/
structure Fetch where
  port          : PortUser
  grant         : Bool
  loaderRequest : Bool
  queue         : List FetchRequest
  flight        : Option Flight
  lastBad       : Option BadRecord
  counters      : FetchCounters
  deriving DecidableEq, Repr

/-! ## Lane engine (Tables 8-1 and 8-2) -/

/-- Curves of a fade (Table 7-3). -/
inductive Curve where
  | linear
  | square
  | step
  deriving DecidableEq, Repr

/-- An entry of a cue record (Table 7-4). -/
structure CueEntry where
  channel : Fin 36
  source  : Source
  deriving DecidableEq, Repr

/-- The follow part of a cue record (Table 7-3). -/
structure Follow where
  wait : Nat
  next : BitVec 16
  deriving DecidableEq, Repr

/-- A cue record (Table 7-3). -/
structure CueRecord where
  number  : BitVec 16
  fade    : Nat
  delay   : Nat
  curve   : Curve
  follow  : Option Follow
  entries : List CueEntry
  deriving DecidableEq, Repr

/-- Whether the current cue runs, or is PAUSED with its pause age and pause frame. -/
inductive Running where
  | run
  | paused (age : Nat) (frame : FrameNo)
  deriving DecidableEq, Repr

/-- A listed channel of the current cue: source, snapshot S and target T. -/
structure Listed where
  channel  : Fin 36
  source   : Source
  snapshot : Nat
  target   : Nat
  deriving DecidableEq, Repr

/-- The current cue of a lane. `settle` says that the listed channels are still to be formed by R127 although the
position stands at the end: at the edge that reaches it, or at the first edge after a RELEASE applied at once. -/
structure CurrentCue where
  record   : CueRecord
  execute  : FrameNo
  origin   : Origin
  listed   : List Listed
  position : Nat
  runBase  : Nat
  running  : Running
  settle   : Bool
  deriving DecidableEq, Repr

/-- How a pending GO came about. -/
inductive GoKind where
  | message
  | follow
  deriving DecidableEq, Repr

/-- Where the record of a pending GO is: asked for (QUEUED or IN_FLIGHT, read from the fetch unit), READY or
WAIT_EDGE (Table 8-2). -/
inductive GoFetch where
  | asked
  | ready (record : CueRecord)
  | waitEdge (record : CueRecord)
  deriving DecidableEq, Repr

/-- A pending GO (Table 8-2). -/
structure PendingGo where
  cue     : BitVec 16
  execute : FrameNo
  origin  : Origin
  kind    : GoKind
  fetch   : GoFetch
  deriving DecidableEq, Repr

/-- HOLD or RELEASE. -/
inductive ControlKind where
  | hold
  | release
  deriving DecidableEq, Repr

/-- An entry of a control list (R131). -/
structure ControlEntry where
  kind    : ControlKind
  execute : FrameNo
  deriving DecidableEq, Repr

/-- A lane level with its channel source. -/
structure LaneLevel where
  level  : Nat
  source : Source
  deriving DecidableEq, Repr

/-- Counts of Table 8-4. -/
structure LaneCounts where
  start   : Nat
  catchUp : Nat
  contest : Nat
  failure : Nat
  ignored : Nat
  deriving DecidableEq, Repr

/-- One lane; a lane with no current cue is EMPTY. -/
structure Lane where
  binding : Option (Fin 16)
  current : Option CurrentCue
  levels  : Vector (Option LaneLevel) 36
  pending : Option PendingGo
  control : List ControlEntry
  counts  : LaneCounts
  deriving DecidableEq, Repr

/-- Lane conditions (Table 13-2). -/
inductive Condition where
  | empty
  | delaying
  | fading
  | steady
  | paused
  deriving DecidableEq, Repr

/-- Node counts of Table 8-5. -/
structure NodeCounts where
  invalidCue    : Nat
  windowRefused : Nat
  superseded    : Nat
  followRefused : Nat
  deriving DecidableEq, Repr

/-- State of the lane engine: four lanes, the channel owner table, the node counts and the conditions handed to the
report unit (R136). -/
structure LaneEngine where
  lanes      : Vector Lane 4
  owners     : Vector (Option (Fin 4)) 36
  counts     : NodeCounts
  conditions : Published (Vector Condition 4)
  deriving DecidableEq, Repr

/-! ## Output stage (Table 9-3) -/

/-- The drive of one fixture channel in a frame (R149, R150). -/
structure FixtureDrive where
  cycle     : Nat
  lastCycle : Nat
  duty      : Nat
  deriving DecidableEq, Repr

/-- State of the output stage. `driven` is absent while the outputs are released, and otherwise gives the polarity
each is driven with (R141). -/
structure OutputStage where
  merged : Published (Vector Nat 36)
  drive  : Option (Vector FixtureDrive 32)
  driven : Option (Vector Polarity 32)
  deriving DecidableEq, Repr

/-! ## Budget unit (Table 10-1) -/

/-- The last sample of a rail (R157). -/
inductive RailState where
  | above
  | below
  deriving DecidableEq, Repr

/-- Counts of R165. -/
structure BudgetCounts where
  tileSag    : Nat
  fixtureSag : Nat
  stepDown   : Nat
  overload   : Nat
  deriving DecidableEq, Repr

/-- State of the budget unit. `nextBelow` is the below flag of the coming frame, set by the sample of its slot 0 when
that sample is taken before the edge (R157, R159). -/
structure Budget where
  demand         : Nat
  effectiveLimit : Nat
  recoveryRun    : Nat
  frameBelow     : Bool
  nextBelow      : Bool
  observed       : Bool
  tileRail       : RailState
  fixtureRail    : RailState
  scale          : Published Nat
  overload       : Bool
  counts         : BudgetCounts
  deriving DecidableEq, Repr

/-! ## Trigger and tally unit, report unit (Table 11-1) -/

/-- Debounce state of a pin: stable level (true for HIGH) and run count. -/
structure PinState where
  stable : Option Bool
  run    : Nat
  deriving DecidableEq, Repr

/-- A camera of the tally table: on-air state and source origin. -/
structure Camera where
  onAir  : Bool
  source : Option Station
  deriving DecidableEq, Repr

/-- State of the trigger and tally unit. -/
structure Triggers where
  pins       : Vector PinState 8
  localTally : Vector (Option Bool) 8
  cameras    : Vector Camera 8
  formed     : Nat
  unresolved : Nat
  tallySent  : Nat
  deriving DecidableEq, Repr

/-- State of the report unit; the fault line follows from the conditions of Table 11-3 (R177). -/
structure Report where
  answered    : Nat
  unknownPage : Nat
  deriving DecidableEq, Repr

/-! ## The edge now due -/

/-- The MODEL's own: what commands of their own have already done of the edge now due, so that FRAME_EDGE does exactly
the rest of it (DESIGN CHOICE, notes/assumptions/6.md). -/
structure Ahead where
  /-- the lock quality is accounted -/
  lock   : Bool
  /-- the role is evaluated -/
  role   : Bool
  /-- the number unit has worked -/
  number : Bool
  /-- the ending frame is judged against the effective limit -/
  limit  : Bool
  /-- how many of the pins, lowest first, have their sample taken (R169) -/
  pins   : Nat
  deriving DecidableEq, Repr

/-- Nothing of the edge is done. -/
def Ahead.none : Ahead := ⟨false, false, false, false, 0⟩

/-- What stays done when every block but the frame timer starts afresh. -/
def Ahead.timerOnly (a : Ahead) : Ahead := { Ahead.none with lock := a.lock, role := a.role }

/-! ## The whole part -/

/-- The state of the SN6 and the commands waiting for it, first in, first out. `config` is the checked block the
last start took, held until the next or a cold reset (R114, R184), `showMemory` the bytes of the flash on the show memory
port, addresses strictly rising. -/
structure State where
  pending    : List Instr
  ahead      : Ahead
  tick       : Stamp
  serial     : BitVec 32
  config     : Option Config
  startup    : Startup
  link       : Link
  number     : NumberUnit
  peers      : Vector (Option Peer) 64
  timer      : FrameTimer
  pixelPort  : PixelPort
  ingest     : Ingest
  wall       : Wall
  fetch      : Fetch
  lanes      : LaneEngine
  output     : OutputStage
  budget     : Budget
  triggers   : Triggers
  report     : Report
  showMemory : List Host.Cell
  deriving DecidableEq, Repr

/-- Faults of a step: none. Every command of the table has the effect its rules give it in every state, and the rules
name no event after which the part stops (safe). -/
inductive Fault where
  deriving DecidableEq, Repr

/-- Refusals of a step. -/
inductive Refusal where
  /-- Raised by `exec` alone, for a row of the table that has no meaning yet (safe); no arm raises it now. -/
  | notModelled (mnemonic : String)
  deriving DecidableEq, Repr

/-! ## Cold reset values -/

/-- A published value whose two sets are equal. -/
def Published.both {α : Type} (v : α) (label : Nat) : Published α := ⟨v, v, label⟩

/-- Table 2-11: the link controller after either kind of reset. -/
def Link.initial : Link where
  joined := false
  bitTime := 0
  tecCount := 0
  recCount := 0
  state := .active
  idle := ⟨0, 0⟩
  lastFault := .none
  signal := none
  waitQuiet := false
  attempt := none
  sync := Slot.empty
  claim := Slot.empty
  tally := Slot.empty
  status := Slot.empty
  answer := Slot.empty
  triggers := []
  counters := ⟨0, 0, 0, 0, 0, 0, 0⟩

/-- R36: the number unit after cold reset. -/
def NumberUnit.initial : NumberUnit where
  numbering := .stopped
  taken := []
  duplicate := false
  duplicateQuiet := 0
  kept := none
  counters := ⟨0, 0, 0, 0, 0⟩

/-- R41: every entry absent. -/
def noPeers : Vector (Option Peer) 64 := Vector.replicate 64 none

/-- Table 4-6 counters at 0. -/
def TimerCounters.zero : TimerCounters := ⟨0, 0, 0, 0, 0, 0, 0, 0⟩

/-- R77: no row received and every sum 0; the store is what it was. -/
def BackBuffer.cleared (store : PixelStore) : BackBuffer where
  state := .empty
  store := store
  received := Vector.replicate 4 []
  tileSums := Vector.replicate 4 Rgb.black
  zoneSums := Vector.replicate 8 Rgb.black

/-- Table 5-8: pixel ingest after either kind of reset; the pixel store is not cleared (R82). -/
def Ingest.initial (store : PixelStore) : Ingest where
  queue := []
  pace := .go
  writer := none
  back := BackBuffer.cleared store
  counts := ⟨0, 0, 0, 0, 0, 0, 0⟩

/-- Wall figures of 0. -/
def Figures.zero : Figures := ⟨Vector.replicate 4 Rgb.black, Vector.replicate 8 Rgb.black⟩

/-- Table 6-4: the wall buffers and scan after either kind of reset; `label` counts the edges made. -/
def Wall.initial (label : Nat) : Wall where
  front := []
  figures := Published.both Figures.zero label
  repeatRun := 0
  repeatHanded := Published.both 0 label
  held := false
  profile := none
  drive := none
  repeats := 0
  missed := 0

/-- Table 7-5 counters at 0. -/
def FetchCounters.zero : FetchCounters := ⟨0, 0, 0, 0, 0, 0, 0⟩

/-- Table 8-6: one lane after either kind of reset, with its binding. -/
def Lane.initial (binding : Option (Fin 16)) : Lane where
  binding := binding
  current := none
  levels := Vector.replicate 36 none
  pending := none
  control := []
  counts := ⟨0, 0, 0, 0, 0⟩

/-- Table 8-6: the lane engine after either kind of reset, with the bindings. -/
def LaneEngine.initial (bindings : Vector (Option (Fin 16)) 4) (label : Nat) : LaneEngine where
  lanes := bindings.map Lane.initial
  owners := Vector.replicate 36 none
  counts := ⟨0, 0, 0, 0⟩
  conditions := Published.both (Vector.replicate 4 .empty) label

/-- Table 9-5: the output stage after reset, its outputs released or driven dark. -/
def OutputStage.initial (driven : Option (Vector Polarity 32)) (label : Nat) : OutputStage where
  merged := Published.both (Vector.replicate 36 0) label
  drive := none
  driven := driven

/-- Table 10-4: the budget unit after reset, with the effective limit it starts from. -/
def Budget.initial (limit : Nat) (label : Nat) : Budget where
  demand := 0
  effectiveLimit := limit
  recoveryRun := 0
  frameBelow := false
  nextBelow := false
  observed := false
  tileRail := .above
  fixtureRail := .above
  scale := Published.both 65535 label
  overload := false
  counts := ⟨0, 0, 0, 0⟩

/-- Table 11-5: the trigger and tally unit after either kind of reset. -/
def Triggers.initial : Triggers where
  pins := Vector.replicate 8 ⟨none, 0⟩
  localTally := Vector.replicate 8 none
  cameras := Vector.replicate 8 ⟨false, none⟩
  formed := 0
  unresolved := 0
  tallySent := 0

/-- The part held in RESET (R180): every block in its cold reset state, the loader grant following the loader request
(R113). What a reset does not touch is carried in: the waiting commands, the tick counter, the serial, show memory,
the loader request, the receiver of the pixel port (R66), the store of the back buffer (R82) and the sources that hold
the part. No lane is bound until a start (R114; that none is bound from a cold reset on is DESIGN CHOICE,
notes/assumptions/3.md). -/
def State.inReset (pending : List Instr) (tick : Stamp) (serial : BitVec 32) (showMemory : List Host.Cell)
    (loaderRequest : Bool) (pixelPort : PixelPort) (backStore : PixelStore) (pinHolds supplyHolds : Bool) : State where
  pending := pending
  ahead := Ahead.none
  tick := tick
  serial := serial
  config := none
  startup :=
    { phase := .reset, pinHolds := pinHolds, supplyHolds := supplyHolds, cause := none, readAsked := false,
      restartPermission := none, anchorExpected := none, lastLoadFault := none, failedLoads := 0, restartRefused := 0 }
  link := Link.initial
  number := NumberUnit.initial
  peers := noPeers
  timer := ⟨none, TimerCounters.zero, 0⟩
  pixelPort := pixelPort
  ingest := Ingest.initial backStore
  wall := Wall.initial 0
  fetch :=
    { port := if loaderRequest then .loader else .none, grant := loaderRequest, loaderRequest := loaderRequest,
      queue := [], flight := none, lastBad := none, counters := FetchCounters.zero }
  lanes := LaneEngine.initial (Vector.replicate 4 none) 0
  output := OutputStage.initial none 0
  budget := Budget.initial 0 0
  triggers := Triggers.initial
  report := ⟨0, 0⟩
  showMemory := showMemory

/-- The part right after reset: power has come up, the core supply detector holds (R180), every block is in its cold
reset state, no command waits. What the spec gives no value for is zero, released or unlisted (notes/assumptions/3.md). -/
def State.reset : State :=
  State.inReset [] 0 Config.factorySerial [] false (.idle 0) [] false true

end Sys2Proof.Machine
end

