-- ==== Sys2Proof/Machine/Ops.lean ====
section
/-! DEFINITION. The operations every block shares: counters, frame-number and tick-stamp order, scaling, the cyclic
remainder, the sparse stores, published values, and reading and writing the blocks of a state. -/

namespace Sys2Proof.Machine

open Sys2Proof

/-! ## Counters (1.6.7) -/

/-- Raise a 16-bit counter, saturating at 65535. -/
def raise16 (n : Nat) : Nat := min 65535 (n + 1)

/-- Raise an 8-bit count, saturating at 255. -/
def raise8 (n : Nat) : Nat := min 255 (n + 1)

/-- Raise a 16-bit counter `k` times. -/
def raise16By (k n : Nat) : Nat := min 65535 (n + k)

/-- Raise an 8-bit count `k` times. -/
def raise8By (k n : Nat) : Nat := min 255 (n + k)

/-! ## Frame-number order (1.6.2) -/

/-- How many frames `a` stands ahead of `b`, mod 65536. -/
def framesAhead (a b : FrameNo) : Nat := (a - b).toNat

/-- Frame `a` is later than frame `b`. -/
def later (a b : FrameNo) : Bool := decide (1 ≤ framesAhead a b) && decide (framesAhead a b ≤ 32767)

/-- Frame `a` is more than `n` frames later than frame `b`. -/
def moreLater (n : Nat) (a b : FrameNo) : Bool := decide (n < framesAhead a b) && decide (framesAhead a b ≤ 32767)

/-- Frames `a` and `b` stand unordered. -/
def unordered (a b : FrameNo) : Bool := decide (framesAhead a b = 32768)

/-- The difference (a − b) read as a signed number in −32768 to 32767 (R105). -/
def signedFrames (a b : FrameNo) : Int := (a - b).toInt

/-- Frame `e` lies outside the window of 255 frames behind `f`: more than 255 frames earlier, or unordered (R121). -/
def tooOld (e f : FrameNo) : Bool := moreLater 255 f e || unordered e f

/-! ## Tick stamps (1.6.4) -/

/-- The tick difference from `b` to `a`, signed. -/
def tickDiff (a b : Stamp) : Int := (a - b).toInt

/-- Ticks from `b` to a later stamp `a`. -/
def ticksSince (a b : Stamp) : Nat := (a - b).toNat

/-- Stamp `a` is later than stamp `b`. -/
def stampLater (a b : Stamp) : Bool := decide (0 < tickDiff a b)

/-! ## Scaling by a level (1.6.3) -/

/-- `x` scaled by the level `level`. -/
def scaleBy (x level : Nat) : Nat := x * (level + 1) / 65536

/-! ## The cyclic remainder x^16 + x^12 + x^5 + 1 (R4, R67, R100, R182) -/

/-- Bits fed one after another into the remainder register. -/
def crcFrom (r : BitVec 16) : List Bool → BitVec 16
  | [] => r
  | b :: rest => if r.msb = b then crcFrom (r <<< 1) rest else crcFrom ((r <<< 1) ^^^ 0x1021#16) rest

/-- The bits of a number, most significant of `n` bits first. -/
def bitsOf (n : Nat) (v : Nat) : List Bool := (List.range n).map fun i => v.testBit (n - 1 - i)

/-- The number whose bits, most significant first, are given. -/
def valueOf (bits : List Bool) : Nat := bits.foldl (fun v b => 2 * v + b.toNat) 0

/-- The bits of bytes in the order sent: bit 7 of each first (13.1). -/
def bitsOfBytes (bytes : List Byte) : List Bool := bytes.flatMap fun b => bitsOf 8 b.toNat

/-- The remainder of a bit string, the register loaded with FFFFh and sent as it stands. -/
def crcBits (bits : List Bool) : BitVec 16 := crcFrom 0xFFFF#16 bits

/-- The remainder of a byte string. -/
def crcBytes (bytes : List Byte) : BitVec 16 := crcBits (bitsOfBytes bytes)

/-! ## Byte strings (13.1) -/

/-- The number a byte string holds, most significant byte first. -/
def bigEndian (bytes : List Byte) : Nat := bytes.foldl (fun v b => 256 * v + b.toNat) 0

/-- A number as `n` bytes, most significant first, reduced to them. -/
def toBytes (n : Nat) (v : Nat) : List Byte :=
  (List.range n).map fun i => BitVec.ofNat 8 (v >>> (8 * (n - 1 - i)))

/-- The number in `n` bytes of a string from byte `at_` on; bytes past its end count as 0. -/
def fieldAt (bytes : List Byte) (at_ n : Nat) : Nat :=
  bigEndian ((List.range n).map fun i => bytes.getD (at_ + i) 0)

/-! ## Sparse stores in canonical form

A store is a list of address and value pairs, addresses strictly rising, with no entry equal to what an unlisted address
reads as. -/

/-- The value at an address. -/
def readCell {α : Type} (unlisted : α) : List (Nat × α) → Nat → α
  | [], _ => unlisted
  | (k, v) :: rest, a => if a = k then v else if a < k then unlisted else readCell unlisted rest a

/-- The store with one value written. -/
def writeCell {α : Type} [DecidableEq α] (unlisted : α) : List (Nat × α) → Nat → α → List (Nat × α)
  | [], a, x => if x = unlisted then [] else [(a, x)]
  | (k, v) :: rest, a, x =>
    if a < k then (if x = unlisted then (k, v) :: rest else (a, x) :: (k, v) :: rest)
    else if a = k then (if x = unlisted then rest else (a, x) :: rest)
    else (k, v) :: writeCell unlisted rest a x

/-- The canonical form holds, every address being `low` or above. -/
def cellsFrom {α : Type} [DecidableEq α] (unlisted : α) : Nat → List (Nat × α) → Bool
  | _, [] => true
  | low, (k, v) :: rest => decide (low ≤ k) && decide (v ≠ unlisted) && cellsFrom unlisted (k + 1) rest

/-- The canonical form holds. -/
def canonical {α : Type} [DecidableEq α] (unlisted : α) (cells : List (Nat × α)) : Bool := cellsFrom unlisted 0 cells

/-- What a byte of show memory that nothing has written reads as: FFh, an erased flash
(DESIGN CHOICE, notes/assumptions/2.md). -/
def Memory.unlisted : Byte := 0xFF#8

/-- The canonical form of show memory. -/
def Memory.wf (cells : List Host.Cell) : Bool := canonical Memory.unlisted cells

/-- A row of the pixel store that nothing has written: 64 black pixels. -/
def blackRow : List Rgb := List.replicate 64 Rgb.black

/-- The canonical form of a pixel store. -/
def PixelStore.wf (s : PixelStore) : Bool := canonical blackRow s

/-- Address of a row in a pixel store. -/
def rowAddress (tile row : Nat) : Nat := 64 * tile + row

/-- A byte of show memory: every offset is taken modulo 1,048,576 (R98). -/
def readShow (cells : List Host.Cell) (offset : Nat) : Byte := readCell Memory.unlisted cells (offset % 1048576)

/-- `n` bytes of show memory from an offset on (R98). -/
def readShowBytes (cells : List Host.Cell) (offset n : Nat) : List Byte :=
  (List.range n).map fun i => readShow cells (offset + i)

/-- The bytes a loader stores in show memory, in order (R110). -/
def writeShow (cells : List Host.Cell) (writes : List (Nat × Byte)) : List Host.Cell :=
  writes.foldl (fun c w => writeCell Memory.unlisted c (w.1 % 1048576) w.2) cells

/-! ## Published values (1.6.5) -/

/-- Publish a value at the edge with the given label: the last becomes the previous. -/
def Published.publish {α : Type} (p : Published α) (edge : Nat) (v : α) : Published α := ⟨v, p.last, edge⟩

/-- What a block that reads at the edge with the given label obtains: the value labelled with the edge before, which is
the previous one if the publisher has already worked at this edge (R89, R145, R164). -/
def Published.readBefore {α : Type} (p : Published α) (edge : Nat) : α := if p.label = edge then p.previous else p.last

/-! ## Reading a state -/

/-- The phase is RUNNING: every block has been started (R184). -/
def State.isRunning (s : State) : Bool := decide (s.startup.phase = .running)

/-- The link controller is held: before the configuration passes, in CONFIG_LOAD and in SAFE (R1). -/
def State.linkHeld (s : State) : Bool := !s.isRunning

/-- The station number held: in FIXED and HOLDING (Table 3-1). -/
def State.heldNumber (s : State) : Option Station :=
  match s.number.numbering with
  | .fixed n => some n
  | .holding n => some n
  | _ => none

/-- The origin of a message applied locally: the number held, or 64 (R115). -/
def State.localOrigin (s : State) : Origin :=
  match s.heldNumber with
  | some n => n.castSucc
  | none => 64

/-- The current frame: the number of the last edge the frame timer made; 0 while it is stopped, when no block reads it. -/
def State.frame (s : State) : FrameNo :=
  match s.timer.run with
  | some r => r.frame
  | none => 0

/-! ## Writing a state -/

def State.setAhead (s : State) (x : Ahead) : State := { s with ahead := x }
def State.setTick (s : State) (x : Stamp) : State := { s with tick := x }
def State.setConfig (s : State) (x : Option Config) : State := { s with config := x }
def State.setStartup (s : State) (x : Startup) : State := { s with startup := x }
def State.setLink (s : State) (x : Link) : State := { s with link := x }
def State.setNumber (s : State) (x : NumberUnit) : State := { s with number := x }
def State.setPeers (s : State) (x : Vector (Option Peer) 64) : State := { s with peers := x }
def State.setTimer (s : State) (x : FrameTimer) : State := { s with timer := x }
def State.setPixelPort (s : State) (x : PixelPort) : State := { s with pixelPort := x }
def State.setIngest (s : State) (x : Ingest) : State := { s with ingest := x }
def State.setWall (s : State) (x : Wall) : State := { s with wall := x }
def State.setFetch (s : State) (x : Fetch) : State := { s with fetch := x }
def State.setLanes (s : State) (x : LaneEngine) : State := { s with lanes := x }
def State.setOutput (s : State) (x : OutputStage) : State := { s with output := x }
def State.setBudget (s : State) (x : Budget) : State := { s with budget := x }
def State.setTriggers (s : State) (x : Triggers) : State := { s with triggers := x }
def State.setReport (s : State) (x : Report) : State := { s with report := x }
def State.setShowMemory (s : State) (x : List Host.Cell) : State := { s with showMemory := x }

/-- The tick counter has gone on to `now`; it never goes back (R42). -/
def State.advanceTo (s : State) (now : Stamp) : State := if stampLater now s.tick then s.setTick now else s

end Sys2Proof.Machine
end

