-- ==== Sys2Proof/Machine/Port.lean ====
section
/-! DEFINITION. The receiver of the pixel port (13.3): characters, packets, and where a packet or a broken packet arrives
(R191). -/

namespace Sys2Proof.Machine

open Sys2Proof

/-- The byte whose bits, latest first, are given (13.3: bit 7 comes first). -/
def byteOfBits (bits : List Bool) : Byte := BitVec.ofNat 8 (valueOf bits.reverse)

/-- R191: one level taken by the receiver, and what arrives at that bit. A rest is counted from the end of a stop bit, or
from the first high level where the receiver is in no character; after the 293rd character's last data bit a start bit is
a low level after a high one, so that a line that stays low after a low stop bit begins no character
(both DESIGN CHOICE, notes/assumptions/28.md). -/
def PixelPort.take (p : PixelPort) (level : Bool) : PixelPort × Option RowPacket :=
  match p with
  | .idle high =>
    if level then (.idle (min 20 (high + 1)), none) else if 20 ≤ high then (.char [] [], none) else (.idle 0, none)
  | .gap bytes high =>
    if !level then (.char bytes [], none)
    else if 20 ≤ high + 1 then (.idle 20, some .broken)
    else (.gap bytes (high + 1), none)
  | .char bytes bits =>
    if bits.length < 8 then
      let got := level :: bits
      if got.length = 8 ∧ bytes.length = 292 then
        (.tail 1 false 0 false, some (.whole (byteOfBits got :: bytes).reverse))
      else (.char bytes got, none)
    else if level then (.gap (byteOfBits bits :: bytes) 0, none)
    else (.idle 0, some .broken)
  | .tail left line high more =>
    if 0 < left then (.tail (left - 1) level 0 more, none)
    else if level then
      if 20 ≤ high + 1 then (.idle 20, if more then some .broken else none) else (.tail 0 true (high + 1) more, none)
    else if line then (.tail 9 false 0 true, none)
    else (.tail 0 false 0 more, none)

/-- R191: the levels of the line taken one after another, and what arrives, in order. -/
def PixelPort.run (p : PixelPort) : List Bool → PixelPort × List RowPacket
  | [] => (p, [])
  | level :: rest =>
    let x := p.take level
    let y := x.1.run rest
    (y.1, x.2.toList ++ y.2)

/-- The levels of one character: a low start bit, 8 data bits from bit 7 down, a high stop bit (13.3). -/
def characterLevels (b : Byte) : List Bool := false :: bitsOf 8 b.toNat ++ [true]

/-- The levels of characters that follow one another without a rest (13.3). -/
def packetLevels (bytes : List Byte) : List Bool := bytes.flatMap characterLevels

end Sys2Proof.Machine
end

