-- ==== Sys2Proof/Machine/Operands.lean ====
section
/-! DEFINITION. The layouts of the Formats chapter: link payloads and their codes, the row packet, the configuration
block with its check and replacements, the directory, list indexes and cue records. -/

namespace Sys2Proof.Machine

open Sys2Proof

/-! ## Codes (Table 13-2) -/

/-- Code of a timing role. -/
def Role.code : Role → Nat
  | .start => 0
  | .anchored => 1
  | .leading => 2
  | .following => 3
  | .free => 4

/-- The role a code names; above 4 it is taken as FREE (R190). -/
def Role.ofCode (c : Nat) : Role :=
  match c with
  | 0 => .start
  | 1 => .anchored
  | 2 => .leading
  | 3 => .following
  | _ => .free

/-- Code of a lock quality. -/
def LockQuality.code : LockQuality → Nat
  | .acquiring => 1
  | .locked => 2
  | .unlocked => 3

/-- Code of a link state. -/
def LinkState.code : LinkState → Nat
  | .active => 0
  | .caution => 1
  | .quiet => 2
  | .detached => 3

/-- Code of a numbering state; a stopped number unit has none and sends nothing, and 0 stands in its place. -/
def Numbering.code : Numbering → Nat
  | .stopped => 0
  | .fixed _ => 0
  | .listen _ => 1
  | .claiming _ _ => 2
  | .holding _ => 3
  | .numberless => 4

/-- Last-fault codes. -/
def FaultCode.code : FaultCode → Nat
  | .none => 0
  | .coding => 1
  | .form => 2
  | .level => 3
  | .check => 4
  | .noAck => 5
  | .unchanged => 6

/-- The last-fault code a fault sets (R15). -/
def FaultCode.ofKind : LinkFaultKind → FaultCode
  | .coding => .coding
  | .form => .form
  | .level => .level
  | .check => .check
  | .noAck => .noAck

/-- Code of a lane condition. -/
def Condition.code : Condition → Nat
  | .empty => 0
  | .delaying => 1
  | .fading => 2
  | .steady => 3
  | .paused => 4

/-- Code of a bad record reason. -/
def BadReason.code : BadReason → Nat
  | .check => 1
  | .number => 2
  | .curve => 3
  | .channel => 4
  | .source => 5
  | .count => 6

/-- Code of a start cause. -/
def StartCause.code : StartCause → Nat
  | .cold => 1
  | .restart => 2
  | .reload => 3

/-- Code of a load fault. -/
def LoadFault.code : LoadFault → Nat
  | .check => 1
  | .period => 2
  | .rate => 3
  | .mode => 4
  | .range => 5
  | .tiles => 6
  | .zone => 7

/-! ## Link payloads (Table 13-1) -/

/-- The listed message kinds (Table 2-2). -/
inductive MessageKind where
  | sync
  | claim
  | go
  | hold
  | release
  | tally
  | query
  | answer
  | restart
  | status
  deriving DecidableEq, Repr

/-- Class of a kind. -/
def MessageKind.cls : MessageKind → BitVec 2
  | .sync | .claim => 0
  | .go | .hold | .release | .tally => 1
  | .query | .answer | .restart => 2
  | .status => 3

/-- Kind code within its class. -/
def MessageKind.kind : MessageKind → BitVec 4
  | .sync => 0
  | .claim => 1
  | .go => 0
  | .hold => 1
  | .release => 2
  | .tally => 3
  | .query => 0
  | .answer => 1
  | .restart => 2
  | .status => 0

/-- Payload length of a kind. -/
def MessageKind.length : MessageKind → Nat
  | .sync => 8
  | .claim => 4
  | .go => 7
  | .hold => 5
  | .release => 5
  | .tally => 2
  | .query => 3
  | .answer => 12
  | .restart => 1
  | .status => 10

/-- The fields of a received SYNC. -/
structure SyncFields where
  frame    : FrameNo
  lateness : Nat
  role     : Role
  position : Nat
  deriving DecidableEq, Repr

/-- A SYNC payload; the link position is its low 10 bits (R190). -/
def readSync (p : List Byte) : SyncFields where
  frame := BitVec.ofNat 16 (fieldAt p 0 2)
  lateness := fieldAt p 2 3
  role := Role.ofCode (fieldAt p 5 1)
  position := fieldAt p 6 2 % 1024

/-- The bytes of a SYNC payload. -/
def syncPayload (f : SyncFields) : List Byte :=
  toBytes 2 f.frame.toNat ++ toBytes 3 f.lateness ++ toBytes 1 f.role.code ++ toBytes 2 f.position

/-- The serial of a CLAIM payload. -/
def readClaim (p : List Byte) : BitVec 32 := BitVec.ofNat 32 (fieldAt p 0 4)

/-- A GO payload. -/
def readGo (p : List Byte) : CueMessage where
  kind := .go (BitVec.ofNat 16 (fieldAt p 3 2))
  playback := BitVec.ofNat 8 (fieldAt p 0 1)
  mask := BitVec.ofNat 16 (fieldAt p 1 2)
  execute := BitVec.ofNat 16 (fieldAt p 5 2)

/-- A HOLD or RELEASE payload. -/
def readControl (kind : CueKind) (p : List Byte) : CueMessage where
  kind := kind
  playback := BitVec.ofNat 8 (fieldAt p 0 1)
  mask := BitVec.ofNat 16 (fieldAt p 1 2)
  execute := BitVec.ofNat 16 (fieldAt p 3 2)

/-- The bytes of a GO, HOLD or RELEASE payload. -/
def cuePayload (m : CueMessage) : List Byte :=
  toBytes 1 m.playback.toNat ++ toBytes 2 m.mask.toNat ++
    (match m.kind with
     | .go cue => toBytes 2 cue.toNat
     | .hold => []
     | .release => []) ++ toBytes 2 m.execute.toNat

/-- The message kind a cue message is sent as. -/
def CueKind.message : CueKind → MessageKind
  | .go _ => .go
  | .hold => .hold
  | .release => .release

/-- A TALLY payload. -/
def readTally (p : List Byte) : TallyBody := ⟨BitVec.ofNat 8 (fieldAt p 0 1), BitVec.ofNat 8 (fieldAt p 1 1)⟩

/-- The fields of a QUERY; the part is the low 2 bits of its byte (R175). -/
structure QueryFields where
  target : Nat
  page   : Byte
  part   : Fin 4
  deriving DecidableEq, Repr

/-- A QUERY payload. -/
def readQuery (p : List Byte) : QueryFields :=
  ⟨fieldAt p 0 1, BitVec.ofNat 8 (fieldAt p 1 1), Fin.ofNat 4 (fieldAt p 2 1)⟩

/-- The bytes of an ANSWER payload: requester in bits 5–0 and part in bits 7–6 of byte 0. -/
def answerPayload (a : AnswerBody) : List Byte :=
  toBytes 1 (a.part.val * 64 + a.requester.val) ++ [a.page] ++ a.data

/-- The bytes of a STATUS payload with the link state and last-fault code of the attempt (R17). -/
def statusPayload (b : StatusBody) (state : LinkState) (fault : FaultCode) : List Byte :=
  [b.role, b.lock, b.leader, BitVec.ofNat 8 (state.code * 16) ||| b.numbering, BitVec.ofNat 8 fault.code, b.faults,
    b.scale, b.lanes01, b.lanes23, b.repeatRun]

/-- The timing role a STATUS payload carries. -/
def readStatusRole (p : List Byte) : Role := Role.ofCode (fieldAt p 0 1)

/-! ## Row packet (Table 13-3) -/

/-- Pixel `i` of a packet: 36 bits from bit 36 × i of byte 3, red, green and blue. -/
def packetPixel (bytes : List Byte) (i : Nat) : Rgb :=
  let bits := (bitsOfBytes ((bytes.drop (3 + 36 * i / 8)).take 5)).drop (36 * i % 8)
  ⟨valueOf (bits.take 12), valueOf ((bits.drop 12).take 12), valueOf ((bits.drop 24).take 12)⟩

/-- The row of a whole packet whose check matches; nothing for a packet of another length or with a mismatch (R67). -/
def readRow (bytes : List Byte) : Option Row :=
  if bytes.length = 293 ∧ (crcBytes (bytes.take 291)).toNat = fieldAt bytes 291 2 then
    some
      { tag := BitVec.ofNat 16 (fieldAt bytes 0 2), tile := fieldAt bytes 2 1 / 64, row := fieldAt bytes 2 1 % 64,
        pixels := (List.range 64).map (packetPixel bytes) }
  else none

/-! ## Configuration block (Tables 12-2, 12-3, 13-4) -/

/-- The largest member of an ascending list not above a value, or the first member (R90, R140, Table 12-3). -/
def largestMember (members : List Nat) (v : Nat) : Nat := members.foldl (fun best m => if m ≤ v then m else best) (members.headD 0)

/-- A value of 0 taken as a default, any other brought into low to high. -/
def replaced (default_ low high v : Nat) : Nat := if v = 0 then default_ else max low (min high v)

/-- A zone at its place in the block. -/
def readZone (b : List Byte) (i : Nat) : Zone :=
  let at_ := 50 + 5 * i
  ⟨fieldAt b at_ 1, fieldAt b (at_ + 1) 1, fieldAt b (at_ + 2) 1, fieldAt b (at_ + 3) 1, fieldAt b (at_ + 4) 1⟩

/-- A zone inside one of `tiles` tiles (Table 12-2, row 7). -/
def Zone.fits (z : Zone) (tiles : Nat) : Bool :=
  decide (z.tile < tiles) && decide (z.firstCol ≤ z.lastCol) && decide (z.lastCol ≤ 63) &&
    decide (z.firstRow ≤ z.lastRow) && decide (z.lastRow ≤ 63)

/-- Slots per frame of a profile (R90). -/
def clampSlots (m : Nat) : Nat := largestMember [1, 2, 3, 4, 5, 6, 8, 10, 12, 16] m

/-- PWM cycles per frame (Table 9-2). -/
def clampCycles (k : Nat) : Nat := largestMember [1, 2, 4, 8, 16, 32, 64, 128] k

/-- Pace trigger (Table 12-3). -/
def clampPace (t : Nat) : Nat := largestMember [1, 2, 4, 6] t

/-- A channel at its place in the block, clamped by Table 9-2. -/
def readChannel (b : List Byte) (i : Nat) : ChannelConfig :=
  let at_ := 123 + 9 * i
  { merge := if fieldAt b at_ 1 = 0 then .htp else .ltp
    current := min 10000 (fieldAt b (at_ + 1) 2)
    cycles := clampCycles (fieldAt b (at_ + 3) 1)
    minOnTime := min 4095 (fieldAt b (at_ + 4) 2)
    polarity := if fieldAt b (at_ + 6) 1 = 0 then .normal else .inverted
    slew := replaced 1 1 65535 (fieldAt b (at_ + 7) 2) }

/-- The function of a pin from its code and its playback or camera (Table 11-2). -/
def pinFunction (code arg : Nat) : PinFunction :=
  match code with
  | 1 => if arg ≤ 15 then .goNext (Fin.ofNat 16 arg) else .none
  | 2 => if arg ≤ 15 then .hold (Fin.ofNat 16 arg) else .none
  | 3 => if arg ≤ 15 then .release (Fin.ofNat 16 arg) else .none
  | 4 => if arg ≤ 7 then .tally (Fin.ofNat 8 arg) else .none
  | _ => .none

/-- A pin at its place in the block, clamped by Table 11-2. -/
def readPin (b : List Byte) (i : Nat) : PinConfig :=
  let at_ := 464 + 10 * i
  { function := pinFunction (fieldAt b at_ 1) (fieldAt b (at_ + 1) 1)
    edge := match fieldAt b (at_ + 2) 1 with | 0 => .rise | 1 => .fall | _ => .both
    debounce := min 15 (fieldAt b (at_ + 3) 1)
    mask := BitVec.ofNat 16 (fieldAt b (at_ + 4) 2)
    lead := replaced 1 1 15 (fieldAt b (at_ + 6) 1)
    firstCue := replaced 1 1 65534 (fieldAt b (at_ + 7) 2)
    step := replaced 1 1 255 (fieldAt b (at_ + 9) 1) }

/-- The budget items, clamped by Table 10-2. -/
def readBudget (b : List Byte) : BudgetConfig :=
  let limit := min 200000 (fieldAt b 447 3)
  { limit := limit
    leastLimit := min limit (fieldAt b 450 3)
    floor := fieldAt b 453 2
    wall := ⟨min 20000 (fieldAt b 455 2), min 20000 (fieldAt b 457 2), min 20000 (fieldAt b 459 2)⟩
    tileThreshold := replaced 1 1 15 (fieldAt b 461 1)
    fixtureThreshold := replaced 1 1 15 (fieldAt b 462 1)
    recoveryLength := replaced 1 1 255 (fieldAt b 463 1) }

/-- The values the frame timer takes, replaced by Table 12-3. -/
def readTimerConfig (b : List Byte) : TimerConfig where
  pNom := fieldAt b 0 3
  window := replaced 54 1 2700 (fieldAt b 10 2)
  slew := replaced 27 1 2700 (fieldAt b 12 2)
  tLost := replaced 6 2 64 (fieldAt b 14 1)
  rxLatency := fieldAt b 17 1
  position := min 1023 (fieldAt b 18 2)
  leadPermission := (fieldAt b 9 1).testBit 0

/-- Tile gain of one tile (Table 13-4), limited to 2,047 (Table 12-3). -/
def readGain (b : List Byte) (tile : Nat) : Rgb :=
  let at_ := 26 + 6 * tile
  ⟨min 2047 (fieldAt b at_ 2), min 2047 (fieldAt b (at_ + 2) 2), min 2047 (fieldAt b (at_ + 4) 2)⟩

/-- A scan profile, clamped by R90 and Table 12-3. -/
def readProfile (b : List Byte) (i : Nat) : ScanProfile :=
  ⟨clampSlots (fieldAt b (90 + 3 * i) 1), min 4095 (fieldAt b (91 + 3 * i) 2)⟩

/-- The bit time in ticks of a bit rate code: 250, 500 or 1000 kbit/s (R1). -/
def bitTimeOf (code : Nat) : Option Nat :=
  match code with
  | 0 => some 108
  | 1 => some 54
  | 2 => some 27
  | _ => none

/-- The number mode of the block, judged by rows 4 and 5 of Table 12-2. -/
def readMode (b : List Byte) : Except LoadFault NumberMode :=
  match fieldAt b 4 1 with
  | 0 => if 63 < fieldAt b 5 1 then .error .mode else .ok (.fixed (Fin.ofNat 64 (fieldAt b 5 1)))
  | 1 =>
    if fieldAt b 7 1 < fieldAt b 6 1 ∨ 63 < fieldAt b 7 1 then .error .range
    else .ok (.claim (Fin.ofNat 64 (fieldAt b 6 1)) (Fin.ofNat 64 (fieldAt b 7 1)) (fieldAt b 8 1))
  | _ => .error .mode

/-- The checked block with every value that Table 12-2 does not test replaced (R183). -/
def buildConfig (b : List Byte) (bitTime : Nat) (mode : NumberMode) : Config where
  timer := readTimerConfig b
  bitTime := bitTime
  mode := mode
  restartPermission := (fieldAt b 9 1).testBit 1
  anchorExpected := (fieldAt b 9 1).testBit 2
  ageLimit := replaced 100 16 1024 (fieldAt b 15 2)
  fetchTimeout := replaced 25 1 255 (fieldAt b 20 1)
  holdLimit := replaced 1 1 255 (fieldAt b 21 1)
  paceTrigger := clampPace (fieldAt b 22 1)
  tiles := fieldAt b 23 1
  zones := (List.range (fieldAt b 24 1)).map (readZone b)
  statusPeriod := if fieldAt b 25 1 = 16 then 16 else if fieldAt b 25 1 = 32 then 32 else 64
  gains := Vector.ofFn fun i => readGain b i.val
  profiles := Vector.ofFn fun i => readProfile b i.val
  bindings := Vector.ofFn fun i =>
    let p := fieldAt b (117 + i.val) 1
    if p ≤ 15 then some (Fin.ofNat 16 p) else none
  groups := BitVec.ofNat 16 (fieldAt b 121 2)
  channels := Vector.ofFn fun i => readChannel b i.val
  budget := readBudget b
  pins := Vector.ofFn fun i => readPin b i.val

/-- The check of a configuration block: the remainder over bytes 0 to 1021, then the structural values in the order of
Table 12-2 (R182). -/
def judgeBlock (b : List Byte) : Except LoadFault Config :=
  if (crcBytes (b.take 1022)).toNat ≠ fieldAt b 1022 2 then .error .check
  else if fieldAt b 0 3 < 400000 ∨ 1200000 < fieldAt b 0 3 then .error .period
  else
    match bitTimeOf (fieldAt b 3 1) with
    | none => .error .rate
    | some bitTime =>
      match readMode b with
      | .error e => .error e
      | .ok mode =>
        if fieldAt b 23 1 < 1 ∨ 4 < fieldAt b 23 1 then .error .tiles
        else if 8 < fieldAt b 24 1 then .error .zone
        else if ((List.range (fieldAt b 24 1)).map (readZone b)).all (Zone.fits · (fieldAt b 23 1)) then
          .ok (buildConfig b bitTime mode)
        else .error .zone

/-! ## Directory, list index and cue record (Tables 13-5 to 13-7) -/

/-- A directory entry: list index offset (its low 20 bits, R190) and cue count. -/
def readDirectory (cells : List Host.Cell) (playback : Fin 16) : Nat × Nat :=
  let b := readShowBytes cells (1024 + 4 * playback.val) 4
  (fieldAt b 0 3 % 1048576, fieldAt b 3 1)

/-- Entry `i` of a list index: cue number and record offset (its low 20 bits). -/
def readIndex (cells : List Host.Cell) (offset i : Nat) : Nat × Nat :=
  let b := readShowBytes cells (offset + 5 * i) 5
  (fieldAt b 0 2, fieldAt b 2 3 % 1048576)

/-- How the walk of a list index ends: entries read, and the record offset of the cue where it was found (R102 b). -/
def walkIndex (cells : List Host.Cell) (offset cue : Nat) : Nat → Nat → Nat × Option Nat
  | 0, i => (i, none)
  | left + 1, i =>
    let e := readIndex cells offset i
    if e.1 = cue then (i + 1, some e.2)
    else if cue < e.1 then (i + 1, none)
    else walkIndex cells offset cue left (i + 1)

/-- The source of a cue entry, or the test it fails (R101, Table 13-7). -/
def readEntrySource (b0 b1 b2 : Nat) : Option Source :=
  match b0 / 64 with
  | 0 => some (.fixed (256 * b1 + b2))
  | 1 => if b2 < 3 then some (.zone b1 (Fin.ofNat 3 b2)) else none
  | _ => none

/-- The entries of a record in stored order, each judged by tests 4 and 5 of R101 against those before it. -/
def readEntries (bytes : List Byte) (at_ : Nat) : Nat → List CueEntry → Except BadReason (List CueEntry)
  | 0, before => .ok before.reverse
  | left + 1, before =>
    let b0 := fieldAt bytes at_ 1
    let c := b0 % 64
    if 36 ≤ c ∨ before.any (fun e => e.channel.val = c) then .error .channel
    else
      match readEntrySource b0 (fieldAt bytes (at_ + 1) 1) (fieldAt bytes (at_ + 2) 1) with
      | none => .error .source
      | some src => readEntries bytes (at_ + 3) left (⟨Fin.ofNat 36 c, src⟩ :: before)

/-- Where the entry count of a record stands: after a follow part if the flag is set (Table 13-6). -/
def countPlace (flags : Nat) : Nat := if flags.testBit 7 then 10 else 6

/-- The curve of a code. -/
def curveOf (code : Nat) : Option Curve :=
  match code with
  | 0 => some .linear
  | 1 => some .square
  | 2 => some .step
  | _ => none

/-- The length of the read that brings a record: to its end, or to the entry count where that is out of range (R100). -/
def recordLength (cells : List Host.Cell) (offset : Nat) : Nat :=
  let place := countPlace (readShow cells (offset + 5)).toNat
  let count := (readShow cells (offset + place)).toNat
  if count < 1 ∨ 36 < count then place + 1 else place + 1 + 3 * count + 2

/-- A cue record read and judged by R100 and R101; `cue` is the cue number of the index entry that led to it. -/
def judgeRecord (cells : List Host.Cell) (offset cue : Nat) : Except BadReason CueRecord :=
  let n := recordLength cells offset
  let b := readShowBytes cells offset n
  let flags := fieldAt b 5 1
  let place := countPlace flags
  let count := fieldAt b place 1
  if count < 1 ∨ 36 < count then .error .count
  else if (crcBytes (b.take (n - 2))).toNat ≠ fieldAt b (n - 2) 2 then .error .check
  else if fieldAt b 0 2 ≠ cue then .error .number
  else
    match curveOf (flags % 128) with
    | none => .error .curve
    | some curve =>
      match readEntries b (place + 1) count [] with
      | .error e => .error e
      | .ok entries =>
        .ok
          { number := BitVec.ofNat 16 (fieldAt b 0 2), fade := fieldAt b 2 2, delay := fieldAt b 4 1, curve := curve,
            follow := if flags.testBit 7 then some ⟨fieldAt b 6 2, BitVec.ofNat 16 (fieldAt b 8 2)⟩ else none,
            entries := entries }

end Sys2Proof.Machine
end

