-- ==== Sys2Proof/Machine/Fetch.lean ====
section
/-! DEFINITION. The fetch unit: the show memory port and its choice (R105), requests and withdrawals of the lanes
(R104, R107), the progress and the outcome of a fetch (R98 to R102). -/

namespace Sys2Proof.Machine

open Sys2Proof

/-! ## The queue and the port -/

/-- R105: request `a` comes before request `b` in queue order at current frame `f`. -/
def FetchRequest.before (f : FrameNo) (a b : FetchRequest) : Bool :=
  let da := signedFrames a.execute f
  let db := signedFrames b.execute f
  decide (da < db) || (decide (da = db) && decide (a.lane < b.lane))

/-- The request joins the queue at its place. -/
def insertRequest (f : FrameNo) (r : FetchRequest) : List FetchRequest → List FetchRequest
  | [] => [r]
  | x :: rest => if r.before f x then r :: x :: rest else x :: insertRequest f r rest

/-- The first request in queue order, the order taken at the moment of choice (R105). -/
def firstRequest (f : FrameNo) : List FetchRequest → Option FetchRequest
  | [] => none
  | x :: rest =>
    match firstRequest f rest with
    | none => some x
    | some y => if y.before f x then some y else some x

/-- R105: the port is free and is given by the order of claims: the loader, a waiting configuration read, the first
queued request, or nobody. -/
def State.choosePort (s : State) : State :=
  let u := s.fetch
  if u.loaderRequest then
    s.setFetch
      { u with port := .loader, grant := true, flight := none,
               counters := { u.counters with grant := raise16 u.counters.grant } }
  else if s.startup.readAsked then s.setFetch { u with port := .configRead, grant := false, flight := none }
  else
    match firstRequest s.frame u.queue with
    | some r =>
      s.setFetch
        { u with port := .fetch, grant := false, flight := some ⟨r, s.tick⟩,
                 queue := u.queue.filter fun x => decide (x.lane ≠ r.lane) }
    | none => s.setFetch { u with port := .none, grant := false, flight := none }

/-- R181, R186: the start-up controller sets its read asked flag; on a free port the read takes it at once. -/
def State.askRead (s : State) : State :=
  let s := s.setStartup { s.startup with readAsked := true }
  if s.fetch.port = .none then s.setFetch { s.fetch with port := .configRead } else s

/-- R107: the request of a lane is withdrawn: removed from the queue, or aborted in flight, which frees the port; a
withdrawal that names a lane with no request changes nothing. -/
def State.withdrawRequest (s : State) (lane : Fin 4) : State :=
  let u := s.fetch
  if u.flight.any fun fl => decide (fl.request.lane = lane) then
    (s.setFetch
      { u with flight := none, port := .none,
               counters := { u.counters with abort := raise16 u.counters.abort } }).choosePort
  else if u.queue.any fun r => decide (r.lane = lane) then
    s.setFetch
      { u with queue := u.queue.filter fun r => decide (r.lane ≠ lane),
               counters := { u.counters with withdraw := raise16 u.counters.withdraw } }
  else s

/-- R104: a request is handed: an earlier one of its lane is withdrawn first; on a free port the request becomes the
fetch in flight, otherwise it joins the queue. -/
def State.handRequest (s : State) (lane : Fin 4) (playback : Fin 16) (cue : BitVec 16) (execute : FrameNo) : State :=
  let s := s.withdrawRequest lane
  let u := s.fetch
  let r : FetchRequest := ⟨lane, playback, cue, execute, 0⟩
  if u.port = .none then s.setFetch { u with port := .fetch, flight := some ⟨r, s.tick⟩ }
  else s.setFetch { u with queue := insertRequest s.frame r u.queue }

/-! ## What a fetch brings (R102) -/

/-- Outcome of a completed fetch. -/
inductive FetchOutcome where
  | done (record : CueRecord)
  | notFound
  | badRecord (reason : BadReason)
  deriving DecidableEq, Repr

/-- R102: the walk of directory, list index and record for cue `cue` of a playback. -/
def fetchOutcome (cells : List Host.Cell) (playback : Fin 16) (cue : BitVec 16) : FetchOutcome :=
  let d := readDirectory cells playback
  match (walkIndex cells d.1 cue.toNat d.2 0).2 with
  | none => .notFound
  | some offset =>
    match judgeRecord cells offset cue.toNat with
    | .ok record => .done record
    | .error reason => .badRecord reason

/-- Phases of a fetch (R102). -/
inductive FetchPhase where
  | directory
  | index
  | record
  deriving DecidableEq, Repr

/-- Code of a fetch phase (Table 13-2). -/
def FetchPhase.code : FetchPhase → Nat
  | .directory => 1
  | .index => 2
  | .record => 3

/-- Bits moved by the read of one phase: 32 of command and offset, then its bytes (R98). -/
def readBits (bytes : Nat) : Nat := 32 + 8 * bytes

/-- Bytes the list index read of a fetch takes (R102 b). -/
def indexBytes (cells : List Host.Cell) (playback : Fin 16) (cue : BitVec 16) : Nat :=
  let d := readDirectory cells playback
  5 * (walkIndex cells d.1 cue.toNat d.2 0).1

/-- The phase of a fetch `ticks` ticks after it began, one bit every 2 ticks (R98, R102). From the end of the last read the
fetch needs until FETCH_COMPLETE is taken, the phase goes on with the ticks as if a further read followed, up to RECORD
(DESIGN CHOICE, notes/assumptions/18.md). -/
def phaseAfter (cells : List Host.Cell) (r : FetchRequest) (ticks : Nat) : FetchPhase :=
  let moved := ticks / 2
  if moved < readBits 4 then .directory
  else if moved < readBits 4 + readBits (indexBytes cells r.playback r.cue) then .index
  else .record

/-- The bytes read so far in the phase a fetch has reached (Table 7-1); no bound is put on them once the last read the
fetch needs has ended (DESIGN CHOICE, notes/assumptions/18.md). -/
def bytesReadAfter (cells : List Host.Cell) (r : FetchRequest) (ticks : Nat) : Nat :=
  let moved := ticks / 2
  let toIndex := readBits 4
  let toRecord := toIndex + readBits (indexBytes cells r.playback r.cue)
  match phaseAfter cells r ticks with
  | .directory => (moved - 32) / 8
  | .index => (moved - toIndex - 32) / 8
  | .record => (moved - toRecord - 32) / 8

/-- The phase the fetch in flight has reached by now. -/
def State.flightPhase (s : State) : Option FetchPhase :=
  s.fetch.flight.map fun fl => phaseAfter s.showMemory fl.request (ticksSince s.tick fl.began)

/-- The part drives the show memory port: only for its own reads (R98). -/
def State.drivesPort (s : State) : Bool :=
  decide (s.startup.phase ≠ .reset) && (decide (s.fetch.port = .fetch) || decide (s.fetch.port = .configRead))

end Sys2Proof.Machine
end

