-- ==== Sys2Proof/Machine/Flags.lean ====
section
/-! DEFINITION. The conditions that follow from other state: the link state from its counts, the condition of a lane from
its cue, the fault conditions, the fault summary and the fault line. -/

namespace Sys2Proof.Machine

open Sys2Proof

/-- Table 2-6 outside DETACHED: the link state the counts give. -/
def LinkState.ofCounts (tec rec_ : Nat) : LinkState :=
  if 100 ≤ tec ∨ 100 ≤ rec_ then .quiet
  else if 64 ≤ tec ∨ 64 ≤ rec_ then .caution
  else .active

/-- R13: set the state after a change of a count, except in DETACHED, which R14 governs. -/
def Link.followCounts (l : Link) : Link :=
  if l.state = .detached then l else { l with state := LinkState.ofCounts l.tecCount l.recCount }

/-- D + N of the current cue: the position at which it stands at its target (R126). -/
def CurrentCue.length (c : CurrentCue) : Nat := c.record.delay + c.record.fade

/-- The condition of a running cue at a position (R126). -/
def CurrentCue.conditionAt (c : CurrentCue) (q : Nat) : Condition :=
  if q < c.record.delay then .delaying else if q < c.length then .fading else .steady

/-- The condition of a lane (Table 8-1). -/
def Lane.condition (l : Lane) : Condition :=
  match l.current with
  | none => .empty
  | some c =>
    match c.running with
    | .paused _ _ => .paused
    | .run => c.conditionAt c.position

/-- The anchor is missing: the frame timer runs, an anchor is expected and the capture is not valid (Table 11-3). -/
def State.anchorMissing (s : State) : Bool :=
  match s.timer.run with
  | none => false
  | some r => decide (s.startup.anchorExpected = some true) && !r.capture.valid

/-- Either rail was BELOW at its last sample (R157). -/
def State.railLow (s : State) : Bool := decide (s.budget.tileRail = .below) || decide (s.budget.fixtureRail = .below)

/-- The eight conditions of Table 11-3, in table order. -/
def State.faultConditions (s : State) : List Bool :=
  [decide (s.link.state = .detached), decide (s.number.numbering = .numberless), s.number.duplicate,
    decide (s.startup.phase = .safe), s.anchorMissing, s.wall.held, s.budget.overload, s.railLow]

/-- The fault summary of STATUS: condition i in bit i (Table 13-1, note b). -/
def State.faultSummary (s : State) : Byte := BitVec.ofNat 8 (valueOf s.faultConditions.reverse)

/-- The fault line is driven low: some condition holds and the part is not held in reset (R177). -/
def State.faultLineLow (s : State) : Bool := decide (s.startup.phase ≠ .reset) && s.faultConditions.any id

end Sys2Proof.Machine
end

