-- ==== Sys2Proof/Machine/Lanes.lean ====
section
/-! DEFINITION. The lane engine: taking GO, HOLD and RELEASE (8.2, 8.8), fetch outcomes (8.3), the work of a lane at an
edge (8.4 to 8.7), and the fetch unit's commands, whose outcomes the lanes take. -/

namespace Sys2Proof.Machine

open Sys2Proof

/-! ## Reading and writing lanes -/

/-- The lanes in order. -/
def laneIndices : List (Fin 4) := [0, 1, 2, 3]

/-- One lane. -/
def State.lane (s : State) (i : Fin 4) : Lane := s.lanes.lanes.get i

/-- Write one lane. -/
def State.setLane (s : State) (i : Fin 4) (l : Lane) : State :=
  s.setLanes { s.lanes with lanes := s.lanes.lanes.set i.val l i.isLt }

/-- Write the node counts of the lane engine. -/
def State.setNodeCounts (s : State) (c : NodeCounts) : State := s.setLanes { s.lanes with counts := c }

/-- Raise the control ignored count. -/
def Lane.ignore (l : Lane) : Lane := { l with counts := { l.counts with ignored := raise8 l.counts.ignored } }

/-- Raise the failure count and drop the pending GO (R120, R121). -/
def Lane.failPending (l : Lane) : Lane :=
  { l with pending := none, counts := { l.counts with failure := raise8 l.counts.failure } }

/-- Raise the contest count. -/
def Lane.countContest (l : Lane) : Lane := { l with counts := { l.counts with contest := raise8 l.counts.contest } }

/-! ## GO (R115 to R118) -/

/-- R115: a message addresses a lane bound to its playback, if its group mask shares a bit with the group set. -/
def Lane.addressedBy (l : Lane) (m : CueMessage) (groups : BitVec 16) : Bool :=
  match l.binding with
  | none => false
  | some p => decide (p.val = m.playback.toNat) && decide (m.mask &&& groups ≠ 0)

/-- The lanes a message addresses. -/
def State.addressedLanes (s : State) (m : CueMessage) : List (Fin 4) :=
  match s.config with
  | none => []
  | some c => laneIndices.filter fun i => (s.lane i).addressedBy m c.groups

/-- R118: a GO with these fields goes before the pending one. -/
def PendingGo.beatenBy (p : PendingGo) (execute : FrameNo) (origin : Origin) : Bool :=
  later execute p.execute || (decide (execute = p.execute) && decide (origin < p.origin))

/-- The lane makes a GO pending and hands its request to the fetch unit. -/
def State.makePending (s : State) (i : Fin 4) (cue : BitVec 16) (execute : FrameNo) (origin : Origin) (kind : GoKind) :
    State :=
  match (s.lane i).binding with
  | none => s
  | some p =>
    (s.setLane i { s.lane i with pending := some ⟨cue, execute, origin, kind, .asked⟩ }).handRequest i p cue execute

/-- R118, R130: a GO competes for the pending GO of a lane. -/
def State.contestGo (s : State) (i : Fin 4) (cue : BitVec 16) (execute : FrameNo) (origin : Origin) (kind : GoKind) :
    State :=
  match (s.lane i).pending with
  | none => s.makePending i cue execute origin kind
  | some p =>
    if p.beatenBy execute origin then
      let s := s.withdrawRequest i
      (s.setLane i (s.lane i).countContest).makePending i cue execute origin kind
    else s.setLane i (s.lane i).countContest

/-- R117: the current cue of a lane turns away a GO with these fields at current frame `f`. -/
def CurrentCue.supersedes (c : CurrentCue) (f execute : FrameNo) (origin : Origin) : Bool :=
  !moreLater 255 f c.execute &&
    (later c.execute execute || (decide (execute = c.execute) && !decide (origin < c.origin)))

/-- R117: an accepted GO taken by one lane. -/
def State.laneGo (s : State) (i : Fin 4) (cue : BitVec 16) (execute : FrameNo) (origin : Origin) : State :=
  match (s.lane i).current with
  | none => s.contestGo i cue execute origin .message
  | some c =>
    if c.supersedes s.frame execute origin then
      s.setNodeCounts { s.lanes.counts with superseded := raise16 s.lanes.counts.superseded }
    else s.contestGo i cue execute origin .message

/-! ## HOLD and RELEASE (R131, R134, R135) -/

/-- An entry of the control list comes before another: earlier frame, and a HOLD before a RELEASE of its frame. -/
def ControlEntry.before (f : FrameNo) (a b : ControlEntry) : Bool :=
  let da := signedFrames a.execute f
  let db := signedFrames b.execute f
  decide (da < db) || (decide (da = db) && decide (a.kind = .hold) && decide (b.kind = .release))

/-- The entry joins the control list at its place. -/
def insertControl (f : FrameNo) (e : ControlEntry) : List ControlEntry → List ControlEntry
  | [] => [e]
  | x :: rest => if e.before f x then e :: x :: rest else x :: insertControl f e rest

/-- R131: an entry for a later frame; a second copy and an entry for a full list are ignored. -/
def Lane.joinControl (l : Lane) (f : FrameNo) (e : ControlEntry) : Lane :=
  if l.control.contains e ∨ 4 ≤ l.control.length then l.ignore
  else { l with control := insertControl f e l.control }

/-- R134: a HOLD applied at once, `passed` frames after its execute frame. -/
def Lane.lateHold (l : Lane) (execute : FrameNo) (passed : Nat) : Lane :=
  match l.current with
  | none => l.ignore
  | some c =>
    match c.running with
    | .paused _ _ => l.ignore
    | .run =>
      if passed ≤ c.position - c.runBase ∧ c.position - passed < c.length then
        { l with
          current :=
            some { c with position := c.position - passed, running := .paused (min 255 passed) execute, settle := false } }
      else l.ignore

/-- R135: a RELEASE applied at once, `passed` frames after its execute frame. -/
def Lane.lateRelease (l : Lane) (passed : Nat) : Lane :=
  match l.current with
  | none => l.ignore
  | some c =>
    match c.running with
    | .run => l.ignore
    | .paused age _ =>
      if passed ≤ age then
        let q := min (c.position + passed) (c.length + 255)
        { l with
          current :=
            some { c with position := q, runBase := c.position, running := .run, settle := decide (c.length ≤ q) } }
      else l.ignore

/-- R131: an accepted HOLD or RELEASE taken by one lane. -/
def State.laneControl (s : State) (i : Fin 4) (kind : ControlKind) (execute : FrameNo) : State :=
  let l := s.lane i
  let passed := framesAhead s.frame execute
  s.setLane i
    (if later execute s.frame then l.joinControl s.frame ⟨kind, execute⟩
     else
       match kind with
       | .hold => l.lateHold execute passed
       | .release => l.lateRelease passed)

/-! ## A message taken by the lane engine (R116) -/

/-- The execute frame lies within 255 frames of the current frame, either way (R116). -/
def inWindow (execute f : FrameNo) : Bool :=
  !(moreLater 255 execute f || moreLater 255 f execute || unordered execute f)

/-- A GO names cue 0 or 65535 (R116). -/
def CueKind.invalidCue : CueKind → Bool
  | .go cue => decide (cue = 0) || decide (cue = 65535)
  | _ => false

/-- An accepted message taken by one lane. -/
def State.laneTakes (s : State) (i : Fin 4) (m : CueMessage) (origin : Origin) : State :=
  match m.kind with
  | .go cue => s.laneGo i cue m.execute origin
  | .hold => s.laneControl i .hold m.execute
  | .release => s.laneControl i .release m.execute

/-- R114, R115, R116: a GO, HOLD or RELEASE delivered or applied locally. Of a GO with an invalid cue number and an execute
frame outside the window the invalid cue count alone rises (DESIGN CHOICE, notes/assumptions/30.md); the lanes addressed
take the message in the order of their numbers, each with its request (R104: DESIGN CHOICE, notes/assumptions/29.md). -/
def State.deliverCue (s : State) (m : CueMessage) (origin : Origin) : State :=
  if !s.isRunning then s
  else
    match s.addressedLanes m with
    | [] => s
    | lanes =>
      if m.kind.invalidCue then
        s.setNodeCounts { s.lanes.counts with invalidCue := raise16 s.lanes.counts.invalidCue }
      else if !inWindow m.execute s.frame then
        s.setNodeCounts { s.lanes.counts with windowRefused := raise16 s.lanes.counts.windowRefused }
      else lanes.foldl (fun s i => s.laneTakes i m origin) s

/-- R20, R171: a message that cannot be sent is delivered to the node's own lanes and counted unsent. -/
def State.applyUnsent (s : State) (m : CueMessage) : State :=
  let l := s.link
  (s.setLink { l with counters := { l.counters with unsentTrigger := raise16 l.counters.unsentTrigger } }).deliverCue m
    s.localOrigin

/-! ## Fetch outcomes (R119, R120) -/

/-- A failure outcome of a fetch: NOT_FOUND, BAD_RECORD or TIMEOUT. -/
def Lane.takeFailure (l : Lane) (cue : BitVec 16) (execute : FrameNo) : Lane :=
  match l.pending with
  | some p => if p.cue = cue ∧ p.execute = execute ∧ p.fetch = .asked then l.failPending else l
  | none => l

/-- R119: a record for the pending GO: READY while its execute frame is later than the current frame, else WAIT_EDGE. -/
def Lane.takeRecord (l : Lane) (f : FrameNo) (cue : BitVec 16) (execute : FrameNo) (r : CueRecord) : Lane :=
  match l.pending with
  | some p =>
    if p.cue = cue ∧ p.execute = execute ∧ p.fetch = .asked then
      { l with pending := some { p with fetch := if later execute f then .ready r else .waitEdge r } }
    else l
  | none => l

/-- The outcome of a request handed to its lane. -/
def State.handOutcome (s : State) (r : FetchRequest) (o : FetchOutcome) : State :=
  match o with
  | .done record => s.setLane r.lane ((s.lane r.lane).takeRecord s.frame r.cue r.execute record)
  | _ => s.setLane r.lane ((s.lane r.lane).takeFailure r.cue r.execute)

/-- R103, R112: the outcome counted, and a bad record remembered. -/
def Fetch.countOutcome (u : Fetch) (r : FetchRequest) (o : FetchOutcome) : Fetch :=
  match o with
  | .done _ => { u with counters := { u.counters with done := raise16 u.counters.done } }
  | .notFound => { u with counters := { u.counters with notFound := raise16 u.counters.notFound } }
  | .badRecord reason =>
    { u with lastBad := some ⟨r.playback, r.cue, reason⟩
             counters := { u.counters with badRecord := raise16 u.counters.badRecord } }

/-- R103: the fetch in flight completes: outcome counted and handed, the port chosen anew. -/
def State.completeFetch (s : State) : State :=
  match s.fetch.flight with
  | none => s
  | some fl =>
    let o := fetchOutcome s.showMemory fl.request.playback fl.request.cue
    let u := s.fetch.countOutcome fl.request o
    ((s.setFetch { u with flight := none, port := .none }).handOutcome fl.request o).choosePort

/-- R106: a queued request is removed as TIMEOUT, counted and handed to its lane. -/
def State.timeOut (s : State) (r : FetchRequest) : State :=
  let u := s.fetch
  let s :=
    s.setFetch
      { u with queue := u.queue.filter fun x => decide (x.lane ≠ r.lane),
               counters := { u.counters with timeout := raise16 u.counters.timeout } }
  s.setLane r.lane ((s.lane r.lane).takeFailure r.cue r.execute)

/-- R106: the wait counts rise at an edge, and requests that reach T_f time out. -/
def State.fetchEdge (s : State) (c : Config) : State :=
  let q := s.fetch.queue.map fun r => { r with wait := r.wait + 1 }
  (q.filter fun r => decide (c.fetchTimeout ≤ r.wait)).foldl State.timeOut (s.setFetch { s.fetch with queue := q })

/-! ## Levels (R127 to R129) -/

/-- R128: the target of a zone average. -/
def zoneTarget (a : Nat) : Nat := a * 16 + a / 256

/-- R128: the target of a source from the zone averages of the previous edge; a zone past them has averages of 0. -/
def Source.target (src : Source) (zones : Vector Rgb 8) : Nat :=
  match src with
  | .fixed level => level
  | .zone z comp => zoneTarget ((zones[z]?.getD Rgb.black).component comp)

/-- R127: the weight of progress `k` of `n`. -/
def Curve.weight (c : Curve) (k n : Nat) : Nat :=
  let p := if n ≤ k then 65536 else k * 65536 / n
  match c with
  | .linear => p
  | .square => p * p / 65536
  | .step => if k < n then 0 else 65536

/-- R127: the level between start and target at a weight. -/
def fadeLevel (start target w : Nat) : Nat :=
  if start ≤ target then start + (target - start) * w / 65536 else start - (start - target) * w / 65536

/-- R127: the weight at the position of a cue: 0 in the delay. -/
def CurrentCue.weight (c : CurrentCue) : Nat :=
  if c.position < c.record.delay then 0
  else c.record.curve.weight (min c.record.fade (c.position - c.record.delay)) c.record.fade

/-- R127: the listed channels are formed from S and T at this edge. -/
def CurrentCue.fades (c : CurrentCue) : Bool :=
  c.settle ||
    (match c.running with
     | .paused _ _ => true
     | .run => decide (c.position < c.length))

/-- R129: a level moved toward a target by at most the follow slew. -/
def followLevel (level target slew : Nat) : Nat :=
  if level ≤ target then min target (level + slew) else max target (level - slew)

/-- The targets of the listed channels formed afresh (R128). -/
def CurrentCue.retarget (c : CurrentCue) (zones : Vector Rgb 8) : CurrentCue :=
  { c with listed := c.listed.map fun x => { x with target := x.source.target zones } }

/-- The lane level of a channel at an edge: by the fade (R127), following its zone (R129), or as it stands. -/
def LaneLevel.formed (v : LaneLevel) (cur : Option CurrentCue) (ch : Fin 36) (slew : Nat) (zones : Vector Rgb 8) : LaneLevel :=
  let fading :=
    match cur with
    | some c => if c.fades then (c.listed.find? fun x => decide (x.channel = ch)).map fun x => fadeLevel x.snapshot x.target c.weight else none
    | none => none
  match fading with
  | some level => { v with level := level }
  | none =>
    match v.source with
    | .fixed _ => v
    | .zone _ _ => { v with level := followLevel v.level (v.source.target zones) slew }

/-- R122 e: the lane forms its levels for an edge. -/
def Lane.formLevels (l : Lane) (c : Config) (zones : Vector Rgb 8) : Lane :=
  let cur := l.current.map fun x => x.retarget zones
  { l with
    levels := Vector.ofFn fun ch => (l.levels.get ch).map fun v => v.formed cur ch (c.channels.get ch).slew zones
    current := cur.map fun x => { x with settle := false } }

/-! ## The work of a lane at an edge (R122) -/

/-- R121: the pending GO lies outside the window at edge `f` and is dropped, its request withdrawn. -/
def State.dropOldPending (s : State) (i : Fin 4) (f : FrameNo) : State :=
  match (s.lane i).pending with
  | none => s
  | some p =>
    if tooOld p.execute f then
      let s := s.withdrawRequest i
      s.setLane i (s.lane i).failPending
    else s

/-- The record with which a pending GO starts at edge `f`, if it does (R122 b). -/
def PendingGo.starts (p : PendingGo) (f : FrameNo) : Option CueRecord :=
  if later p.execute f then none
  else
    match p.fetch with
    | .asked => none
    | .ready r => some r
    | .waitEdge r => some r

/-- R123: the current cue a start gives: snapshots from the merged levels of the previous edge, position j. -/
def startedCue (p : PendingGo) (r : CueRecord) (f : FrameNo) (merged : Vector Nat 36) (zones : Vector Rgb 8) : CurrentCue :=
  let j := framesAhead f p.execute
  { record := r
    execute := p.execute
    origin := p.origin
    listed := r.entries.map fun e => ⟨e.channel, e.source, merged.get e.channel, e.source.target zones⟩
    position := j
    runBase := j
    running := .run
    settle := decide (r.delay + r.fade ≤ j) }

/-- R123 b, c: a lane level present for every listed channel, with the entry's source; its level is formed in the same
edge by R127. -/
def touchChannels (levels : Vector (Option LaneLevel) 36) (listed : List Listed) : Vector (Option LaneLevel) 36 :=
  listed.foldl (fun v x => v.set x.channel.val (some ⟨x.snapshot, x.source⟩) x.channel.isLt) levels

/-- R124: the lane becomes owner of every listed channel. -/
def ownChannels (owners : Vector (Option (Fin 4)) 36) (i : Fin 4) (listed : List Listed) : Vector (Option (Fin 4)) 36 :=
  listed.foldl (fun v x => v.set x.channel.val (some i) x.channel.isLt) owners

/-- R130: the follow GO of a started cue. Of a follow part with an invalid next cue and D + N + W above 32,767 the invalid
cue count alone rises (DESIGN CHOICE, notes/assumptions/30.md). -/
def State.scheduleFollow (s : State) (i : Fin 4) (c : CurrentCue) : State :=
  match c.record.follow with
  | none => s
  | some fo =>
    if fo.next = 0 ∨ fo.next = 65535 then
      s.setNodeCounts { s.lanes.counts with invalidCue := raise16 s.lanes.counts.invalidCue }
    else if 32767 < c.length + fo.wait then
      s.setNodeCounts { s.lanes.counts with followRefused := raise16 s.lanes.counts.followRefused }
    else s.contestGo i fo.next (c.execute + BitVec.ofNat 16 (c.length + fo.wait)) s.localOrigin .follow

/-- R123, R124, R125: the lane starts its cue at edge `f`. -/
def State.startCue (s : State) (i : Fin 4) (p : PendingGo) (r : CueRecord) (f : FrameNo) (merged : Vector Nat 36)
    (zones : Vector Rgb 8) : State :=
  let c := startedCue p r f merged zones
  let l := s.lane i
  let counts :=
    { l.counts with
      start := raise8 l.counts.start
      catchUp := if c.position = 0 then l.counts.catchUp else raise8 l.counts.catchUp }
  let s := s.setLane i { l with current := some c, pending := none, levels := touchChannels l.levels c.listed, counts := counts }
  (s.setLanes { s.lanes with owners := ownChannels s.lanes.owners i c.listed }).scheduleFollow i c

/-- R122 c, R126: the position rises, or the pause age. -/
def CurrentCue.step (c : CurrentCue) : CurrentCue :=
  match c.running with
  | .paused age frame => { c with running := .paused (min 255 (age + 1)) frame }
  | .run =>
    let q := min (c.position + 1) (c.length + 255)
    { c with position := q, settle := c.settle || (decide (c.position < c.length) && decide (c.length ≤ q)) }

/-- R132: one due entry of the control list applied at edge `f`. -/
def Lane.applyControl (l : Lane) (f : FrameNo) (e : ControlEntry) : Lane :=
  match l.current with
  | none => l.ignore
  | some c =>
    match e.kind, c.running with
    | .hold, .run =>
      if c.position < c.length then { l with current := some { c with running := .paused 0 f, settle := false } } else l.ignore
    | .release, .paused _ _ => { l with current := some { c with running := .run, runBase := c.position } }
    | _, _ => l.ignore

/-- R131: a control list in its order at current frame `f`, which a renumbering moves. -/
def orderControl (f : FrameNo) (l : List ControlEntry) : List ControlEntry := l.foldl (fun q e => insertControl f e q) []

/-- R132: of the entries of a list, those not later than `f` are applied in list order, and the later ones kept. -/
def Lane.applyDue (l : Lane) (f : FrameNo) (entries : List ControlEntry) : Lane :=
  (entries.filter fun e => !later e.execute f).foldl (fun l e => l.applyControl f e)
    { l with control := entries.filter fun e => later e.execute f }

/-- R122 d, R132: entries outside the window are discarded and counted, then the due ones applied. -/
def Lane.takeControl (l : Lane) (f : FrameNo) : Lane :=
  let old := l.control.filter fun e => tooOld e.execute f
  let l := { l with counts := { l.counts with ignored := raise8By old.length l.counts.ignored } }
  l.applyDue f (orderControl f (l.control.filter fun e => !tooOld e.execute f))

/-- R122 b, c: the cue of a pending GO that has passed its check started, or the current one stepped. -/
def State.startOrStep (s : State) (i : Fin 4) (f : FrameNo) (merged : Vector Nat 36) (zones : Vector Rgb 8) : State :=
  let l := s.lane i
  match l.pending.bind fun p => (p.starts f).map fun r => (p, r) with
  | some (p, r) => s.startCue i p r f merged zones
  | none => s.setLane i { l with current := l.current.map CurrentCue.step }

/-- R122 b to e: the work of one lane at edge `f`, once every lane has checked its pending GO. -/
def State.laneEdge (s : State) (c : Config) (f : FrameNo) (merged : Vector Nat 36) (zones : Vector Rgb 8) (i : Fin 4) : State :=
  let s := s.startOrStep i f merged zones
  s.setLane i (((s.lane i).takeControl f).formLevels c zones)

/-- R114: the bindings the lanes hold. -/
def LaneEngine.bindings (e : LaneEngine) : Vector (Option (Fin 16)) 4 := e.lanes.map fun l => l.binding

/-- The condition of every lane. -/
def LaneEngine.conditionNow (e : LaneEngine) : Vector Condition 4 := e.lanes.map Lane.condition

/-- R122, R136: the lane engine takes an edge and hands the conditions of its lanes. Snapshots and zone targets are read
from the values published at the previous edge. Every lane checks its pending GO before any starts (R121). The lanes check
in the order of their numbers and then work in it, one whole lane after another, and so withdraw and hand their requests
(DESIGN CHOICE, notes/assumptions/29.md). -/
def State.lanesEdge (s : State) (c : Config) : State :=
  let edge := s.timer.edges
  let merged := s.output.merged.readBefore edge
  let zones := (s.wall.figures.readBefore edge).zones
  let s := laneIndices.foldl (fun s i => s.dropOldPending i s.frame) s
  let s := laneIndices.foldl (fun s i => s.laneEdge c s.frame merged zones i) s
  s.setLanes { s.lanes with conditions := s.lanes.conditions.publish edge s.lanes.conditionNow }

/-! ## Commands of the fetch unit -/

/-- FETCH_COMPLETE (R103, R119): the fetch in flight ends with the outcome its walk of show memory gives. -/
def execFetchComplete (s : State) : Host.Outcome State Fault Refusal := .next s.completeFetch

/-- The request of a lane whose wait count stands one short of T_f: the edge now due brings it there (R106). -/
def State.dueTimeout (s : State) (lane : Fin 4) : Option FetchRequest :=
  match s.config with
  | none => none
  | some c => s.fetch.queue.find? fun r => decide (r.lane = lane) && decide (c.fetchTimeout ≤ r.wait + 1)

/-- FETCH_TIMEOUT (R106): the queued request of the lane whose wait count reaches T_f at the edge now due. -/
def execFetchTimeout (lane : Fin 4) (s : State) : Host.Outcome State Fault Refusal :=
  .next
    (match s.dueTimeout lane with
     | some r => s.timeOut r
     | none => s)

/-- R109, R113: the request line rises; on a free port the grant is asserted and counted; held in reset, the grant follows
the line and nothing is counted. -/
def State.raiseRequest (s : State) : State :=
  let s := s.setFetch { s.fetch with loaderRequest := true }
  if s.startup.phase = .reset then s.setFetch { s.fetch with grant := true, port := .loader, flight := none }
  else if s.fetch.port = .none then s.choosePort
  else s

/-- LOADER_REQUEST (R109, R113). -/
def execLoaderRequest (s : State) : Host.Outcome State Fault Refusal := .next s.raiseRequest

/-- R110, R186: the grant is withdrawn, the bytes the loader wrote stand in show memory and the port is free; a SAFE node
asks for a reload. -/
def State.endGrant (s : State) (writes : List (Nat × Byte)) : State :=
  let s := s.setShowMemory (writeShow s.showMemory writes)
  let s := s.setFetch { s.fetch with grant := false, port := .none }
  if s.startup.phase = .safe then s.setStartup { s.startup with readAsked := true } else s

/-- LOADER_RELEASE (R110, R113, R186): the request line drops. A grant that stood ends and the port is chosen anew: where the
request has risen again by then, the loader has it once more and a waiting read waits for the end of that grant. Without
a grant only the line drops, and rises where it rises again. -/
def execLoaderRelease (drop : LoaderDrop) (s : State) : Host.Outcome State Fault Refusal :=
  let granted := s.fetch.grant
  let s := s.setFetch { s.fetch with loaderRequest := false }
  let s := if granted then s.endGrant drop.writes else s
  .next
    (if drop.risesAgain then s.raiseRequest
     else if granted && decide (s.startup.phase ≠ .reset) then s.choosePort
     else s)

end Sys2Proof.Machine
end

