-- ==== Sys2Proof/Machine/Wire.lean ====
section
/-! DEFINITION. The coding of a message on the set link (2.2, 2.3, 2.5): the bits a sender drives, what a receiver finds
in the bits it samples, and what a transmitter finds when it compares a bit it drives with the bit it samples. A dominant
bit is `false`, a recessive bit `true` (R1). -/

namespace Sys2Proof.Machine

open Sys2Proof

/-- The arbitration value: class × 1024 + kind × 64 + origin (2.3). -/
def Envelope.arbitration (m : Envelope) : Nat := m.cls.toNat * 1024 + m.kind.toNat * 64 + m.origin.val

/-- The bits the check is formed over: arbitration field, length field and payload (R4). -/
def Envelope.checkedBits (m : Envelope) : List Bool :=
  bitsOf 12 m.arbitration ++ bitsOf 4 m.payload.length ++ bitsOfBytes m.payload

/-- The bits from the start bit to the last bit of the check field, before inserted bits (Table 2-1). -/
def Envelope.plainBits (m : Envelope) : List Bool :=
  false :: m.checkedBits ++ bitsOf 16 (crcBits m.checkedBits).toNat

/-- R3: after 7 consecutive equal bits one bit of the opposite value, which begins a new run; `value` and `run` are the
value and length of the run so far. -/
def insertBits (value : Bool) (run : Nat) : List Bool → List Bool
  | [] => []
  | b :: rest =>
    let run' := if b = value then run + 1 else 1
    if run' = 7 then b :: (!b) :: insertBits (!b) 1 rest else b :: insertBits b run' rest

/-- The fixed-recessive bits and the acknowledge slot as the transmitter drives them (R5). -/
def closingBits : List Bool := List.replicate 11 true

/-- Every bit the transmitter of a message drives, the start bit first (Table 2-1). -/
def Envelope.wireBits (m : Envelope) : List Bool := insertBits true 0 m.plainBits ++ closingBits

/-! ## Receiving -/

/-- How far a receiver has come in a message: counting a run and gathering the bits that are not inserted (latest first),
in the closing fields at a place (0 check delimiter, 1 acknowledge slot, 2 acknowledge delimiter, 3 to 10 end field),
with a fault found, or with the message received. -/
inductive Rx where
  | body (value : Bool) (run : Nat) (got : List Bool)
  | closing (m : Envelope) (place : Nat)
  | fault (kind : LinkFaultKind)
  | received (m : Envelope)
  deriving DecidableEq, Repr

/-- A receiver before the start bit. -/
def Rx.begin : Rx := .body true 0 []

/-- The length field of the bits gathered, the start bit first (Table 2-1). -/
def lengthField (bits : List Bool) : Nat := valueOf ((bits.drop 13).take 4)

/-- The bytes of a bit string. -/
def bytesOfBits (n : Nat) (bits : List Bool) : List Byte :=
  (List.range n).map fun i => BitVec.ofNat 8 (valueOf ((bits.drop (8 * i)).take 8))

/-- The message in a complete string of bits, the start bit first. -/
def envelopeOf (bits : List Bool) : Envelope :=
  let arb := valueOf ((bits.drop 1).take 12)
  { cls := BitVec.ofNat 2 (arb / 1024), kind := BitVec.ofNat 4 (arb / 64), origin := Fin.ofNat 64 arb,
    payload := bytesOfBits (lengthField bits) (bits.drop 17) }

/-- The number of bits from the start bit to the last bit of the check field. -/
def plainLength (length : Nat) : Nat := 33 + 8 * length

/-- The check field of a complete string agrees with the remainder of the bits before it (R4). -/
def checkAgrees (bits : List Bool) : Bool :=
  let n := plainLength (lengthField bits) - 16
  decide (valueOf (bits.drop n) = (crcBits ((bits.take n).drop 1)).toNat)

/-- What a receiver holds after gathering one more bit that is not inserted: a form fault at the last bit of a length
field of 13 to 15, a check fault at the last bit of the check field (R4), or the rest of the message to come. -/
def Rx.gather (value : Bool) (run : Nat) (got : List Bool) : Rx :=
  let bits := got.reverse
  if 17 ≤ bits.length ∧ 13 ≤ lengthField bits then .fault .form
  else if 17 ≤ bits.length ∧ bits.length = plainLength (lengthField bits) then
    if !checkAgrees bits then .fault .check
    else if run = 7 then .body value run got
    else .closing (envelopeOf bits) 0
  else .body value run got

/-- One sampled bit taken by a receiver (R3, R4, R5). -/
def Rx.take (r : Rx) (b : Bool) : Rx :=
  match r with
  | .body value run got =>
    if run = 7 then
      if b = value then .fault .coding
      else if 17 ≤ got.length ∧ got.length = plainLength (lengthField got.reverse) then
        .closing (envelopeOf got.reverse) 0
      else .body b 1 got
    else Rx.gather b (if b = value then run + 1 else 1) (b :: got)
  | .closing m place =>
    if b = false ∧ place ≠ 1 then .fault .form
    else if place = 10 then .received m
    else .closing m (place + 1)
  | .fault k => .fault k
  | .received m => .received m

/-- What a receiver makes of the bits it samples, the start bit first. -/
def Rx.run (bits : List Bool) : Rx := bits.foldl Rx.take Rx.begin

/-! ## Transmitting -/

/-- Where a transmitted bit stands in its message (R5, R7, R8). -/
inductive BitPlace where
  | arbitration      -- the 12-bit arbitration field
  | claimSpan        -- length field and serial of a CLAIM
  | inserted         -- an inserted bit
  | coded            -- any other bit from the start bit to the check field
  | fixedRecessive   -- check delimiter, acknowledge delimiter, end field
  | ackSlot          -- acknowledge slot
  deriving DecidableEq, Repr

/-- What a transmitter finds at a bit. -/
inductive TxFinding where
  | agrees
  | loses
  | losesClaim
  | fault (kind : LinkFaultKind)
  deriving DecidableEq, Repr

/-- R3, R5, R7, R8, R9: what a transmitter finds when it drives one level and samples another or the same. A mismatch on
an inserted bit, of either level, means 8 equal bits on the link. -/
def txFinding (place : BitPlace) (driven sampled : Bool) : TxFinding :=
  match driven, sampled with
  | false, false => .agrees
  | false, true => if place = .inserted then .fault .coding else .fault .level
  | true, true => if place = .ackSlot then .fault .noAck else .agrees
  | true, false =>
    match place with
    | .arbitration => .loses
    | .claimSpan => .losesClaim
    | .inserted => .fault .coding
    | .coded => .fault .level
    | .fixedRecessive => .fault .form
    | .ackSlot => .agrees

/-- R6: the recessive bits a station waits for before it contends. -/
def Link.freeAfter (l : Link) : Nat := if l.waitQuiet then 19 else 11

/-- R9: the node drives the acknowledge slot of a message it received without fault. -/
def State.acknowledges (s : State) : Bool := !s.linkHeld && decide (s.link.state ≠ .detached)

end Sys2Proof.Machine
end

