-- ==== Sys2Proof/Machine/Slots.lean ====
section
/-! DEFINITION. The outbound slots of the link controller (2.9): writing, withdrawing and cancelling their messages, the
message an attempt starts with, and what an attempt's end does to a slot. -/

namespace Sys2Proof.Machine

open Sys2Proof

/-! ## One slot (R18) -/

/-- A new message: pending, or deferred behind the one in transmission. -/
def Slot.write {α : Type} (s : Slot α) (busy : Bool) (v : α) : Slot α :=
  if busy then { s with deferred := some v } else { s with pending := some v }

/-- The message is withdrawn with any deferred behind it; one in transmission completes its attempt. -/
def Slot.withdraw {α : Type} (s : Slot α) (busy : Bool) : Slot α :=
  if busy then { s with deferred := none, ended := true } else Slot.empty

/-- The attempt ended with the message sent: the deferred message becomes the pending one. -/
def Slot.sent {α : Type} (s : Slot α) : Slot α := ⟨s.deferred, none, false⟩

/-- The attempt ended in loss or fault: the deferred message replaces the one in the slot; a message whose lifetime ended
in transmission is removed; any other stays pending (R11). -/
def Slot.failed {α : Type} (s : Slot α) : Slot α :=
  if s.deferred.isSome then ⟨s.deferred, none, false⟩ else if s.ended then Slot.empty else s

/-! ## The slots of the link controller -/

/-- The message in transmission came from this slot. -/
def Link.busy (l : Link) (n : SlotName) : Bool :=
  match l.attempt with
  | some a => decide (a.source = n)
  | none => false

/-- R172: a TALLY, replacing any unsent one. -/
def Link.writeTally (l : Link) (v : TallyBody) : Link := { l with tally := l.tally.write (l.busy .tally) v }

/-- R174: a STATUS, replacing any unsent one. -/
def Link.writeStatus (l : Link) (v : StatusBody) : Link := { l with status := l.status.write (l.busy .status) v }

/-- R27, R30: a CLAIM. -/
def Link.writeClaim (l : Link) (v : ClaimBody) : Link := { l with claim := l.claim.write (l.busy .claim) v }

/-- R29, R31: the CLAIM is withdrawn. -/
def Link.withdrawClaim (l : Link) : Link := { l with claim := l.claim.withdraw (l.busy .claim) }

/-- A CLAIM stands in its slot and has not been withdrawn. -/
def Link.claimPending (l : Link) : Bool := l.claim.deferred.isSome || (l.claim.pending.isSome && !l.claim.ended)

/-- R175: an ANSWER; replacing an unsent one is counted. An ANSWER in transmission is not replaced but deferred to. -/
def Link.writeAnswer (l : Link) (v : AnswerBody) : Link :=
  let replaces := if l.busy .answer then l.answer.deferred.isSome else l.answer.pending.isSome
  { l with
    answer := l.answer.write (l.busy .answer) v
    counters :=
      { l.counters with
        answerReplaced := if replaces then raise16 l.counters.answerReplaced else l.counters.answerReplaced } }

/-- R53 d: the SYNC is withdrawn; this is not counted. -/
def Link.withdrawSync (l : Link) : Link := { l with sync := l.sync.withdraw (l.busy .sync) }

/-- R18 a: at an edge an unsent SYNC is cancelled and counted; one in transmission is left to its attempt's end, and a
SYNC deferred behind it is cancelled. -/
def Link.cancelStale (l : Link) : Link :=
  let unsent := if l.busy .sync then l.sync.deferred.isSome else l.sync.pending.isSome
  { l with
    sync := if l.busy .sync then { l.sync with deferred := none, ended := true } else Slot.empty
    counters := { l.counters with stale := if unsent then raise16 l.counters.stale else l.counters.stale } }

/-- R57: the SYNC of an edge. -/
def Link.writeSync (l : Link) (v : SyncBody) : Link := { l with sync := l.sync.write (l.busy .sync) v }

/-! ## Starting an attempt (R16, R17, R21, R34) -/

/-- Table 3-2: the numbering state lets a slot contend. -/
def Numbering.lets (n : Numbering) (slot : SlotName) : Bool :=
  match n with
  | .fixed _ => true
  | .holding _ => true
  | .claiming _ _ => decide (slot = .claim)
  | _ => false

/-- A message under its class, kind and origin. -/
def envelope (k : MessageKind) (origin : Station) (payload : List Byte) : Envelope := ⟨k.cls, k.kind, origin, payload⟩

/-- The lateness of a SYNC whose start bit is driven at `now` (R17). -/
def SyncBody.latenessAt (b : SyncBody) (now : Stamp) : Nat := ticksSince now b.edge

/-- The pending message of a slot, or the oldest of the trigger queue, filled for an attempt that starts at `now`;
`own` is the station number held (R17). -/
def Link.filled (l : Link) (own : Option Station) (now : Stamp) (slot : SlotName) : Option Envelope :=
  match slot with
  | .claim => l.claim.pending.map fun b => envelope .claim b.candidate (toBytes 4 b.serial.toNat)
  | .sync =>
    own.bind fun n =>
      l.sync.pending.map fun b => envelope .sync n (syncPayload ⟨b.frame, b.latenessAt now, b.role, b.position⟩)
  | .tally => own.bind fun n => l.tally.pending.map fun b => envelope .tally n [b.mask, b.on]
  | .status => own.bind fun n => l.status.pending.map fun b => envelope .status n (statusPayload b l.state l.lastFault)
  | .answer => own.bind fun n => l.answer.pending.map fun b => envelope .answer n (answerPayload b)
  | .trigger => own.bind fun n => l.triggers.head?.map fun m => envelope m.kind.message n (cuePayload m)

/-- The eligible messages (R16), each with its slot. -/
def State.eligible (s : State) (now : Stamp) : List (SlotName × Envelope) :=
  [SlotName.sync, .claim, .tally, .status, .answer, .trigger].filterMap fun slot =>
    if s.number.numbering.lets slot then (s.link.filled s.heldNumber now slot).map fun m => (slot, m) else none

/-- The message of lowest arbitration value among those given. -/
def lowestOf : List (SlotName × Envelope) → Option (SlotName × Envelope)
  | [] => none
  | x :: rest =>
    match lowestOf rest with
    | none => some x
    | some y => if y.2.arbitration < x.2.arbitration then some y else some x

/-- R21: the controller is permitted to start a message. -/
def State.mayContend (s : State) : Bool :=
  !s.linkHeld && s.link.joined && decide (s.link.state ≠ .detached) && s.link.attempt.isNone

/-- The attempt of a message whose start bit is driven at `now`. -/
def Link.attemptOf (l : Link) (slot : SlotName) (m : Envelope) (now : Stamp) : Attempt where
  source := slot
  message := m
  wire := m.wireBits
  stamp := now
  lateness :=
    match slot, l.sync.pending with
    | .sync, some b => b.latenessAt now
    | _, _ => 0
  fate := .stays

/-! ## Ending an attempt -/

/-- R11, R18: the slot of an attempt that ended in loss or fault; a SYNC whose lifetime ended in transmission is counted
stale, an ANSWER replaced by the one deferred behind it is counted replaced. The trigger queue is dealt with by R19 and
R20. -/
def Link.slotFailed (l : Link) (slot : SlotName) : Link :=
  match slot with
  | .sync =>
    { l with
      sync := l.sync.failed
      counters := { l.counters with stale := if l.sync.ended then raise16 l.counters.stale else l.counters.stale } }
  | .claim => { l with claim := l.claim.failed }
  | .tally => { l with tally := l.tally.failed }
  | .status => { l with status := l.status.failed }
  | .answer =>
    { l with
      answer := l.answer.failed
      counters :=
        { l.counters with
          answerReplaced :=
            if l.answer.deferred.isSome then raise16 l.counters.answerReplaced else l.counters.answerReplaced } }
  | .trigger => l

/-- R16, R18, R19: the slot, or the head of the trigger queue, of a message that was sent. -/
def Link.slotSent (l : Link) (slot : SlotName) : Link :=
  match slot with
  | .sync => { l with sync := l.sync.sent }
  | .claim => { l with claim := l.claim.sent }
  | .tally => { l with tally := l.tally.sent }
  | .status => { l with status := l.status.sent }
  | .answer => { l with answer := l.answer.sent }
  | .trigger => { l with triggers := l.triggers.tail }

/-! ## The trigger queue (R19) -/

/-- A message offered to the queue: added, or dropped and counted when 4 stand in it. -/
def Link.offerTrigger (l : Link) (m : CueMessage) : Link :=
  if l.triggers.length < 4 then { l with triggers := l.triggers ++ [m] }
  else { l with counters := { l.counters with triggerRefused := raise16 l.counters.triggerRefused } }

/-- The execute frame is 8 or more frames earlier than `f`. -/
def CueMessage.expiredAt (m : CueMessage) (f : FrameNo) : Bool := moreLater 7 f m.execute

/-- The messages of the queue that no attempt is sending: all, or all behind the head. -/
def Link.idleTriggers (l : Link) : List CueMessage := if l.busy .trigger then l.triggers.tail else l.triggers

/-- The message of the queue in transmission. -/
def Link.sendingTrigger (l : Link) : List CueMessage := if l.busy .trigger then l.triggers.take 1 else []

/-- What becomes of the trigger message in transmission, if its attempt fails; an earlier fate stands. -/
def Link.fateTrigger (l : Link) (fate : TriggerFate) : Link :=
  { l with attempt := l.attempt.map fun a => if a.source = .trigger ∧ a.fate = .stays then { a with fate := fate } else a }

/-- R19: at edge `f` every expired message is dropped and counted; one in transmission at the end of its attempt. -/
def Link.expireTriggers (l : Link) (f : FrameNo) : Link :=
  let gone := l.idleTriggers.filter (·.expiredAt f)
  let l := if l.sendingTrigger.any (·.expiredAt f) then l.fateTrigger .expires else l
  { l with
    triggers := l.sendingTrigger ++ l.idleTriggers.filter (fun m => !m.expiredAt f)
    counters := { l.counters with triggerExpired := raise16By gone.length l.counters.triggerExpired } }

end Sys2Proof.Machine
end

