-- ==== Sys2Proof/Machine/Link.lean ====
section
/-! DEFINITION. The link controller: the trigger queue emptied into the own lanes (R20), the end of an attempt in loss or
fault (R10, R11), error confinement (R12 to R15), and the link commands that concern no other station's message. -/

namespace Sys2Proof.Machine

open Sys2Proof

/-! ## The trigger queue emptied (R20) -/

/-- R20: every queued message but one in transmission is delivered to the own lanes and counted, oldest first; one in
transmission is delivered if its attempt fails. -/
def State.flushTriggers (s : State) : State :=
  let l := s.link
  let waiting := l.idleTriggers
  let l := l.fateTrigger .delivered
  waiting.foldl State.applyUnsent (s.setLink { l with triggers := l.sendingTrigger })

/-! ## The end of an attempt -/

/-- R11, R19, R20: the trigger message of a failed attempt: it stays at the head of the queue, is dropped as expired, or
is delivered to the own lanes. -/
def State.triggerFailed (s : State) (fate : TriggerFate) : State :=
  let l := s.link
  match fate, l.triggers with
  | .stays, _ => s
  | _, [] => s
  | .expires, _ :: rest =>
    s.setLink
      { l with triggers := rest, counters := { l.counters with triggerExpired := raise16 l.counters.triggerExpired } }
  | .delivered, m :: rest => (s.setLink { l with triggers := rest }).applyUnsent m

/-- R11, R18: the attempt in progress ends in loss or fault. -/
def State.attemptFailed (s : State) : State :=
  match s.link.attempt with
  | none => s
  | some a =>
    let s := s.setLink { s.link.slotFailed a.source with attempt := none }
    if a.source = .trigger then s.triggerFailed a.fate else s

/-! ## Error confinement -/

/-- R12: TEC raised by 6, held at 200. -/
def raiseTec (n : Nat) : Nat := min 200 (n + 6)

/-- R12: REC raised by 1, staying at 120. -/
def raiseRec (n : Nat) : Nat := min 120 (n + 1)

/-- R12: the number of present entries of the peer table (R40). -/
def State.presentCount (s : State) : Nat := s.peers.toList.countP Option.isSome

/-- R14: entry to DETACHED: the state changes, idle sequences are counted from 0, the trigger queue is emptied. -/
def State.detach (s : State) : State :=
  (s.setLink { s.link with state := .detached, idle := ⟨0, 0⟩, signal := none }).flushTriggers

/-- R14: one sampled bit counted: 14 consecutive recessive bits complete an idle sequence, a dominant bit restarts the
one in progress. -/
def IdleCount.take (c : IdleCount) (recessive : Bool) : IdleCount :=
  if recessive then (if 14 ≤ c.bits + 1 then ⟨0, c.done + 1⟩ else ⟨c.bits + 1, c.done⟩) else ⟨0, c.done⟩

/-- R12, R13, R14: the count a fault raises and the link state that follows. Counts are frozen in DETACHED, and a
no-acknowledge fault does not raise TEC while no station is present. -/
def State.countFault (s : State) (transmitting : Bool) (kind : LinkFaultKind) : State :=
  let l := s.link
  if l.state = .detached then s
  else if transmitting then
    if kind = .noAck ∧ s.presentCount = 0 then s
    else
      let s := s.setLink { l with tecCount := raiseTec l.tecCount }
      if s.link.tecCount = 200 then s.detach else s.setLink s.link.followCounts
  else s.setLink { l with recCount := raiseRec l.recCount }.followCounts

/-- R10: where the error signal of a fault begins. -/
def SignalStart.ofKind (k : LinkFaultKind) : SignalStart :=
  match k with
  | .check => .afterAckDelimiter
  | .coding | .form | .level | .noAck => .nextBit

/-- R10: the error signal of a fault, sent by the state the fault leaves: dominant in ACTIVE and CAUTION, recessive in
QUIET, none in DETACHED. -/
def LinkState.signal (st : LinkState) (k : LinkFaultKind) : Option ErrorSignal :=
  match st with
  | .active => some ⟨SignalStart.ofKind k, false⟩
  | .caution => some ⟨SignalStart.ofKind k, false⟩
  | .quiet => some ⟨SignalStart.ofKind k, true⟩
  | .detached => none

/-- R10: the 9 bits of an error signal. -/
def ErrorSignal.bits (e : ErrorSignal) : List Bool := List.replicate 9 e.level

/-- R10: the bits the station drives from the one after the finding to the end of its error signal. A CHECK fault is found
at the last bit of the check field: the inserted bit of a run that it completes, the check delimiter, the acknowledge
slot, driven recessive, and the acknowledge delimiter come first. -/
def ErrorSignal.driven (e : ErrorSignal) (runComplete : Bool) : List Bool :=
  match e.start with
  | .nextBit => e.bits
  | .afterAckDelimiter => List.replicate (3 + runComplete.toNat) true ++ e.bits

/-- Table 2-4: whether a transmitter, or a receiver, can find a fault of this kind. -/
def faultFoundBy (transmitting : Bool) (k : LinkFaultKind) : Bool :=
  match k with
  | .coding => true
  | .form => true
  | .level => transmitting
  | .check => !transmitting
  | .noAck => transmitting

/-- R3, R5: a fault of this kind can be found between the last bit of the check field and the bit after the acknowledge
delimiter: an inserted bit equal to its run, or a dominant delimiter. -/
def foundAfterCheckField (kind : LinkFaultKind) : Bool :=
  match kind with
  | .coding => true
  | .form => true
  | .level => false
  | .check => false
  | .noAck => false

/-- R10: an error signal lets a fault be found: once the link is free again, and before the signal of a CHECK fault
begins; not in between. -/
def ErrorSignal.lets (e : ErrorSignal) (kind : LinkFaultKind) (phase : SignalPhase) : Bool :=
  match phase with
  | .past => true
  | .sending => false
  | .coming => decide (e.start = .afterAckDelimiter) && foundAfterCheckField kind

/-- R10: the fault is found: the controller is not held and has joined the link, the kind fits, and the last error signal
lets it be found. A DETACHED station sends no signal and so finds every fault, one before the link is free again included
(DESIGN CHOICE, notes/assumptions/33.md). -/
def State.findsFault (s : State) (kind : LinkFaultKind) (phase : SignalPhase) : Bool :=
  !s.linkHeld && s.link.joined && faultFoundBy s.link.attempt.isSome kind && s.link.signal.all fun e => e.lets kind phase

/-- LINK_FAULT (R10 to R15): the last-fault code is set, the message discarded or kept pending, the count raised, the
state follows, and the error signal is sent, in place of one that has not begun. A QUIET station that transmitted waits 8
further bits (R6). -/
def execLinkFault (kind : LinkFaultKind) (phase : SignalPhase) (s : State) : Host.Outcome State Fault Refusal :=
  .next
    (if s.findsFault kind phase then
       let transmitting := s.link.attempt.isSome
       let s := s.setLink { s.link with lastFault := FaultCode.ofKind kind }
       let s := s.attemptFailed.countFault transmitting kind
       s.setLink
         { s.link with signal := s.link.state.signal kind
                       waitQuiet := transmitting && decide (s.link.state = .quiet) }
     else s)

/-- R14: the 64th idle sequence has completed. -/
def Link.recovered (l : Link) : Link :=
  { l with
    tecCount := 0
    recCount := 0
    state := .active
    idle := ⟨0, 0⟩
    waitQuiet := false
    counters := { l.counters with detach := raise16 l.counters.detach } }

/-- DETACHED_RECOVERY (R14): the levels sampled are counted, and the completion of the 64th idle sequence ends
DETACHED. -/
def execDetachedRecovery (s : State) (levels : List Bool := idleLink) : Host.Outcome State Fault Refusal :=
  .next
    (if s.link.state = .detached then
       let c := levels.foldl IdleCount.take s.link.idle
       if 64 ≤ c.done then s.setLink s.link.recovered else s.setLink { s.link with idle := c }
     else s)

/-- LINK_JOIN (R1): 11 recessive bits seen; the controller recognises start bits and contends. -/
def execLinkJoin (s : State) : Host.Outcome State Fault Refusal :=
  .next (if s.linkHeld then s else s.setLink { s.link with joined := true })

/-- ATTEMPT_START (R16, R17, R21): the eligible message of lowest arbitration value is started at `now`. -/
def execAttemptStart (now : Stamp) (s : State) : Host.Outcome State Fault Refusal :=
  let s := s.advanceTo now
  .next
    (match s.mayContend, lowestOf (s.eligible now) with
     | true, some (slot, m) =>
       s.setLink { s.link with attempt := some (s.link.attemptOf slot m now), signal := none, waitQuiet := false }
     | _, _ => s)

/-- ARBITRATION_LOSS (R7, R11): the node becomes a receiver; its message stays pending by R18. -/
def execArbitrationLoss (s : State) : Host.Outcome State Fault Refusal := .next s.attemptFailed

/-- STALE_BEACON (R18): an unsent SYNC is cancelled at the edge now due and counted. -/
def execStaleBeacon (s : State) : Host.Outcome State Fault Refusal :=
  .next (if s.timer.run.isSome then s.setLink s.link.cancelStale else s)

end Sys2Proof.Machine
end

