-- ==== Sys2Proof/Machine/Numbers.lean ====
section
/-! DEFINITION. The number unit (3.2 to 3.7) and its commands. -/

namespace Sys2Proof.Machine

open Sys2Proof

/-! ## Small writes -/

/-- Write the numbering state. -/
def State.setNumbering (s : State) (n : Numbering) : State := s.setNumber { s.number with numbering := n }

/-- R37: the peer table clears the entry of a number the node takes. -/
def State.clearPeer (s : State) (n : Station) : State := s.setPeers (s.peers.set n.val none n.isLt)

/-- Add a number to the taken set, without duplicates. -/
def NumberUnit.take (u : NumberUnit) (n : Station) : NumberUnit :=
  if u.taken.contains n then u else { u with taken := u.taken ++ [n] }

/-! ## Candidate choice (R27) -/

/-- The numbers of a claim range, lowest first. -/
def claimRange (lo hi : Station) : List Station :=
  ((List.range 64).map (Fin.ofNat 64)).filter fun n => decide (lo ≤ n) && decide (n ≤ hi)

/-- The claim range of the configuration; empty in mode FIXED. -/
def State.range (s : State) : List Station :=
  match s.config with
  | some c =>
    match c.mode with
    | .claim lo hi _ => claimRange lo hi
    | .fixed _ => []
  | none => []

/-- The preferred number of the configuration. -/
def State.preferred (s : State) : Option Nat :=
  match s.config with
  | some c =>
    match c.mode with
    | .claim _ _ p => some p
    | .fixed _ => none
  | none => none

/-- R27: a number is free when its entry is absent and it is not in the taken set. -/
def State.isFree (s : State) (n : Station) : Bool := (s.peers.get n).isNone && !s.number.taken.contains n

/-- R27: the candidate: the preferred number if it is a free number of the range, else the lowest free number. -/
def State.candidate (s : State) : Option Station :=
  let free := s.range.filter s.isFree
  match free.find? fun n => decide (s.preferred = some n.val) with
  | some n => some n
  | none => free.head?

/-- R27: choose a candidate and write its CLAIM, or enter NUMBERLESS. -/
def State.chooseCandidate (s : State) : State :=
  match s.candidate with
  | some n => (s.setNumbering (.claiming n none)).setLink (s.link.writeClaim ⟨n, s.serial⟩)
  | none => s.setNumbering .numberless

/-- The number held before the number unit works at the edge now due: a number that CLAIM_WINDOW_END has given ahead of
its edge is held by the other blocks from the next edge on (R44, R174). -/
def State.ownAtEdge (s : State) : Option Station :=
  match s.number.numbering with
  | .holding n => if s.ahead.number then none else some n
  | _ => s.heldNumber

/-- The number unit has worked at the edge now due. -/
def State.numberAhead (s : State) : State := s.setAhead { s.ahead with number := true }

/-- R26: entry to CLAIM_LISTEN. -/
def State.enterListen (s : State) : State :=
  s.setNumber
    { s.number with
      numbering := .listen 0
      taken := []
      counters := { s.number.counters with listenEntry := raise16 s.number.counters.listenEntry } }

/-- R28: entry to HOLDING. -/
def State.enterHolding (s : State) (n : Station) : State :=
  (s.setNumber { s.number with numbering := .holding n, taken := [] }).clearPeer n

/-! ## Claims ended, numbers yielded, defended and doubled (R29 to R32) -/

/-- R29: the claim on the candidate ends and a candidate is chosen again. -/
def State.endClaim (s : State) (c : Station) : State :=
  let u := s.number.take c
  let s := s.setNumber { u with counters := { u.counters with withdraw := raise16 u.counters.withdraw } }
  (s.setLink s.link.withdrawClaim).chooseCandidate

/-- R31, R20: the node yields its number; leaving HOLDING empties the trigger queue into its own lanes. -/
def State.yieldNumber (s : State) (n : Station) : State :=
  let u := s.number.take n
  let s := s.setNumber { u with counters := { u.counters with yield := raise16 u.counters.yield } }
  let s := (s.setLink s.link.withdrawClaim).chooseCandidate
  s.flushTriggers

/-- R30: the node defends its number; a defending CLAIM already pending is left as it stands. -/
def State.defend (s : State) (n : Station) : State :=
  let s := s.setNumber { s.number with counters := { s.number.counters with defence := raise16 s.number.counters.defence } }
  if s.link.claimPending then s else s.setLink (s.link.writeClaim ⟨n, s.serial⟩)

/-- R32: the duplicate-number condition is raised. -/
def State.raiseDuplicate (s : State) : State :=
  s.setNumber
    { s.number with
      duplicate := true
      duplicateQuiet := 0
      counters := { s.number.counters with duplicate := raise16 s.number.counters.duplicate } }

/-- R29 c, R31, R32: what the number unit makes of the origin of a message from a peer; a CLAIM is judged by its own
rules but in FIXED. -/
def State.hearOrigin (s : State) (o : Station) (isClaim : Bool) : State :=
  match s.number.numbering with
  | .fixed n => if o = n then s.raiseDuplicate else s
  | .holding n => if o = n ∧ isClaim = false then s.yieldNumber n else s
  | .claiming c _ => if o = c ∧ isClaim = false then s.endClaim c else s
  | _ => s

/-- R29 a, R30: a CLAIM delivered from a peer. -/
def State.hearClaim (s : State) (o : Station) (serial : BitVec 32) : State :=
  match s.number.numbering with
  | .claiming c _ => if o = c ∧ serial ≠ s.serial then s.endClaim c else s
  | .holding n =>
    if o = n then
      if serial < s.serial then s.yieldNumber n
      else if s.serial < serial then s.defend n
      else s
    else s
  | _ => s

/-- R29 b, R30: a claim loss reported by the link controller for the node's CLAIM of number `n`; a loss of a CLAIM
withdrawn before, for a number that is no longer the candidate, ends nothing (DEDUCED, notes/assumptions/13.md). -/
def State.claimLost (s : State) (n : Station) : State :=
  match s.number.numbering with
  | .claiming c _ => if n = c then s.endClaim c else s
  | .holding h => if n = h then s.yieldNumber h else s
  | _ => s

/-- R28: the node's own CLAIM is self-received. -/
def State.ownClaimSent (s : State) (n : Station) : State :=
  match s.number.numbering with
  | .claiming c _ => if n = c then s.setNumbering (.claiming c (some 0)) else s
  | _ => s

/-! ## Start (R25, R36) -/

/-- R25, R36: the number unit starts; `kept` is the HOLDING number a warm restart carried. -/
def State.startNumber (s : State) (c : Config) : State :=
  let kept := s.number.kept
  let s := s.setNumber { s.number with kept := none, taken := [], duplicate := false, duplicateQuiet := 0 }
  match c.mode with
  | .fixed n => (s.setNumbering (.fixed n)).clearPeer n
  | .claim lo hi _ =>
    match kept with
    | some n =>
      if lo ≤ n ∧ n ≤ hi then
        let s := s.enterHolding n
        s.setLink (s.link.writeClaim ⟨n, s.serial⟩)
      else s.enterListen
    | none => s.enterListen

/-! ## The work of the number unit at an edge -/

/-- R33: a number of the claim range has an absent entry. -/
def State.rangeHasAbsent (s : State) : Bool := s.range.any fun n => (s.peers.get n).isNone

/-- R26, R28, R32, R33: the counts of the number unit rise at an edge, and what their ends bring, unless a command has
done it ahead. The count of an entry to CLAIM_LISTEN stays 0 at the edge of the entry. -/
def State.numberEdge (s : State) : State :=
  if s.ahead.number then s else
  match s.number.numbering with
  | .stopped => s
  | .fixed _ =>
    if s.number.duplicate then
      if 256 ≤ s.number.duplicateQuiet + 1 then s.setNumber { s.number with duplicate := false, duplicateQuiet := 0 }
      else s.setNumber { s.number with duplicateQuiet := s.number.duplicateQuiet + 1 }
    else s
  | .listen n => if 32 ≤ n + 1 then s.chooseCandidate else s.setNumbering (.listen (n + 1))
  | .claiming c window =>
    match window with
    | none => s
    | some w => if 8 ≤ w + 1 then s.enterHolding c else s.setNumbering (.claiming c (some (w + 1)))
  | .holding _ => s
  | .numberless => if s.rangeHasAbsent then s.enterListen else s

/-! ## Commands -/

/-- CLAIM_LOSS (R8, R29, R30): the CLAIM's attempt ends, and the number unit withdraws the claim or yields. -/
def execClaimLoss (s : State) : Host.Outcome State Fault Refusal :=
  .next
    (match s.link.attempt with
     | some a => if a.source = .claim then s.attemptFailed.claimLost a.message.origin else s
     | none => s)

/-- CLAIM_WINDOW_END (R28): the edge now due brings the window count to 8. -/
def execClaimWindowEnd (s : State) : Host.Outcome State Fault Refusal :=
  .next
    (match s.number.numbering with
     | .claiming c (some w) => if 8 ≤ w + 1 then (s.enterHolding c).numberAhead else s
     | _ => s)

/-- DUPLICATE_CLEAR (R32): the edge now due brings the duplicate quiet count to 256. -/
def execDuplicateClear (s : State) : Host.Outcome State Fault Refusal :=
  .next
    (if s.number.duplicate ∧ 256 ≤ s.number.duplicateQuiet + 1 then
       s.setNumber { s.number with duplicate := false, duplicateQuiet := 0 }
     else s)

end Sys2Proof.Machine
end

