-- ==== Sys2Proof/Machine/Peers.lean ====
section
/-! DEFINITION. The peer table (3.8): what a delivered message sets, ageing, and the candidates the frame timer reads. -/

namespace Sys2Proof.Machine

open Sys2Proof

/-- Write one entry. -/
def State.setPeer (s : State) (n : Station) (p : Option Peer) : State := s.setPeers (s.peers.set n.val p n.isLt)

/-- An entry no message has set anything in yet. -/
def Peer.blank : Peer := ⟨0, none, none, none⟩

/-- R37: the peer table enters messages of this origin: every origin but the node's held number. -/
def State.enters (s : State) (o : Station) : Bool := decide (s.heldNumber ≠ some o)

/-- R38: the first delivery step: presence, silence count 0 and, for a SYNC of its length, role, position and last SYNC
frame, with the frame number current at delivery. -/
def State.hearPeer (s : State) (o : Station) (sync : Option SyncFields) : State :=
  if s.enters o then
    let p := { (s.peers.get o).getD Peer.blank with silence := 0 }
    s.setPeer o
      (some
        (match sync with
         | none => p
         | some f => { p with role := some f.role, position := some f.position, sync := some (s.frame, 0) }))
  else s

/-- R38 b: the second delivery of a STATUS sets the timing role. -/
def State.hearStatusRole (s : State) (o : Station) (r : Role) : State :=
  match s.peers.get o with
  | some p => s.setPeer o (some { p with role := some r })
  | none => s

/-- R40, R173: an aged-out number turns off every camera whose source it is. -/
def Triggers.dropSource (t : Triggers) (n : Station) : Triggers :=
  { t with cameras := t.cameras.map fun c => if c.source = some n then ⟨false, none⟩ else c }

/-- R39, R40: an entry ages out: it becomes absent with every field, and the tally table is told. -/
def State.ageOut (s : State) (n : Station) : State :=
  (s.setPeer n none).setTriggers (s.triggers.dropSource n)

/-- R39: the counts of a present entry rise at an edge. -/
def Peer.rise (p : Peer) : Peer :=
  { p with silence := p.silence + 1, sync := p.sync.map fun x => (x.1, min 255 (x.2 + 1)) }

/-- The numbers of all entries, lowest first. -/
def stations : List Station := (List.range 64).map (Fin.ofNat 64)

/-- R39: one entry at an edge: its counts rise, and at the age limit it ages out. An entry kept through a warm restart
whose count already meets a newly lowered limit ages out at the next edge (DESIGN CHOICE, notes/assumptions/32.md). -/
def State.agePeer (limit : Nat) (s : State) (n : Station) : State :=
  match s.peers.get n with
  | none => s
  | some p => if limit ≤ p.silence + 1 then s.ageOut n else s.setPeer n (some p.rise)

/-- R39: every entry at an edge. -/
def State.agePeers (s : State) (c : Config) : State := stations.foldl (State.agePeer c.ageLimit) s

/-! ## The table at the edge now due -/

/-- R44, R50: work of the edge now due, which reads the entries as they stand after the ageing and the count rise of that
edge; these themselves are left to FRAME_EDGE. -/
def State.onAged (s : State) (work : State → State) : State :=
  match s.config with
  | none => work s
  | some c => ((work (s.agePeers c)).setPeers s.peers).setTriggers s.triggers

/-- CANDIDATE_CHOICE (R26, R27): the edge now due brings the listen count to 32. -/
def execCandidateChoice (s : State) : Host.Outcome State Fault Refusal :=
  .next
    (match s.number.numbering with
     | .listen n => if 32 ≤ n + 1 then (s.onAged State.chooseCandidate).numberAhead else s
     | _ => s)

/-! ## Candidates for leader (R50) -/

/-- R50: the role in which a present entry is a candidate: ANCHORED or LEADING, with a last SYNC frame and a SYNC silence
count below T_lost. -/
def Peer.candidateRole (p : Peer) (tLost : Nat) : Option Role :=
  match p.sync with
  | none => none
  | some (_, silence) =>
    if silence < tLost then
      match p.role with
      | some .anchored => some .anchored
      | some .leading => some .leading
      | _ => none
    else none

/-- R50: rank of a candidate, lower being better: ANCHORED before LEADING, then the lower number. -/
def rankOf (r : Role) (n : Nat) : Nat := if r = .anchored then n else 65 + n

/-- The rank below every candidate (R50). -/
def rankBelowAll : Nat := 200

/-- R50: rank of a station as a candidate, below all where it is none. -/
def State.stationRank (s : State) (tLost : Nat) (n : Station) : Nat :=
  match (s.peers.get n).bind fun p => p.candidateRole tLost with
  | some r => rankOf r n.val
  | none => rankBelowAll

/-- The better of a best candidate so far and a station. -/
def State.betterCandidate (s : State) (tLost : Nat) (best : Option Station) (n : Station) : Option Station :=
  if s.stationRank tLost n < rankBelowAll then
    match best with
    | none => some n
    | some b => if s.stationRank tLost n < s.stationRank tLost b then some n else some b
  else best

/-- R50: the best candidate, if one exists. -/
def State.bestCandidate (s : State) (tLost : Nat) : Option Station := stations.foldl (s.betterCandidate tLost) none

/-- R63: the numbering source of an ANCHORED node: the ANCHORED candidate of lowest number, lower than the node's own
held number if it holds one. -/
def State.numberingSource (s : State) (tLost : Nat) : Option Station :=
  stations.find? fun n =>
    decide (((s.peers.get n).bind fun p => p.candidateRole tLost) = some .anchored) &&
      (match s.heldNumber with
       | some own => decide (n < own)
       | none => true)

end Sys2Proof.Machine
end

