-- ==== Sys2Proof/Machine/Timer.lean ====
section
/-! DEFINITION. The frame timer: start, period loop, roles, lock quality, reference capture, measurement and numbering
(4.1 to 4.9), and its commands but for FRAME_EDGE itself. -/

namespace Sys2Proof.Machine

open Sys2Proof

/-! ## Small writes -/

/-- Write the running timer. -/
def State.setRun (s : State) (r : TimerRun) : State := s.setTimer { s.timer with run := some r }

/-- The state with `f` as its current frame, as a block sees it that takes the edge numbered `f`. -/
def State.atFrame (s : State) (f : FrameNo) : State :=
  match s.timer.run with
  | some r => s.setRun { r with frame := f }
  | none => s

/-- Write the counters of Table 4-6. -/
def State.setTimerCounters (s : State) (c : TimerCounters) : State := s.setTimer { s.timer with counters := c }

/-- R53 a: a lock quality just taken up. -/
def Lock.fresh : Lock := ⟨.acquiring, 0, 0, 0⟩

/-- A reference capture just started (R43). -/
def RefCapture.fresh : RefCapture := ⟨none, 0, false⟩

/-- R43: the frame timer just started, its first edge, numbered 0, at `now`. -/
def TimerRun.fresh (c : TimerConfig) (now : Stamp) : TimerRun where
  config := c
  restart := none
  pf := c.pNom * 256
  fraction := 0
  frame := 0
  length := c.pNom
  lastEdge := now
  previousEdge := none
  role := .start 0
  held := none
  numbering := none
  capture := RefCapture.fresh
  lastError := 0
  lastLateness := 0

/-- The scheduled stamp of the next edge (R44). -/
def TimerRun.nextEdge (r : TimerRun) : Stamp := r.lastEdge + BitVec.ofNat 32 r.length

/-! ## Numbering (R62, R63) -/

/-- The frame pair the coming edge adopts from: that of a FOLLOWING node's measurement, or an ANCHORED node's numbering
pair; only a pair with n ≠ m changes the number. -/
def TimerRun.adoptedPair (r : TimerRun) : Option FramePair :=
  let pair :=
    match r.role with
    | .following _ _ _ => r.held.bind fun m => m.pair
    | .anchored _ => r.numbering
    | _ => none
  pair.filter fun p => decide (p.n ≠ p.m)

/-- The number of the coming edge (R62, R63; 0 at an edge that starts the timer anew, R65). -/
def TimerRun.nextNumber (r : TimerRun) : FrameNo :=
  if r.restart.isSome then 0
  else
    match r.adoptedPair with
    | some p => r.frame + 1 + (p.n - p.m)
    | none => r.frame + 1

/-! ## The period loop (R45 to R47) -/

/-- Pf_min (4.1). -/
def pfMin (c : TimerConfig) : Nat := c.pNom * 256 - c.pNom * 256 / 200

/-- Pf_max (4.1). -/
def pfMax (c : TimerConfig) : Nat := c.pNom * 256 + c.pNom * 256 / 200

/-- A value brought into low to high. -/
def clampInt (low high x : Int) : Int := max low (min high x)

/-- R45: Pf with an error added, clamped. -/
def adjustPf (c : TimerConfig) (pf : Nat) (e : Int) : Nat := (clampInt (pfMin c) (pfMax c) (pf + e)).toNat

/-- R46: the correction of an error: e / 8 truncated toward zero, within the slew. -/
def correction (c : TimerConfig) (e : Int) : Int := clampInt (-c.slew) c.slew (e.tdiv 8)

/-- R47: the length of a frame that makes an acquisition jump, clamped. -/
def jumpLength (c : TimerConfig) (x : Int) : Nat :=
  (clampInt ((c.pNom + 1) / 2 : Nat) (3 * c.pNom / 2 : Nat) x).toNat

/-- The jump allowance is set (Table 4-1). -/
def TimerRole.jumpSet : TimerRole → Bool
  | .following _ _ j => j
  | _ => false

/-- R47: the coming edge makes an acquisition jump: a measurement beyond the lock window, held while the allowance is
set. -/
def TimerRun.jumps (r : TimerRun) : Bool :=
  match r.held with
  | some m => r.role.jumpSet && decide (r.config.window < m.e.natAbs)
  | none => false

/-- R47: the allowance is cleared at the first edge with a measurement. -/
def TimerRun.clearAllowance (r : TimerRun) : TimerRun :=
  match r.role, r.held with
  | .following n lock _, some _ => { r with role := .following n lock false }
  | _, _ => r

/-- R46, R47: Pf, fraction accumulator and length of the frame the coming edge begins. -/
def TimerRun.newLength (r : TimerRun) : TimerRun :=
  let e : Int := match r.held with | some m => m.e | none => 0
  let pf := if r.jumps then r.pf else adjustPf r.config r.pf e
  let sum := r.fraction + pf % 256
  let carry := sum / 256
  let base := pf / 256
  { r with
    pf := pf
    fraction := sum % 256
    length :=
      if r.jumps then jumpLength r.config (base + e + carry) else ((base : Int) + correction r.config e + carry).toNat
    lastError := if r.held.isSome then e else r.lastError }

/-! ## Lock quality (R54) -/

/-- R54: the lock with the measurement held at an edge, or none, accounted. -/
def Lock.account (l : Lock) (window tLost : Nat) (e : Option Int) : Lock :=
  match e with
  | some e =>
    if e.natAbs ≤ window then
      let run := min 8 (l.inRun + 1)
      { quality := if l.quality ≠ .locked ∧ run = 8 then .locked else l.quality, inRun := run, outRun := 0, quiet := 0 }
    else
      match l.quality with
      | .locked =>
        if 3 ≤ l.outRun + 1 then { quality := .unlocked, inRun := 0, outRun := 3, quiet := 0 }
        else { l with outRun := l.outRun + 1, quiet := 0 }
      | _ => { l with inRun := 0, quiet := 0 }
  | none =>
    match l.quality with
    | .locked =>
      if tLost ≤ l.quiet + 1 then { l with quality := .unlocked, inRun := 0, quiet := l.quiet + 1 }
      else { l with quiet := l.quiet + 1 }
    | _ => { l with quiet := min 64 (l.quiet + 1) }

/-- The lock quality of a role, present in ANCHORED and FOLLOWING. -/
def TimerRole.lock : TimerRole → Option Lock
  | .anchored l => some l
  | .following _ l _ => some l
  | _ => none

/-- A role with its lock replaced. -/
def TimerRole.withLock (r : TimerRole) (l : Lock) : TimerRole :=
  match r with
  | .anchored _ => .anchored l
  | .following n _ j => .following n l j
  | r => r

/-- R54: the lock of the timer accounted at an edge; a change from LOCKED to UNLOCKED is counted. -/
def State.accountLock (s : State) (r : TimerRun) : State :=
  match r.role.lock with
  | none => s.setRun r
  | some l =>
    let l' := l.account r.config.window r.config.tLost (r.held.map fun m => m.e)
    let s := s.setRun { r with role := r.role.withLock l' }
    if l.quality = .locked ∧ l'.quality = .unlocked then
      s.setTimerCounters { s.timer.counters with lockLoss := raise16 s.timer.counters.lockLoss }
    else s

/-! ## Roles (R49 to R53) -/

/-- The role as SYNC and STATUS carry it. -/
def TimerRole.role : TimerRole → Role
  | .start _ => .start
  | .anchored _ => .anchored
  | .leading => .leading
  | .following _ _ _ => .following
  | .free => .free

/-- R53 d, e: what leaving the present role does: ANCHORED and LEADING withdraw the SYNC, ANCHORED drops the numbering
pair. -/
def State.leaveRole (s : State) (r : TimerRun) : State × TimerRun :=
  match r.role with
  | .anchored _ => (s.setLink s.link.withdrawSync, { r with numbering := none })
  | .leading => (s.setLink s.link.withdrawSync, r)
  | _ => (s, r)

/-- R53: entry to ANCHORED. -/
def State.enterAnchored (s : State) (r : TimerRun) : State :=
  let x := s.leaveRole r
  x.1.setRun { x.2 with role := .anchored Lock.fresh, held := none }

/-- R53: entry to LEADING. -/
def State.enterLeading (s : State) (r : TimerRun) : State :=
  let x := s.leaveRole r
  x.1.setRun { x.2 with role := .leading }

/-- R53: entry to FREE. -/
def State.enterFree (s : State) (r : TimerRun) : State :=
  let x := s.leaveRole r
  x.1.setRun { x.2 with role := .free }

/-- R53 b: the jump allowance on entry to FOLLOWING: set from START and FREE. -/
def TimerRole.allowsJump : TimerRole → Bool
  | .start _ => true
  | .free => true
  | _ => false

/-- R53: entry to FOLLOWING, or a change of leader. -/
def State.follow (s : State) (r : TimerRun) (leader : Station) : State :=
  let x := s.leaveRole r
  let s := x.1.setRun { x.2 with role := .following leader Lock.fresh r.role.allowsJump }
  s.setTimerCounters { s.timer.counters with leaderChange := raise16 s.timer.counters.leaderChange }

/-- The node may lead: permission given and number held. -/
def State.mayLead (s : State) (r : TimerRun) : Bool := r.config.leadPermission && s.ownAtEdge.isSome

/-- R52: "choose". -/
def State.chooseRole (s : State) (r : TimerRun) : State :=
  match s.bestCandidate r.config.tLost with
  | some n => s.follow r n
  | none => if s.mayLead r then s.enterLeading r else s.enterFree r

/-- R50: the rank of the node as a LEADING candidate; a node with no number ranks below every number
(DESIGN CHOICE, notes/assumptions/14.md). -/
def leadingRank (own : Option Station) : Nat :=
  match own with
  | some n => rankOf .leading n.val
  | none => rankOf .leading 64

/-- R49: the choice at the end of START. -/
def State.endStart (s : State) (r : TimerRun) : State :=
  let own := if s.mayLead r then leadingRank s.ownAtEdge else rankBelowAll
  if r.capture.valid then s.enterAnchored r
  else
    match s.bestCandidate r.config.tLost with
    | some n =>
      if s.stationRank r.config.tLost n < own then s.follow r n
      else if s.mayLead r then s.enterLeading r
      else s.enterFree r
    | none => if s.mayLead r then s.enterLeading r else s.enterFree r

/-- R52, Table 4-3: the role evaluated at an edge after START. -/
def State.tableRole (s : State) (r : TimerRun) : State :=
  match r.role with
  | .start _ => s.setRun r
  | .anchored _ => if r.capture.valid then s.setRun r else s.chooseRole r
  | .leading =>
    if r.capture.valid then s.enterAnchored r
    else if !s.mayLead r then s.chooseRole r
    else
      match s.bestCandidate r.config.tLost with
      | some n => if s.stationRank r.config.tLost n < leadingRank s.ownAtEdge then s.follow r n else s.setRun r
      | none => s.setRun r
  | .following leader _ _ =>
    if r.capture.valid then s.enterAnchored r
    else if s.stationRank r.config.tLost leader = rankBelowAll then s.chooseRole r
    else
      match s.bestCandidate r.config.tLost with
      | some n =>
        if s.stationRank r.config.tLost n < s.stationRank r.config.tLost leader then s.follow r n else s.setRun r
      | none => s.setRun r
  | .free =>
    if r.capture.valid then s.enterAnchored r
    else
      match s.bestCandidate r.config.tLost with
      | some n => s.follow r n
      | none => if s.mayLead r then s.enterLeading r else s.setRun r

/-- R49, R52: the role at an edge: the start count, its end, or the evaluation of Table 4-3. -/
def State.evaluateRole (s : State) (r : TimerRun) : State :=
  match r.role with
  | .start n => if 2 * r.config.tLost ≤ n + 1 then s.endStart r else s.setRun { r with role := .start (n + 1) }
  | _ => s.tableRole r

/-! ## Measurement (R59 to R61, R63) -/

/-- R59: the delay between two link positions, in ticks. -/
def linkDelay (a b : Nat) : Nat := (((a : Int) - b).natAbs * 27 + 100) / 200

/-- The own edges an estimate may pair with, earliest first, with their numbers (R60). -/
def TimerRun.ownEdges (r : TimerRun) : List (Stamp × FrameNo) :=
  (match r.previousEdge with
   | some p => [(p, r.frame - 1)]
   | none => []) ++ [(r.lastEdge, r.frame), (r.nextEdge, r.frame + 1)]

/-- The nearest edge of a list, the earlier of two equally near. -/
def nearestEdge (t : Stamp) : List (Stamp × FrameNo) → Stamp × FrameNo → Stamp × FrameNo
  | [], best => best
  | x :: rest, best =>
    nearestEdge t rest (if (tickDiff t x.1).natAbs < (tickDiff t best.1).natAbs then x else best)

/-- R60: the own edge an estimate pairs with. -/
def TimerRun.pairEdge (r : TimerRun) (t : Stamp) : Stamp × FrameNo :=
  match r.ownEdges with
  | [] => (r.lastEdge, r.frame)
  | x :: rest => nearestEdge t rest x

/-- R59: the estimate of the sender's edge from a SYNC, the position read from the sender's entry. -/
def State.estimate (s : State) (r : TimerRun) (o : Station) (f : SyncFields) (a : Stamp) : Stamp :=
  let pos := ((s.peers.get o).bind fun p => p.position).getD f.position
  a - BitVec.ofNat 32 f.lateness - BitVec.ofNat 32 (linkDelay pos r.config.position) - BitVec.ofNat 32 r.config.rxLatency

/-- R59, R60: a SYNC taken as a measurement, in place of any held before. -/
def State.measure (s : State) (r : TimerRun) (o : Station) (f : SyncFields) (a : Stamp) : State :=
  let t := s.estimate r o f a
  let p := r.pairEdge t
  s.setRun { r with held := some ⟨tickDiff t p.1, some ⟨f.frame, p.2⟩⟩ }

/-- R63: a SYNC from the numbering source gives a numbering pair. -/
def State.holdNumbering (s : State) (r : TimerRun) (o : Station) (f : SyncFields) (a : Stamp) : State :=
  let p := r.pairEdge (s.estimate r o f a)
  s.setRun { r with numbering := some ⟨f.frame, p.2⟩ }

/-- R51 c to e, R53 f: follow the sender and take its SYNC as a measurement. -/
def State.followAndMeasure (s : State) (r : TimerRun) (o : Station) (f : SyncFields) (a : Stamp) : State :=
  let s := s.follow r o
  match s.timer.run with
  | some r => s.measure r o f a
  | none => s

/-- R51: a SYNC is refused for its lateness or its role. -/
def SyncFields.refused (f : SyncFields) (pNom : Nat) : Bool :=
  decide (3 * pNom / 2 ≤ f.lateness) || !(decide (f.role = .anchored) || decide (f.role = .leading))

/-- R51: a SYNC from a peer taken by the frame timer; `own` is the number held at its delivery. -/
def State.takeSync (s : State) (own : Option Station) (o : Station) (f : SyncFields) (a : Stamp) : State :=
  match s.timer.run with
  | none => s
  | some r =>
    if f.refused r.config.pNom then
      s.setTimerCounters { s.timer.counters with beaconRefused := raise16 s.timer.counters.beaconRefused }
    else if own = some o then s
    else
      let rank := s.stationRank r.config.tLost o
      match r.role with
      | .start _ => s
      | .anchored _ => if s.numberingSource r.config.tLost = some o then s.holdNumbering r o f a else s
      | .leading => if rank < leadingRank s.heldNumber then s.followAndMeasure r o f a else s
      | .free => if rank < rankBelowAll then s.followAndMeasure r o f a else s
      | .following leader _ _ =>
        if o = leader then s.measure r o f a
        else if rank < s.stationRank r.config.tLost leader then s.followAndMeasure r o f a
        else s

/-- R58: the node's own SYNC was sent with the given lateness. -/
def State.ownSyncSent (s : State) (lateness : Nat) : State :=
  match s.timer.run with
  | none => s
  | some r =>
    let s := s.setRun { r with lastLateness := lateness }
    s.setTimerCounters { s.timer.counters with beaconsSent := raise16 s.timer.counters.beaconsSent }

/-! ## Reference capture (R55, R56) -/

/-- An interval is good (R55). -/
def goodInterval (c : TimerConfig) (ticks : Nat) : Bool :=
  decide (c.pNom - c.pNom / 100 ≤ ticks) && decide (ticks ≤ c.pNom + c.pNom / 100)

/-- R55, R56: the capture after a pulse at `now`. -/
def RefCapture.pulse (c : RefCapture) (cfg : TimerConfig) (now : Stamp) : RefCapture :=
  match c.lastPulse with
  | none => { c with lastPulse := some now, good := 0 }
  | some p =>
    if goodInterval cfg (ticksSince now p) then
      let good := min 4 (c.good + 1)
      ⟨some now, good, c.valid || decide (good = 4)⟩
    else ⟨some now, 0, false⟩

/-- R56: the pulse ended a bad interval. -/
def RefCapture.badPulse (c : RefCapture) (cfg : TimerConfig) (now : Stamp) : Bool :=
  match c.lastPulse with
  | none => false
  | some p => !goodInterval cfg (ticksSince now p)

/-- REFERENCE_PULSE (R55, R56, R61): the pulse is stamped and its interval judged; in ANCHORED with a valid capture it
gives a measurement. -/
def execReferencePulse (now : Stamp) (s : State) : Host.Outcome State Fault Refusal :=
  let s := s.advanceTo now
  .next
    (match s.timer.run with
     | none => s
     | some r =>
       let bad := r.capture.badPulse r.config now
       let cap := r.capture.pulse r.config now
       let c := s.timer.counters
       let s :=
         s.setTimerCounters
           { c with
             intervalFault := if bad then raise16 c.intervalFault else c.intervalFault
             referenceLoss := if r.capture.valid && !cap.valid then raise16 c.referenceLoss else c.referenceLoss }
       let r := { r with capture := cap }
       match r.role with
       | .anchored _ =>
         if cap.valid then s.setRun { r with held := some ⟨tickDiff now (r.pairEdge now).1, none⟩ } else s.setRun r
       | _ => s.setRun r)

/-- REFERENCE_TIMEOUT (R56): floor(3 × P_nom / 2) ticks have passed after the last pulse. -/
def execReferenceTimeout (s : State) : Host.Outcome State Fault Refusal :=
  .next
    (match s.timer.run with
     | none => s
     | some r =>
       match r.capture.lastPulse with
       | none => s
       | some p =>
         let s := s.advanceTo (p + BitVec.ofNat 32 (3 * r.config.pNom / 2))
         let c := s.timer.counters
         let s := s.setTimerCounters { c with referenceLoss := if r.capture.valid then raise16 c.referenceLoss else c.referenceLoss }
         s.setRun { r with capture := RefCapture.fresh })

/-! ## Commands that are parts of the edge now due -/

/-- The frame timer has accounted its lock at the edge now due. -/
def State.lockAhead (s : State) : State := s.setAhead { s.ahead with lock := true }

/-- The frame timer has accounted its lock and evaluated its role at the edge now due. -/
def State.roleAhead (s : State) : State := s.setAhead { s.ahead with lock := true, role := true }

/-- The frame timer, if the edge now due accounts its lock and evaluates its role (R44): an edge at which it starts anew
(R65) does neither. -/
def State.runDue (s : State) : Option TimerRun := s.timer.run.filter fun r => r.restart.isNone

/-- START_END (R49, R50): the edge now due brings the start count to 2 × T_lost. -/
def execStartEnd (s : State) : Host.Outcome State Fault Refusal :=
  .next
    (match s.runDue with
     | none => s
     | some r =>
       match r.role with
       | .start n => if 2 * r.config.tLost ≤ n + 1 then (s.onAged fun s => s.endStart r).roleAhead else s
       | _ => s)

/-- R54 d: the lock at a quiet count that has reached T_lost. -/
def Lock.quietLoss (l : Lock) : Lock := { l with quality := .unlocked, inRun := 0, quiet := l.quiet + 1 }

/-- LOCK_QUIET_LOSS (R54): with no measurement held, the edge now due brings the quiet count of a LOCKED timer to
T_lost. -/
def execLockQuietLoss (s : State) : Host.Outcome State Fault Refusal :=
  .next
    (match s.runDue with
     | none => s
     | some r =>
       match r.role.lock with
       | none => s
       | some l =>
         if l.quality = .locked ∧ r.held = none ∧ r.config.tLost ≤ l.quiet + 1 then
           let s := (s.setRun { r with role := r.role.withLock l.quietLoss }).lockAhead
           s.setTimerCounters { s.timer.counters with lockLoss := raise16 s.timer.counters.lockLoss }
         else s)

/-- The entry's silence count stands one short of A, or already meets it (notes/assumptions/32.md): the edge now due ages it
out (R39). -/
def State.dueAgeOut (s : State) (n : Station) : Bool :=
  match s.config, s.timer.run, s.peers.get n with
  | some c, some _, some p => decide (c.ageLimit ≤ p.silence + 1)
  | _, _, _ => false

/-- R44, R54: the lock accounted at an edge, unless a command has done it ahead. -/
def State.lockEdge (s : State) (r : TimerRun) : State := if s.ahead.lock then s.setRun r else s.accountLock r

/-- R44, R49, R52: the role evaluated at an edge, unless a command has done it ahead. -/
def State.roleEdge (s : State) : State :=
  match s.timer.run with
  | none => s
  | some r => if s.ahead.role then s else s.evaluateRole r

/-- R40: a timer that followed the number accounts its lock and chooses a new leader, its work at the edge now due. -/
def State.loseLeader (s : State) (n : Station) : State :=
  match s.runDue with
  | none => s
  | some r =>
    match r.role with
    | .following leader _ _ => if leader = n then ((s.lockEdge r).onAged State.roleEdge).roleAhead else s
    | _ => s

/-- R40, R33: a NUMBERLESS number unit listens again if the number lies in its claim range, its work at the edge now
due. -/
def State.retryNumber (s : State) (n : Station) : State :=
  if s.number.numbering = .numberless ∧ s.range.contains n then s.enterListen.numberAhead else s

/-- PEER_AGE_OUT (R39, R40): the entry becomes absent, and the frame timer, the tally table and the number unit act on
it. -/
def execPeerAgeOut (n : Station) (s : State) : Host.Outcome State Fault Refusal :=
  .next (if s.dueAgeOut n then ((s.ageOut n).loseLeader n).retryNumber n else s)

end Sys2Proof.Machine
end

