-- ==== Sys2Proof/Machine/Ingest.lean ====
section
/-! DEFINITION. Pixel ingest: arrival of rows (5.2), the flush (5.3), the row writer (5.4) and the back buffer (5.5). -/

namespace Sys2Proof.Machine

open Sys2Proof

/-! ## Judging by tag (R68, R71, R74) -/

/-- How a tag stands to the current frame. -/
inductive TagFate where
  | stale
  | outOfWindow
  | ahead
  deriving DecidableEq, Repr

/-- R68: a tag not later than the current frame is stale, one more than 255 frames later out of window. -/
def judgeTag (tag f : FrameNo) : TagFate :=
  if !later tag f then .stale else if moreLater 255 tag f then .outOfWindow else .ahead

/-- The count a discarded tag raises. -/
def IngestCounts.ofTag (c : IngestCounts) (fate : TagFate) : IngestCounts :=
  match fate with
  | .stale => { c with stale := raise8 c.stale }
  | .outOfWindow => { c with outOfWindow := raise8 c.outOfWindow }
  | .ahead => c

/-! ## The queue and the pace line (R69, R70) -/

/-- R70: the pace line after a row has joined. -/
def Ingest.paceUp (u : Ingest) (trigger : Nat) : Ingest := if trigger ≤ u.queue.length then { u with pace := .stop } else u

/-- R70: the pace line after the fill has fallen. -/
def Ingest.paceDown (u : Ingest) : Ingest := if u.queue = [] then { u with pace := .go } else u

/-- R69: an accepted row is taken by the idle writer, joins the queue, or is counted as an overrun. -/
def Ingest.offer (u : Ingest) (trigger : Nat) (r : Row) : Ingest :=
  if u.queue = [] ∧ u.writer = none then { u with writer := some r }
  else if u.queue.length < 8 then { u with queue := u.queue ++ [r] }.paceUp trigger
  else { u with counts := { u.counts with overrun := raise8 u.counts.overrun } }

/-- R68, R69: a row whose check matches, at current frame `f`. -/
def Ingest.arrive (u : Ingest) (c : Config) (f : FrameNo) (r : Row) : Ingest :=
  if c.tiles ≤ r.tile then { u with counts := { u.counts with malformed := raise8 u.counts.malformed } }
  else
    match judgeTag r.tag f with
    | .ahead => u.offer c.paceTrigger r
    | fate => { u with counts := u.counts.ofTag fate }

/-- R67: a bad row. -/
def Ingest.countBad (u : Ingest) : Ingest := { u with counts := { u.counts with bad := raise8 u.counts.bad } }

/-- The row a packet brings, if it is not a bad row (R67). -/
def RowPacket.row (p : RowPacket) : Option Row :=
  match p with
  | .broken => none
  | .whole bytes => readRow bytes

/-- R66 to R70: a packet that arrives; while pixel ingest is stopped it is discarded uncounted. A packet whose reception
began while pixel ingest was stopped and that arrives after the start is judged as any other: the state at arrival
decides (DESIGN CHOICE, notes/assumptions/5.md). -/
def State.takePacket (s : State) (p : RowPacket) : State :=
  match s.isRunning, s.config with
  | true, some c =>
    match p.row with
    | none => s.setIngest s.ingest.countBad
    | some r => s.setIngest (s.ingest.arrive c s.frame r)
  | _, _ => s

/-- ROW_ARRIVAL (R66 to R70, R191): the pixel port receives the levels of its line, in every phase, and what arrives is
taken at its arrival, by the state at that moment (R66: DESIGN CHOICE, notes/assumptions/5.md). -/
def execRowArrival (levels : List Bool) (s : State) : Host.Outcome State Fault Refusal :=
  let x := s.pixelPort.run levels
  .next (x.2.foldl State.takePacket (s.setPixelPort x.1))

/-! ## The flush (R71) -/

/-- R71: the flush at edge `f`. -/
def Ingest.flush (u : Ingest) (f : FrameNo) : Ingest :=
  if u.queue = [] then u
  else
    Ingest.paceDown
      { u with
        queue := u.queue.filter fun r => decide (judgeTag r.tag f = .ahead)
        counts :=
          { u.counts with
            stale := raise8By (u.queue.countP fun r => decide (judgeTag r.tag f = .stale)) u.counts.stale
            outOfWindow := raise8By (u.queue.countP fun r => decide (judgeTag r.tag f = .outOfWindow)) u.counts.outOfWindow } }

/-! ## The row writer (R73, R78, R79) -/

/-- R73: a component through the tile gain. -/
def gained (p g : Nat) : Nat := min 4095 (p * g / 1024)

/-- R73: the pixels of a row through the gains of its tile. -/
def Row.gainedPixels (r : Row) (gains : Vector Rgb 4) : List Rgb :=
  r.pixels.map fun p => Rgb.zip gained p (gains.get (Fin.ofNat 4 r.tile))

/-- The sum of pixels, component by component. -/
def sumPixels (pixels : List Rgb) : Rgb := pixels.foldl (Rgb.zip (· + ·)) Rgb.black

/-- R79: the pixels of a row inside a zone. -/
def zonePart (z : Zone) (r : Row) (pixels : List Rgb) : List Rgb :=
  if z.tile = r.tile ∧ z.firstRow ≤ r.row ∧ r.row ≤ z.lastRow then
    (pixels.take (z.lastCol + 1)).drop z.firstCol
  else []

/-- R79: the zone sums after the write of a row. -/
def addZones (zones : List Zone) (sums : Vector Rgb 8) (r : Row) (pixels : List Rgb) : Vector Rgb 8 :=
  Vector.ofFn fun i =>
    match zones[i.val]? with
    | some z => Rgb.zip (· + ·) (sums.get i) (sumPixels (zonePart z r pixels))
    | none => sums.get i

/-- R78: the tile sums after the write of a row. -/
def addTile (sums : Vector Rgb 4) (r : Row) (pixels : List Rgb) : Vector Rgb 4 :=
  let i := Fin.ofNat 4 r.tile
  sums.set i.val (Rgb.zip (· + ·) (sums.get i) (sumPixels pixels)) i.isLt

/-- Every row 0 to 63 of every configured tile has been received (R76). -/
def allReceived (tiles : Nat) (received : Vector (List Nat) 4) : Bool :=
  (List.range tiles).all fun x => (List.range 64).all fun r => (received.get (Fin.ofNat 4 x)).contains r

/-- R76: the writer row is written under its tag. -/
def BackBuffer.writeRow (b : BackBuffer) (c : Config) (r : Row) : BackBuffer :=
  let pixels := r.gainedPixels c.gains
  let x := Fin.ofNat 4 r.tile
  let received := b.received.set x.val (b.received.get x ++ [r.row]) x.isLt
  { state := if allReceived c.tiles received then .complete r.tag else .opened r.tag
    store := writeCell blackRow b.store (rowAddress r.tile r.row) pixels
    received := received
    tileSums := addTile b.tileSums r pixels
    zoneSums := addZones c.zones b.zoneSums r pixels }

/-- The tag of a back buffer that is not EMPTY. -/
def BackState.tag : BackState → Option FrameNo
  | .empty => none
  | .opened t => some t
  | .complete t => some t

/-- What a commit does to the back buffer (Table 5-6). -/
inductive CommitAction where
  | write
  | duplicate
  | supersede
  | stale
  deriving DecidableEq, Repr

/-- R75, Table 5-6: the action for a writer row at current frame `f`. A row whose tag is unordered with the buffer's is
neither later nor earlier than it; it can stand only where a renumbering has put the buffer's tag out of window, and is
taken with the earlier ones (DEDUCED, notes/assumptions/26.md). -/
def BackBuffer.commitAction (b : BackBuffer) (f : FrameNo) (r : Row) : CommitAction :=
  match b.state.tag with
  | none => .write
  | some t =>
    if r.tag = t then (if (b.received.get (Fin.ofNat 4 r.tile)).contains r.row then .duplicate else .write)
    else if later r.tag t then .supersede
    else if moreLater 255 t f then .supersede
    else .stale

/-- R75: a commit that passes R74, done. -/
def Ingest.commitTo (u : Ingest) (c : Config) (f : FrameNo) (r : Row) : Ingest :=
  match u.back.commitAction f r with
  | .write => { u with back := u.back.writeRow c r }
  | .duplicate => { u with counts := { u.counts with duplicate := raise8 u.counts.duplicate } }
  | .supersede =>
    { u with
      back := (BackBuffer.cleared u.back.store).writeRow c r
      counts := { u.counts with superseded := raise8 u.counts.superseded } }
  | .stale => { u with counts := { u.counts with stale := raise8 u.counts.stale } }

/-- R73: the idle writer takes the oldest row of the queue. -/
def Ingest.takeNext (u : Ingest) : Ingest :=
  match u.queue with
  | [] => u
  | r :: rest => Ingest.paceDown { u with queue := rest, writer := some r }

/-- R74: the writer row judged and committed; the writer is idle and takes the next row. -/
def Ingest.commit (u : Ingest) (c : Config) (f : FrameNo) : Ingest :=
  match u.writer with
  | none => u
  | some r =>
    let u := { u with writer := none }
    (match judgeTag r.tag f with
     | .ahead => u.commitTo c f r
     | fate => { u with counts := u.counts.ofTag fate }).takeNext

/-- ROW_COMMIT (R74 to R79): the gain pass ends; with no writer row nothing ends. -/
def execRowCommit (s : State) : Host.Outcome State Fault Refusal :=
  .next
    (match s.isRunning, s.config with
     | true, some c => s.setIngest (s.ingest.commit c s.frame)
     | _, _ => s)

end Sys2Proof.Machine
end

