-- ==== Sys2Proof/Machine/Wall.lean ====
section
/-! DEFINITION. The wall buffers and scan: the flip (6.2), the published figures (6.3), the scan profile (6.4), slots
(6.5), the pixel chain (6.6), and the command WALL_HELD. -/

namespace Sys2Proof.Machine

open Sys2Proof

/-! ## The flip (R84 to R88) -/

/-- What the flip does with the back buffer (Table 6-2). -/
inductive FlipAction where
  | swap
  | keep
  | missed
  deriving DecidableEq, Repr

/-- Table 6-2: the action at edge `f`; with an EMPTY buffer there is nothing to swap or to miss. -/
def flipAction (b : BackState) (f : FrameNo) : FlipAction :=
  match b with
  | .empty => .keep
  | .opened t => if later t f then .keep else .missed
  | .complete t => if t = f then .swap else if later t f then .keep else .missed

/-- The area of a zone (R79). -/
def zoneArea (z : Zone) : Nat := (z.lastCol - z.firstCol + 1) * (z.lastRow - z.firstRow + 1)

/-- R89: the figures of a complete buffer; tiles and zones that are not configured have 0. -/
def BackBuffer.figures (b : BackBuffer) (c : Config) : Figures where
  tiles := Vector.ofFn fun x => if x.val < c.tiles then (b.tileSums.get x).map (· / 4096) else Rgb.black
  zones :=
    Vector.ofFn fun i =>
      match c.zones[i.val]? with
      | some z => (b.zoneSums.get i).map (· / zoneArea z)
      | none => Rgb.black

/-- R85: a swap at the edge with label `edge`: the new picture, its figures, and a repeat run of 0. -/
def Wall.swap (w : Wall) (c : Config) (edge : Nat) (b : BackBuffer) : Wall :=
  { w with
    front := b.store
    figures := w.figures.publish edge (b.figures c)
    repeatRun := 0
    repeatHanded := w.repeatHanded.publish edge 0
    held := false }

/-- R87, R88: the front repeated at the edge with label `edge`; `missed` is the number of buffers missed there. -/
def Wall.repeatFront (w : Wall) (c : Config) (edge : Nat) (missed : Bool) : Wall :=
  let run := raise16 w.repeatRun
  { w with
    figures := w.figures.publish edge w.figures.last
    repeatRun := run
    repeatHanded := w.repeatHanded.publish edge run
    held := w.held || decide (c.holdLimit < run)
    repeats := raise8 w.repeats
    missed := if missed then raise8 w.missed else w.missed }

/-- R84: the flip at an edge. -/
def State.flip (s : State) (c : Config) : State :=
  let edge := s.timer.edges
  let b := s.ingest.back
  match flipAction b.state s.frame with
  | .swap =>
    (s.setIngest { s.ingest with back := BackBuffer.cleared s.wall.front }).setWall (s.wall.swap c edge b)
  | .keep => s.setWall (s.wall.repeatFront c edge false)
  | .missed =>
    (s.setIngest { s.ingest with back := BackBuffer.cleared b.store }).setWall (s.wall.repeatFront c edge true)

/-! ## The scan (R91 to R95) -/

/-- R91: the on-air camera of lowest number, or the default profile. -/
def chooseProfile (cameras : Vector Camera 8) : Fin 9 :=
  match (List.finRange 8).find? fun i => (cameras.get i).onAir with
  | some i => i.castSucc
  | none => 8

/-- R92, R93: the frame drive set of a frame of `length` ticks under a profile, with the merged levels and the scale of
the previous edge. -/
def ScanDrive.form (p : ScanProfile) (length : Nat) (merged : Vector Nat 36) (scale : Nat) : ScanDrive where
  slots := p.slots
  slotLength := length / p.slots
  lastLength := length / p.slots + length % p.slots
  lit := length / p.slots - p.blank
  master := merged.get 32
  trims := ⟨merged.get 33, merged.get 34, merged.get 35⟩
  scale := scale

/-- The start of slot `i` after the edge, in ticks (R92). -/
def ScanDrive.slotStart (d : ScanDrive) (i : Nat) : Nat := i * d.slotLength

/-- R93: q4 of a stored component. -/
def ScanDrive.q4 (d : ScanDrive) (q1 : Nat) (i : Fin 3) : Nat :=
  scaleBy (scaleBy (scaleBy q1 d.master) (d.trims.component i)) d.scale

/-- R94: the on-time of a stored component in every slot of the frame. -/
def ScanDrive.onTime (d : ScanDrive) (q1 : Nat) (i : Fin 3) : Nat := d.q4 q1 i * d.lit / 4095

/-- The tile count in use, 0 while no configuration is. -/
def State.tiles (s : State) : Nat :=
  match s.config with
  | some c => c.tiles
  | none => 0

/-- A pixel of a pixel store. -/
def PixelStore.pixel (p : PixelStore) (tile row col : Nat) : Rgb :=
  (readCell blackRow p (rowAddress tile row)).getD col Rgb.black

/-- The on-time of a pixel component in each slot of the present frame; 0 where the tile outputs are dark: before the
first edge, while the scan is stopped, and for a tile that is not configured (R83, R94, R97). -/
def State.tileOnTime (s : State) (tile row col : Nat) (i : Fin 3) : Nat :=
  match s.wall.drive with
  | none => 0
  | some d => if tile < s.tiles then d.onTime ((s.wall.front.pixel tile row col).component i) i else 0

/-- Whether the drive of a pixel component is on `t` ticks after the edge (R94). -/
def State.tileLit (s : State) (tile row col : Nat) (i : Fin 3) (t : Nat) : Bool :=
  match s.wall.drive with
  | none => false
  | some d =>
    (List.range d.slots).any fun k =>
      decide (d.slotStart k ≤ t) && decide (t < d.slotStart k + s.tileOnTime tile row col i)

/-- R91 to R94: the scan at an edge, after the flip. -/
def State.scanEdge (s : State) (c : Config) : State :=
  let edge := s.timer.edges
  let p := chooseProfile s.triggers.cameras
  let length := match s.timer.run with | some r => r.length | none => 0
  s.setWall
    { s.wall with
      profile := some p
      drive :=
        some (ScanDrive.form (c.profiles.get p) length (s.output.merged.readBefore edge) (s.budget.scale.readBefore edge)) }

/-- R83: the flip and the scan at an edge. -/
def State.wallEdge (s : State) (c : Config) : State := (s.flip c).scanEdge c

/-! ## Command -/

/-- The edge now due would swap (R84). -/
def State.swapDue (s : State) : Bool :=
  match s.timer.run with
  | some r => decide (flipAction s.ingest.back.state r.nextNumber = .swap)
  | none => false

/-- WALL_HELD (R88): the edge now due brings the repeat run above the hold limit. -/
def execWallHeld (s : State) : Host.Outcome State Fault Refusal :=
  .next
    (match s.isRunning, s.config with
     | true, some c =>
       if c.holdLimit < raise16 s.wall.repeatRun ∧ s.swapDue = false then s.setWall { s.wall with held := true } else s
     | _, _ => s)

end Sys2Proof.Machine
end

