-- ==== Sys2Proof/Machine/Output.lean ====
section
/-! DEFINITION. The output stage: merging (9.3), the fixture drive set (9.5) and the levels of the fixture pins. -/

namespace Sys2Proof.Machine

open Sys2Proof

/-! ## Merging (R142, R143) -/

/-- The level a lane holds for a channel, 0 where it holds none. -/
def Lane.levelOf (l : Lane) (ch : Fin 36) : Nat :=
  match l.levels.get ch with
  | some v => v.level
  | none => 0

/-- R142: the highest lane level of a channel. -/
def LaneEngine.highest (e : LaneEngine) (ch : Fin 36) : Nat := laneIndices.foldl (fun m i => max m ((e.lanes.get i).levelOf ch)) 0

/-- R143: the level of the owner lane of a channel. -/
def LaneEngine.owned (e : LaneEngine) (ch : Fin 36) : Nat :=
  match e.owners.get ch with
  | some i => (e.lanes.get i).levelOf ch
  | none => 0

/-- The merged level of a channel by its merge mode. -/
def LaneEngine.merged (e : LaneEngine) (c : Config) (ch : Fin 36) : Nat :=
  match (c.channels.get ch).merge with
  | .htp => e.highest ch
  | .ltp => e.owned ch

/-! ## The fixture drive (R148 to R150) -/

/-- R150: the duty for an output level, a cycle length and a minimum on-time. -/
def dutyOf (out cycle minOn : Nat) : Nat :=
  if out = 0 then 0 else min cycle (max minOn (out * cycle / 65536))

/-- R148 to R150: the drive of a fixture channel for a frame of `length` ticks. -/
def FixtureDrive.form (ch : ChannelConfig) (length level scale : Nat) : FixtureDrive where
  cycle := length / ch.cycles
  lastCycle := length / ch.cycles + length % ch.cycles
  duty := dutyOf (scaleBy level scale) (length / ch.cycles) ch.minOnTime

/-- The configuration of a fixture channel. -/
def fixtureConfig (c : Config) (i : Fin 32) : ChannelConfig := c.channels.get (i.castLE (by decide))

/-- The polarities of the fixture outputs. -/
def fixturePolarities (c : Config) : Vector Polarity 32 := Vector.ofFn fun i => (fixtureConfig c i).polarity

/-- R142 to R150: the output stage at an edge: the merge of the lanes published, and the drive of the frame formed from
the merged set and the scale of the previous edge. -/
def State.outputEdge (s : State) (c : Config) : State :=
  let edge := s.timer.edges
  let length := match s.timer.run with | some r => r.length | none => 0
  let levels := s.output.merged.readBefore edge
  let scale := s.budget.scale.readBefore edge
  s.setOutput
    { s.output with
      merged := s.output.merged.publish edge (Vector.ofFn fun ch => s.lanes.merged c ch)
      drive :=
        some (Vector.ofFn fun i : Fin 32 =>
          FixtureDrive.form (fixtureConfig c i) length (levels.get (i.castLE (by decide))) scale) }

/-! ## The fixture pins (R141, R151) -/

/-- The level of the active state of a polarity: `true` for high. -/
def activeLevel : Polarity → Bool
  | .normal => true
  | .inverted => false

/-- The channel is inside a pulse `t` ticks after the edge (R149, R151). -/
def FixtureDrive.active (d : FixtureDrive) (cycles t : Nat) : Bool :=
  (List.range cycles).any fun i => decide (i * d.cycle ≤ t) && decide (t < i * d.cycle + d.duty)

/-- R141, R151: the level of a fixture output `t` ticks into the frame, absent while it is released. -/
def State.fixtureLevel (s : State) (i : Fin 32) (t : Nat) : Option Bool :=
  match s.output.driven with
  | none => none
  | some polarity =>
    let on :=
      match s.output.drive, s.config with
      | some drive, some c => (drive.get i).active (fixtureConfig c i).cycles t
      | _, _ => false
    some (if on then activeLevel (polarity.get i) else !activeLevel (polarity.get i))

end Sys2Proof.Machine
end

