-- ==== Sys2Proof/Machine/Budget.lean ====
section
/-! DEFINITION. The budget unit: demand (10.2), the rail watch (10.3), the budget scale (10.4), and the commands
RAIL_SAMPLE and LIMIT_STEP_UP. -/

namespace Sys2Proof.Machine

open Sys2Proof

/-! ## Demand (R155, R156) -/

/-- R155: one component of one tile. -/
def tileDemand (mean master trim wc : Nat) : Nat := scaleBy (scaleBy mean master) trim * wc / 4095

/-- The three components of a colour added up. -/
def totalOf (x : Rgb) : Nat := x.r + x.g + x.b

/-- R155: the three components of one tile. -/
def tileDemands (mean wall : Rgb) (merged : Vector Nat 36) : Nat :=
  let master := merged.get 32
  tileDemand mean.r master (merged.get 33) wall.r + tileDemand mean.g master (merged.get 34) wall.g +
    tileDemand mean.b master (merged.get 35) wall.b

/-- R155: the wall demand. -/
def wallDemand (tiles : Vector Rgb 4) (wall : Rgb) (merged : Vector Nat 36) : Nat :=
  (List.finRange 4).foldl (fun n x => n + tileDemands (tiles.get x) wall merged) 0

/-- R156: the fixture demand. -/
def fixtureDemand (c : Config) (merged : Vector Nat 36) : Nat :=
  (List.finRange 32).foldl (fun n i => n + scaleBy (fixtureConfig c i).current (merged.get (i.castLE (by decide)))) 0

/-! ## The effective limit (R159, R160) -/

/-- R159: a step down. -/
def stepDown (c : BudgetConfig) (limit : Nat) : Nat := max c.leastLimit (limit - c.limit / 8)

/-- R160: a step up. -/
def stepUp (c : BudgetConfig) (limit : Nat) : Nat := min c.limit (limit + c.limit / 32)

/-- R159, R160: the ending frame judged, unless LIMIT_STEP_UP has judged it ahead; the coming frame begins. -/
def Budget.judgeFrame (b : Budget) (c : BudgetConfig) (ahead : Bool) : Budget :=
  let b' := { b with observed := true, frameBelow := b.nextBelow, nextBelow := false }
  if ahead || !b.observed then b'
  else if b.frameBelow then
    { b' with
      effectiveLimit := stepDown c b.effectiveLimit
      recoveryRun := 0
      counts := { b.counts with stepDown := raise8 b.counts.stepDown } }
  else if c.recoveryLength ≤ b.recoveryRun + 1 then
    { b' with effectiveLimit := stepUp c b.effectiveLimit, recoveryRun := 0 }
  else { b' with recoveryRun := b.recoveryRun + 1 }

/-! ## The budget scale (R161 to R163) -/

/-- R161: the target scale. -/
def targetScale (demand limit floor : Nat) : Nat :=
  if demand ≤ limit then 65535 else max floor (limit * 65536 / demand - 1)

/-- R162: the new scale. -/
def newScale (target old : Nat) : Nat := if target ≤ old then target else min target (old + 1024)

/-- R163: the overload condition. -/
def overloaded (demand limit floor : Nat) : Bool := decide (limit < scaleBy demand floor)

/-- R161 to R164: the scale formed from a demand and published at the edge with label `edge`. -/
def Budget.formScale (b : Budget) (c : BudgetConfig) (edge demand : Nat) : Budget :=
  let exceeded := overloaded demand b.effectiveLimit c.floor
  { b with
    demand := demand
    scale := b.scale.publish edge (newScale (targetScale demand b.effectiveLimit c.floor) (b.scale.readBefore edge))
    overload := exceeded
    counts := { b.counts with overload := if exceeded then raise8 b.counts.overload else b.counts.overload } }

/-- R164: the budget unit at an edge. -/
def State.budgetEdge (s : State) (c : Config) : State :=
  let edge := s.timer.edges
  let merged := s.output.merged.readBefore edge
  let demand := wallDemand (s.wall.figures.readBefore edge).tiles c.budget.wall merged + fixtureDemand c merged
  s.setBudget ((s.budget.judgeFrame c.budget s.ahead.limit).formScale c.budget edge demand)

/-! ## The rail watch (R157, R158) -/

/-- R157: a sense input, in units of 1/65536 of the reference, compared with a threshold of n/16. -/
def compareRail (input n : Nat) : RailState := if input * 16 < n * 65536 then .below else .above

/-- R158: the sag count of a rail after a sample. -/
def sagCount (before sample : RailState) (n : Nat) : Nat := if before = .above ∧ sample = .below then raise8 n else n

/-- R157, R158: one sample of both rails; `ahead` counts it into the frame of the edge now due. -/
def Budget.sample (b : Budget) (tile fixture : RailState) (ahead : Bool) : Budget :=
  let below := decide (tile = .below) || decide (fixture = .below)
  { b with
    tileRail := tile
    fixtureRail := fixture
    frameBelow := b.frameBelow || (below && !ahead)
    nextBelow := b.nextBelow || (below && ahead)
    counts :=
      { b.counts with
        tileSag := sagCount b.tileRail tile b.counts.tileSag
        fixtureSag := sagCount b.fixtureRail fixture b.counts.fixtureSag } }

/-- RAIL_SAMPLE (R157, R158): the comparators sampled at a slot start. -/
def execRailSample (tile fixture : Nat) (ahead : Bool) (s : State) : Host.Outcome State Fault Refusal :=
  .next
    (match s.isRunning, s.config with
     | true, some c =>
       s.setBudget
         (s.budget.sample (compareRail tile c.budget.tileThreshold) (compareRail fixture c.budget.fixtureThreshold) ahead)
     | _, _ => s)

/-- LIMIT_STEP_UP (R160): the edge now due brings the recovery run to the recovery length; the frame that ends there is
judged by this. -/
def execLimitStepUp (s : State) : Host.Outcome State Fault Refusal :=
  .next
    (match s.isRunning, s.config with
     | true, some c =>
       if s.ahead.limit = false ∧ s.budget.observed ∧ s.budget.frameBelow = false ∧
           c.budget.recoveryLength ≤ s.budget.recoveryRun + 1 then
         (s.setAhead { s.ahead with limit := true }).setBudget
           { s.budget with effectiveLimit := stepUp c.budget s.budget.effectiveLimit, recoveryRun := 0 }
       else s
     | _, _ => s)

end Sys2Proof.Machine
end

