-- ==== Sys2Proof/Machine/Triggers.lean ====
section
/-! DEFINITION. The trigger and tally unit: pins (11.1), the tally table (11.2), and the commands TRIGGER_QUALIFIED and
TRIGGER_EXPIRED. -/

namespace Sys2Proof.Machine

open Sys2Proof

/-! ## The tally table (R172, R173) -/

/-- R172: the TALLY that reports every local value. -/
def Triggers.report (t : Triggers) : TallyBody where
  mask := BitVec.ofNat 8 (valueOf ((List.finRange 8).map fun i => (t.localTally.get i).isSome).reverse)
  on := BitVec.ofNat 8 (valueOf ((List.finRange 8).map fun i => decide (t.localTally.get i = some true)).reverse)

/-- R172: a TALLY pin sets the local value and the table entry of its camera. -/
def Triggers.setCamera (t : Triggers) (camera : Fin 8) (on : Bool) (own : Option Station) : Triggers :=
  { t with
    localTally := t.localTally.set camera.val (some on) camera.isLt
    cameras := t.cameras.set camera.val ⟨on, own⟩ camera.isLt }

/-- R173: a TALLY from a peer sets the cameras of its mask. -/
def Triggers.hearTally (t : Triggers) (o : Station) (m : TallyBody) : Triggers :=
  { t with
    cameras := Vector.ofFn fun i => if m.mask.getLsbD i.val then ⟨m.on.getLsbD i.val, some o⟩ else t.cameras.get i }

/-- R172: the node's own TALLY was sent. -/
def Triggers.countSent (t : Triggers) : Triggers := { t with tallySent := raise16 t.tallySent }

/-- R172: a qualified transition of a TALLY pin. -/
def State.tallyPin (s : State) (camera : Fin 8) (on : Bool) : State :=
  let s := s.setTriggers (s.triggers.setCamera camera on s.heldNumber)
  s.setLink (s.link.writeTally s.triggers.report)

/-! ## Messages of the pins (R169 to R171) -/

/-- R171: the link controller takes a trigger message: outside DETACHED, in FIXED or HOLDING. -/
def State.queuesTriggers (s : State) : Bool := decide (s.link.state ≠ .detached) && s.heldNumber.isSome

/-- R116, R171: a message that cannot be sent, delivered to the own lanes at edge `f`, is judged by the number of that
edge. -/
def State.applyUnsentAt (s : State) (f : FrameNo) (m : CueMessage) : State :=
  ((s.atFrame f).applyUnsent m).setTimer s.timer

/-- R169, R171: a message formed at edge `f` is counted and offered to the trigger queue, or delivered to the own lanes. -/
def State.formTrigger (s : State) (f : FrameNo) (m : CueMessage) : State :=
  let s := s.setTriggers { s.triggers with formed := raise16 s.triggers.formed }
  if s.queuesTriggers then s.setLink (s.link.offerTrigger m) else s.applyUnsentAt f m

/-- R170: the lowest-numbered lane bound to a playback. -/
def State.boundLane (s : State) (p : Fin 16) : Option (Fin 4) :=
  laneIndices.find? fun i => decide ((s.lane i).binding = some p)

/-- R170: the cue number a GO_NEXT pin resolves to. -/
def State.resolveCue (s : State) (p : Fin 16) (pin : PinConfig) : Option Nat :=
  (s.boundLane p).bind fun i =>
    match (s.lane i).current with
    | none => some pin.firstCue
    | some c => if 65534 < c.record.number.toNat + pin.step then none else some (c.record.number.toNat + pin.step)

/-- R169: a message of a pin that qualifies at edge `f`. -/
def pinMessage (kind : CueKind) (p : Fin 16) (pin : PinConfig) (f : FrameNo) : CueMessage :=
  ⟨kind, BitVec.ofNat 8 p.val, pin.mask, f + BitVec.ofNat 16 pin.lead⟩

/-- R169, R170: a GO_NEXT pin forms its GO, or counts the trigger unresolved. -/
def State.goNextPin (s : State) (p : Fin 16) (pin : PinConfig) (f : FrameNo) : State :=
  match s.resolveCue p pin with
  | some cue => s.formTrigger f (pinMessage (.go (BitVec.ofNat 16 cue)) p pin f)
  | none => s.setTriggers { s.triggers with unresolved := raise16 s.triggers.unresolved }

/-- R168: the edge selection takes a transition to this level. -/
def edgeTakes (e : EdgeSelect) (level : Bool) : Bool :=
  match e with
  | .rise => level
  | .fall => !level
  | .both => true

/-- R169, R172: what a qualified transition of a selected direction to `level` does at edge `f`. -/
def State.pinActs (s : State) (pin : PinConfig) (level : Bool) (f : FrameNo) : State :=
  if edgeTakes pin.edge level then
    match pin.function with
    | .none => s
    | .goNext p => s.goNextPin p pin f
    | .hold p => s.formTrigger f (pinMessage .hold p pin f)
    | .release p => s.formTrigger f (pinMessage .release p pin f)
    | .tally c => s.tallyPin c level
  else s

/-! ## Sampling (R168) -/

/-- Write the debounce state of a pin. -/
def State.setPin (s : State) (i : Fin 8) (p : PinState) : State :=
  s.setTriggers { s.triggers with pins := s.triggers.pins.set i.val p i.isLt }

/-- R168 c: the pin takes a new stable level at edge `f`, and its transition acts. -/
def State.qualify (s : State) (c : Config) (i : Fin 8) (level : Bool) (f : FrameNo) : State :=
  (s.setPin i ⟨some level, 0⟩).pinActs (c.pins.get i) level f

/-- R168: one sample of a pin judged at edge `f`. -/
def State.samplePin (s : State) (c : Config) (i : Fin 8) (level : Bool) (f : FrameNo) : State :=
  let p := s.triggers.pins.get i
  match p.stable with
  | none => s.setPin i ⟨some level, 0⟩
  | some l =>
    if l = level then s.setPin i ⟨some l, 0⟩
    else if (c.pins.get i).debounce + 1 ≤ p.run + 1 then s.qualify c i level f
    else s.setPin i ⟨some l, p.run + 1⟩

/-- The pins below the `upTo`-th whose sample of the edge now due is still to be taken, lowest first (R169). -/
def State.pinsToSample (s : State) (upTo : Nat) : List (Fin 8) :=
  (List.finRange 8).filter fun i => decide (s.ahead.pins ≤ i.val) && decide (i.val < upTo)

/-- R168, R169: the samples still to be taken of the pins below the `upTo`-th, judged at edge `f` in the order of their
numbers, so that their messages are offered lowest first. That of two TALLY pins of one camera the higher-numbered is the
last to set its value is the model's reading of R172 (DESIGN CHOICE, notes/assumptions/31.md). -/
def State.samplePins (s : State) (c : Config) (pins : BitVec 8) (f : FrameNo) (upTo : Nat) : State :=
  (s.pinsToSample upTo).foldl (fun s i => s.samplePin c i (pins.getLsbD i.val) f) s

/-- R168, R169: the eight pins at an edge, but for those whose sample TRIGGER_QUALIFIED has taken ahead. -/
def State.pinsEdge (s : State) (c : Config) (pins : BitVec 8) : State := s.samplePins c pins s.frame 8

/-! ## Commands -/

/-- The number of the edge now due (R44). -/
def State.nextFrame (s : State) : FrameNo :=
  match s.timer.run with
  | some r => r.nextNumber
  | none => 0

/-- R168: at the edge now due the pin, not yet sampled, stands at this level and its run count reaches d + 1. -/
def State.qualifies (s : State) (c : Config) (i : Fin 8) (level : Bool) : Bool :=
  decide (s.ahead.pins ≤ i.val) && decide ((s.triggers.pins.get i).stable = some (!level)) &&
    decide ((c.pins.get i).debounce + 1 ≤ (s.triggers.pins.get i).run + 1)

/-- TRIGGER_QUALIFIED (R168 to R172): the edge now due brings the run count of the pin to d + 1. The samples of that edge
are taken of the pins below it, which R169 lets go first, and then of the pin itself, before the other blocks work at that
edge, one of the orders R170 and R171 allow (DESIGN CHOICE, notes/assumptions/6.md). -/
def execTriggerQualified (e : PinEdge) (s : State) : Host.Outcome State Fault Refusal :=
  .next
    (match s.isRunning, s.config with
     | true, some c =>
       if s.qualifies c e.pin (e.levels.getLsbD e.pin.val) then
         (s.samplePins c e.levels s.nextFrame (e.pin.val + 1)).setAhead { s.ahead with pins := e.pin.val + 1 }
       else s
     | _, _ => s)

/-- TRIGGER_EXPIRED (R19): at the edge now due, the queued messages 8 or more frames past are dropped and counted. -/
def execTriggerExpired (s : State) : Host.Outcome State Fault Refusal :=
  .next (if s.timer.run.isSome then s.setLink (s.link.expireTriggers s.nextFrame) else s)

end Sys2Proof.Machine
end

