-- ==== Sys2Proof/Machine/Report.lean ====
section
/-! DEFINITION. The report unit: STATUS (11.3), QUERY and the ANSWER pages (11.4, Table 13-8). -/

namespace Sys2Proof.Machine

open Sys2Proof

/-! ## Bytes of a page -/

/-- A value below 256 as one byte. -/
def byteOf (n : Nat) : Byte := BitVec.ofNat 8 n

/-- A flag as a byte. -/
def byteOfBool (b : Bool) : Byte := byteOf b.toNat

/-- A station number, 255 where there is none. -/
def stationByte (n : Option Station) : Byte :=
  match n with
  | some n => byteOf n.val
  | none => 255

/-- Counters, 2 bytes each. -/
def counterBytes (l : List Nat) : List Byte := l.flatMap (toBytes 2)

/-- Counts, 1 byte each. -/
def countBytes (l : List Nat) : List Byte := l.map byteOf

/-- A page filled up to its 40 bytes with 0. -/
def padPage (l : List Byte) : List Byte := (l ++ List.replicate 40 0).take 40

/-- The code of an optional item, 0 where it is absent. -/
def codeOr0 (c : Option Nat) : Byte := byteOf (c.getD 0)

/-- The code of a lock quality, 0 where there is none. -/
def lockCode (l : Option Lock) : Byte := codeOr0 (l.map fun l => l.quality.code)

/-- The leader of a role. -/
def TimerRole.leader : TimerRole → Option Station
  | .following n _ _ => some n
  | _ => none

/-! ## Pages 0 to 9 (Table 13-8) -/

/-- The number or the candidate page 0 names. -/
def Numbering.shown : Numbering → Option Station
  | .fixed n => some n
  | .holding n => some n
  | .claiming c _ => some c
  | _ => none

/-- The number mode of the configuration: 0 FIXED, 1 CLAIM. -/
def State.modeCode (s : State) : Nat :=
  match s.config with
  | some c =>
    match c.mode with
    | .fixed _ => 0
    | .claim _ _ _ => 1
  | none => 0

/-- Page 0: identity (R35, R189). -/
def State.identityPage (s : State) : List Byte :=
  let u := s.number
  toBytes 4 s.serial.toNat ++
    [byteOf s.modeCode, byteOf u.numbering.code, stationByte u.numbering.shown, byteOfBool u.duplicate] ++
    counterBytes
      [u.counters.listenEntry, u.counters.withdraw, u.counters.yield, u.counters.defence, u.counters.duplicate] ++
    [codeOr0 (s.startup.cause.map StartCause.code), codeOr0 (s.startup.lastLoadFault.map LoadFault.code)] ++
    counterBytes [s.startup.failedLoads, s.startup.restartRefused]

/-- Page 1: link (R24, R40). -/
def State.linkPage (s : State) : List Byte :=
  let l := s.link
  let c := l.counters
  [byteOf l.state.code, byteOf l.tecCount, byteOf l.recCount, byteOf l.lastFault.code, byteOf s.presentCount] ++
    counterBytes
      [c.detach, c.stale, c.answerReplaced, c.triggerRefused, c.triggerExpired, c.unsentTrigger, c.lengthRefused]

/-- Page 2: timing (R64). -/
def State.timingPage (s : State) : List Byte :=
  match s.timer.run with
  | none => []
  | some r =>
    let c := s.timer.counters
    let runs := match r.role.lock with | some l => [l.inRun, l.outRun, l.quiet] | none => [0, 0, 0]
    [byteOf r.role.role.code, lockCode r.role.lock] ++ countBytes runs ++
      [stationByte r.role.leader, byteOf (r.role.jumpSet.toNat + 2 * r.capture.valid.toNat), byteOf r.capture.good] ++
      toBytes 2 r.frame.toNat ++ toBytes 4 r.pf ++ [byteOf r.fraction] ++ toBytes 3 r.length ++
      toBytes 3 (BitVec.ofInt 24 r.lastError).toNat ++ toBytes 3 r.lastLateness ++
      counterBytes
        [c.renumber, c.jump, c.leaderChange, c.lockLoss, c.referenceLoss, c.intervalFault, c.beaconRefused, c.beaconsSent]

/-- The delay count or k of a cue (R126). -/
def CurrentCue.progress (c : CurrentCue) : Nat :=
  if c.position < c.record.delay then c.position else min c.record.fade (c.position - c.record.delay)

/-- The pause frame of a cue, 0 where it runs. -/
def CurrentCue.pauseFrame (c : CurrentCue) : Nat :=
  match c.running with
  | .paused _ f => f.toNat
  | .run => 0

/-- The fetch state of a lane (Table 13-2); QUEUED and IN_FLIGHT are read from the fetch unit. -/
def State.fetchState (s : State) (i : Fin 4) : Nat :=
  match (s.lane i).pending with
  | none => 0
  | some p =>
    match p.fetch with
    | .asked => if s.fetch.flight.any fun fl => decide (fl.request.lane = i) then 2 else 1
    | .ready _ => 3
    | .waitEdge _ => 4

/-- Pages 3 to 6: one lane (R136). -/
def State.lanePage (s : State) (i : Fin 4) : List Byte :=
  let l := s.lane i
  let binding := match l.binding with | some p => byteOf p.val | none => 255
  let current :=
    match l.current with
    | some c => toBytes 2 c.record.number.toNat ++ toBytes 2 c.progress ++ toBytes 2 c.pauseFrame
    | none => List.replicate 6 0
  let pending := match l.pending with | some p => p.cue.toNat | none => 0
  let execute := match l.pending with | some p => p.execute.toNat | none => 0
  [binding, byteOf l.condition.code] ++ current ++ toBytes 2 pending ++ [byteOf (s.fetchState i), byteOf l.control.length] ++
    countBytes [l.counts.start, l.counts.catchUp, l.counts.contest, l.counts.failure, l.counts.ignored] ++ toBytes 2 execute

/-- Page 7: wall (R81, R96, R173, R176); with no profile in use its byte is an unused one and is sent as 0 (R190). -/
def State.wallPage (s : State) : List Byte :=
  let u := s.ingest.counts
  let w := s.wall
  let onAir := valueOf ((List.finRange 8).map fun i => (s.triggers.cameras.get i).onAir).reverse
  countBytes
      [u.bad, u.malformed, u.outOfWindow, u.stale, u.overrun, u.duplicate, u.superseded, w.repeats, w.missed,
        min 255 w.repeatRun] ++
    [codeOr0 (w.profile.map fun p => p.val), byteOfBool w.held, byteOf onAir] ++
    counterBytes [s.triggers.tallySent, s.report.answered, s.report.unknownPage]

/-- Page 8: budget (R165). -/
def State.budgetPage (s : State) : List Byte :=
  let b := s.budget
  toBytes 2 (b.demand / 16) ++ toBytes 2 (b.effectiveLimit / 16) ++
    [byteOf (b.scale.last / 256),
      byteOf
        (b.overload.toNat + 2 * (decide (b.tileRail = .below)).toNat + 4 * (decide (b.fixtureRail = .below)).toNat)] ++
    countBytes [b.counts.tileSag, b.counts.fixtureSag, b.counts.stepDown, b.counts.overload]

/-- Page 9: fetch and GO (R112, R137, R176). -/
def State.fetchPage (s : State) : List Byte :=
  let u := s.fetch
  let c := u.counters
  let n := s.lanes.counts
  counterBytes [c.done, c.notFound, c.badRecord, c.timeout, c.withdraw, c.abort, c.grant] ++
    (match u.lastBad with
     | some b => [byteOf b.playback.val] ++ toBytes 2 b.cue.toNat ++ [byteOf b.reason.code]
     | none => [255, 0, 0, 0]) ++
    [byteOf u.queue.length, (match u.flight with | some fl => byteOf fl.request.lane.val | none => 255),
      codeOr0 (s.flightPhase.map FetchPhase.code)] ++
    counterBytes
      [n.invalidCue, n.windowRefused, n.superseded, n.followRefused, s.link.counters.unsentTrigger, s.triggers.formed,
        s.triggers.unresolved]

/-- The 40 bytes of a page; an unknown page is 0 throughout (R175). -/
def State.page (s : State) (page : Nat) : List Byte :=
  padPage
    (match page with
     | 0 => s.identityPage
     | 1 => s.linkPage
     | 2 => s.timingPage
     | 3 => s.lanePage 0
     | 4 => s.lanePage 1
     | 5 => s.lanePage 2
     | 6 => s.lanePage 3
     | 7 => s.wallPage
     | 8 => s.budgetPage
     | 9 => s.fetchPage
     | _ => [])

/-! ## QUERY (R175) -/

/-- R175: the ANSWER to a query, its data taken at the delivery. -/
def State.answerTo (s : State) (o : Station) (q : QueryFields) : AnswerBody :=
  ⟨o, q.part, q.page, ((s.page q.page.toNat).drop (10 * q.part.val)).take 10⟩

/-- R175: a QUERY delivered while the node holds the number `own`. -/
def State.takeQuery (s : State) (own : Option Station) (o : Station) (q : QueryFields) : State :=
  match own with
  | none => s
  | some n =>
    if q.target = n.val then
      let a := s.answerTo o q
      let s :=
        s.setReport
          { answered := raise16 s.report.answered
            unknownPage := if 9 < q.page.toNat then raise16 s.report.unknownPage else s.report.unknownPage }
      s.setLink (s.link.writeAnswer a)
    else s

/-! ## STATUS (R174) -/

/-- Two lane conditions in one byte. -/
def lanePair (a b : Condition) : Byte := byteOf (16 * a.code + b.code)

/-- R174: the STATUS formed at the edge with label `edge`. -/
def State.statusBody (s : State) (edge : Nat) : StatusBody :=
  let role := s.timer.run.map fun r => r.role
  let lanes := s.lanes.conditions.readBefore edge
  { role := codeOr0 (role.map fun r => r.role.code)
    lock := lockCode (role.bind TimerRole.lock)
    leader := stationByte (role.bind TimerRole.leader)
    numbering := byteOf s.number.numbering.code
    faults := s.faultSummary
    scale := byteOf (s.budget.scale.readBefore edge / 256)
    lanes01 := lanePair (lanes.get 0) (lanes.get 1)
    lanes23 := lanePair (lanes.get 2) (lanes.get 3)
    repeatRun := byteOf (min 255 (s.wall.repeatHanded.readBefore edge)) }

/-- R174: the edge is the turn of a node that held the number `own` when it came. -/
def statusDue (own : Option Station) (period : Nat) (f : FrameNo) : Bool :=
  match own with
  | none => false
  | some n => decide (f.toNat % period = n.val % period)

/-- R174: the report unit at an edge. -/
def State.reportEdge (s : State) (c : Config) (own : Option Station) : State :=
  if statusDue own c.statusPeriod s.frame && s.heldNumber.isSome then
    s.setLink (s.link.writeStatus (s.statusBody s.timer.edges))
  else s

end Sys2Proof.Machine
end

