-- ==== Sys2Proof/Machine/Edge.lean ====
section
/-! DEFINITION. FRAME_EDGE: the ageing of the peer table, the frame timer's own work in the order of R44, and the edge
handed to every edge-driven block. Blocks read each other's values as published at the previous edge, so their order
matters only where notes/assumptions/7.md says. -/

namespace Sys2Proof.Machine

open Sys2Proof

/-! ## The frame timer's own work (R44) -/

/-- R44, R46, R47, R62, R63: number, stamps and length of the frame the edge begins. -/
def TimerRun.advance (r : TimerRun) : TimerRun :=
  { r.newLength.clearAllowance with frame := r.nextNumber, previousEdge := some r.lastEdge, lastEdge := r.nextEdge }

/-- R47, R62, R63: the renumber and jump counts at an edge. -/
def State.countEdge (s : State) (r : TimerRun) : State :=
  let c := s.timer.counters
  s.setTimerCounters
    { c with
      renumber := if r.adoptedPair.isSome then raise16 c.renumber else c.renumber
      jump := if r.jumps then raise16 c.jump else c.jump }

/-- R57: the SYNC of the edge, written by an ANCHORED or LEADING node that holds a number; while the link controller is
held the write is lost. -/
def State.writeBeacon (s : State) : State :=
  match s.timer.run with
  | none => s
  | some r =>
    match r.role.role with
    | .anchored | .leading =>
      if s.ownAtEdge.isSome && !s.linkHeld then
        s.setLink (s.link.writeSync ⟨r.frame, r.lastEdge, r.role.role, r.config.position⟩)
      else s
    | _ => s

/-- R44: the held measurement and the held numbering pair are cleared. -/
def State.clearHeld (s : State) : State :=
  match s.timer.run with
  | none => s
  | some r => s.setRun { r with held := none, numbering := none }

/-- The model's count of edges rises (R89, R144: edges are told apart by their order). -/
def State.countOrder (s : State) : State := s.setTimer { s.timer with edges := s.timer.edges + 1 }

/-- R44: the frame timer at an edge: number, length, lock, role, beacon. -/
def State.runEdge (s : State) (r : TimerRun) : State :=
  let s := (s.countEdge r).lockEdge r.advance
  let s := s.roleEdge
  (s.setLink s.link.cancelStale).writeBeacon.clearHeld

/-- R65: the edge at which the frame timer starts anew with another P_nom. -/
def State.restartEdge (s : State) (c : TimerConfig) (now : Stamp) : State :=
  let s := s.setRun (TimerRun.fresh c now)
  s.setLink s.link.cancelStale

/-- R44, R65: the frame timer at its scheduled edge. -/
def State.timerEdge (s : State) : State :=
  match s.timer.run with
  | none => s
  | some r =>
    let s := (s.advanceTo r.nextEdge).countOrder
    match r.restart with
    | some c => s.restartEdge c r.nextEdge
    | none => s.runEdge r

/-! ## The edge-driven blocks -/

/-- R19: the trigger queue at an edge. -/
def State.triggerQueueEdge (s : State) : State := s.setLink (s.link.expireTriggers s.frame)

/-- R71: the flush of the ingest queue. -/
def State.flushEdge (s : State) : State := s.setIngest (s.ingest.flush s.frame)

/-- The edge taken by every running block; `pins` are the levels of the trigger pins. At the first edge of a start the
number unit counts nothing (R26). -/
def State.blocksEdge (s : State) (c : Config) (pins : BitVec 8) (first : Bool) : State :=
  let own := s.ownAtEdge
  let s := s.triggerQueueEdge
  let s := if first then s else s.numberEdge
  let s := s.flushEdge.wallEdge c
  let s := ((s.fetchEdge c).lanesEdge c).outputEdge c
  ((s.budgetEdge c).pinsEdge c pins).reportEdge c own

/-- R44: an edge of the running frame timer, but for what commands have done of it ahead. In CONFIG_LOAD only the peer
table and the frame timer take it (R41, R65). -/
def State.edge (s : State) (c : Config) (pins : BitVec 8) : State :=
  let s := (s.agePeers c).timerEdge
  (if s.isRunning then s.blocksEdge c pins false else s).setAhead Ahead.none

/-- FRAME_EDGE (R44): the tick counter reaches the scheduled stamp. A stopped frame timer makes no edge (R43). -/
def execFrameEdge (pins : BitVec 8) (s : State) : Host.Outcome State Fault Refusal :=
  .next
    (match s.timer.run, s.config with
     | some _, some c => s.edge c pins
     | _, _ => s)

end Sys2Proof.Machine
end

