-- ==== Sys2Proof/Machine/Startup.lean ====
section
/-! DEFINITION. The start-up controller: reset (12.1), the configuration read and its check (12.2), RUNNING and SAFE
(12.3), and what each block does at the acceptance of a warm restart (12.4). -/

namespace Sys2Proof.Machine

open Sys2Proof

/-! ## Reset (R180) -/

/-- R180: the part enters, or stays in, RESET with these sources holding it. -/
def State.toReset (s : State) (pinHolds supplyHolds : Bool) : State :=
  State.inReset s.pending s.tick s.serial s.showMemory s.fetch.loaderRequest s.pixelPort
    s.ingest.back.store pinHolds supplyHolds

/-- COLD_RESET (R180): the pin or the detector begins to hold the part. -/
def execColdReset (by_ : ResetHolder) (s : State) : Host.Outcome State Fault Refusal :=
  .next
    (match by_ with
     | .pin => s.toReset true s.startup.supplyHolds
     | .supply => s.toReset s.startup.pinHolds true)

/-- R180: the sources that still hold the part after a release. -/
def Startup.letGo (u : Startup) (by_ : ResetReleaser) : Startup :=
  match by_ with
  | .pin => { u with pinHolds := false }
  | .supply => { u with supplyHolds := false }
  | .both => { u with pinHolds := false, supplyHolds := false }

/-- R113: the fetch unit at the release of cold reset: no fetch, and with the request asserted the grant stays and is
counted. -/
def Fetch.atRelease (u : Fetch) : Fetch :=
  if u.loaderRequest then
    { u with port := .loader, grant := true, queue := [], flight := none, counters := { FetchCounters.zero with grant := 1 } }
  else { u with port := .none, grant := false, queue := [], flight := none, counters := FetchCounters.zero }

/-- R180: the part leaves RESET. -/
def State.leaveReset (s : State) : State :=
  let s := (s.setTick 0).setFetch s.fetch.atRelease
  (s.setStartup { s.startup with phase := .configLoad, cause := some .cold }).askRead

/-- RESET_RELEASE (R180): the part leaves RESET when neither source holds it any longer. -/
def execResetRelease (by_ : ResetReleaser) (s : State) : Host.Outcome State Fault Refusal :=
  .next
    (if s.startup.phase = .reset then
       let s := s.setStartup (s.startup.letGo by_)
       if s.startup.pinHolds || s.startup.supplyHolds then s else s.leaveReset
     else s)

/-! ## A block that passes (R184) -/

/-- R184, R189: the start-up controller at a pass. -/
def Startup.pass (u : Startup) (c : Config) : Startup :=
  { u with
    phase := .running
    cause := if u.phase = .safe then some .reload else u.cause
    readAsked := false
    restartPermission := some c.restartPermission
    anchorExpected := some c.anchorExpected }

/-- R1, R66, R83, R114, R141, R154, R167, R179: the blocks but the number unit and the frame timer start. -/
def State.startBlocks (s : State) (c : Config) : State :=
  let edge := s.timer.edges
  { s with
    ahead := s.ahead.timerOnly
    config := some c
    link := { Link.initial with bitTime := c.bitTime }
    ingest := Ingest.initial s.ingest.back.store
    wall := Wall.initial edge
    lanes := LaneEngine.initial c.bindings edge
    output := OutputStage.initial (some (fixturePolarities c)) edge
    budget := Budget.initial c.budget.limit edge
    triggers := Triggers.initial
    report := ⟨0, 0⟩ }

/-- R43: the frame timer starts, and its first edge is taken by every block. -/
def State.startTimer (s : State) (c : Config) (now : Stamp) (pins : BitVec 8) : State :=
  let s := s.setTimer { run := some (TimerRun.fresh c.timer now), counters := TimerCounters.zero, edges := s.timer.edges + 1 }
  (s.blocksEdge c pins true).setAhead Ahead.none

/-- R65: the frame timer that ran through a warm restart takes the new configuration, or is to start anew at its next
edge. -/
def State.continueTimer (s : State) (r : TimerRun) (c : Config) : State :=
  if c.timer.pNom = r.config.pNom then s.setRun { r with config := c.timer, restart := none }
  else s.setRun { r with restart := some c.timer }

/-- R41: a reload from SAFE that passes empties the peer table. -/
def State.peersAtPass (s : State) : State := if s.startup.phase = .safe then s.setPeers noPeers else s

/-- R184: the block passes its check at `now`. -/
def State.pass (s : State) (c : Config) (now : Stamp) (pins : BitVec 8) : State :=
  let s := s.peersAtPass
  let s := (s.setStartup (s.startup.pass c)).startBlocks c
  let s := s.startNumber c
  match s.timer.run with
  | some r => s.continueTimer r c
  | none => s.startTimer c now pins

/-! ## A block that fails (R185) -/

/-- R185: the part enters SAFE, or stays there. What a start took from its block, the group set and the follow slews among it,
is held until the next start (R114). -/
def State.fail (s : State) (e : LoadFault) : State :=
  { s with
    ahead := Ahead.none
    startup :=
      { s.startup with
        phase := .safe
        readAsked := false
        restartPermission := none
        anchorExpected := none
        lastLoadFault := some e
        failedLoads := raise16 s.startup.failedLoads }
    number := { s.number with numbering := .stopped, kept := none }
    timer := { s.timer with run := none }
    output := OutputStage.initial none s.timer.edges }

/-! ## The end of the read (R181, R182) -/

/-- R181: the read is under way: it holds the port in CONFIG_LOAD or in SAFE. -/
def State.reading (s : State) : Bool :=
  decide (s.fetch.port = .configRead) && (decide (s.startup.phase = .configLoad) || decide (s.startup.phase = .safe))

/-- R182: the outcome of the check of the 1024 bytes read. -/
def State.judgeRead (s : State) : Except LoadFault Config := judgeBlock (readShowBytes s.showMemory 0 1024)

/-- R181: the read ends and frees the port, which is given by the order of claims. -/
def State.endRead (s : State) : State :=
  ((s.setStartup { s.startup with readAsked := false }).setFetch { s.fetch with port := .none }).choosePort

/-- CONFIG_READ_END (R181 to R185): the read ends at `now`; the block is checked and passes or fails at that tick. -/
def execConfigReadEnd (now : Stamp) (pins : BitVec 8) (s : State) : Host.Outcome State Fault Refusal :=
  .next
    (if s.reading then
       let s := s.advanceTo now
       match s.judgeRead with
       | .ok c => s.endRead.pass c now pins
       | .error e => s.endRead.fail e
     else s)

/-! ## Warm restart (R188) -/

/-- R113: the fetch unit at the acceptance of a warm restart. -/
def Fetch.atRestart (u : Fetch) : Fetch :=
  { u with
    port := if u.grant then .loader else .none
    queue := []
    flight := none
    lastBad := none
    counters := FetchCounters.zero }

/-- R36: the number unit at the acceptance: a HOLDING number is kept. -/
def NumberUnit.atRestart (u : NumberUnit) : NumberUnit :=
  { NumberUnit.initial with
    kept :=
      match u.numbering with
      | .holding n => some n
      | _ => none }

/-- R188, R189: the start-up controller at the acceptance. -/
def Startup.atRestart (u : Startup) : Startup :=
  { u with
    phase := .configLoad
    cause := some .restart
    restartPermission := none
    anchorExpected := none
    lastLoadFault := none
    failedLoads := 0
    restartRefused := 0 }

/-- R188: the acceptance of a warm restart. The peer table, the frame timer but for its counters, show memory, the tick
counter and the configuration held are kept, and the lanes hold their bindings until the next start (R114). -/
def State.warmRestart (s : State) : State :=
  let edge := s.timer.edges
  State.askRead
    { s with
      ahead := s.ahead.timerOnly
      startup := s.startup.atRestart
      link := Link.initial
      number := s.number.atRestart
      timer := { s.timer with counters := TimerCounters.zero }
      ingest := Ingest.initial s.ingest.back.store
      wall := Wall.initial edge
      fetch := s.fetch.atRestart
      lanes := LaneEngine.initial s.lanes.bindings edge
      output := OutputStage.initial s.output.driven edge
      budget := Budget.initial 0 edge
      triggers := Triggers.initial
      report := ⟨0, 0⟩ }

/-- R187: a RESTART delivered while the node holds the number `own`. -/
def State.takeRestart (s : State) (own : Option Station) (target : Nat) : State :=
  match own with
  | none => s
  | some n =>
    if s.startup.phase = .running ∧ target = n.val then
      if s.startup.restartPermission = some true then s.warmRestart
      else s.setStartup { s.startup with restartRefused := raise16 s.startup.restartRefused }
    else s

end Sys2Proof.Machine
end

