-- ==== Sys2Proof/Machine/Receive.lean ====
section
/-! DEFINITION. Delivery: messages received from peers (R12, R23) and the node's own messages sent and self-received
(R22). -/

namespace Sys2Proof.Machine

open Sys2Proof

/-! ## A message received (R12, R23) -/

/-- R1: the controller is not held and has joined the link. -/
def State.receives (s : State) : Bool := !s.linkHeld && s.link.joined

/-- R12, R13, R6, R10: a message received lowers REC, outside DETACHED; the link state follows, an error signal and a
QUIET wait of the node are over. -/
def Link.countReceived (l : Link) : Link :=
  { Link.followCounts (if l.state = .detached then l else { l with recCount := l.recCount - 1 }) with
    signal := none, waitQuiet := false }

/-- R23: a message of a listed kind with a wrong length. -/
def Link.refuseLength (l : Link) : Link :=
  { l with counters := { l.counters with lengthRefused := raise16 l.counters.lengthRefused } }

/-- R23, R38: the first delivery step, and what the number unit makes of the origin. -/
def State.firstStep (s : State) (m : LinkMessage) (sync : Option SyncFields) (isClaim : Bool) : State :=
  let s := s.advanceTo m.stamp
  ((s.setLink s.link.countReceived).hearPeer m.origin sync).hearOrigin m.origin isClaim

/-- R23: a message of a listed kind: the first step, then its consumer, which is given the state after that step and
the number the node held at the delivery, or the length refused count. -/
def State.receive (s : State) (k : MessageKind) (m : LinkMessage) (consumer : State → Option Station → State) : State :=
  if s.receives then
    let fits := decide (m.payload.length = k.length)
    let sync := if k = .sync ∧ fits then some (readSync m.payload) else none
    let after := s.firstStep m sync (decide (k = .claim))
    if fits then consumer after s.heldNumber else after.setLink after.link.refuseLength
  else s

/-- SYNC_RECEIVED (R51). -/
def execSyncReceived (m : LinkMessage) (s : State) : Host.Outcome State Fault Refusal :=
  .next (s.receive .sync m fun s own => s.takeSync own m.origin (readSync m.payload) m.stamp)

/-- CLAIM_RECEIVED (R29, R30, R32). -/
def execClaimReceived (m : LinkMessage) (s : State) : Host.Outcome State Fault Refusal :=
  .next (s.receive .claim m fun s _ => s.hearClaim m.origin (readClaim m.payload))

/-- GO_RECEIVED (R115 to R118). -/
def execGoReceived (m : LinkMessage) (s : State) : Host.Outcome State Fault Refusal :=
  .next (s.receive .go m fun s _ => s.deliverCue (readGo m.payload) m.origin.castSucc)

/-- HOLD_RECEIVED (R116, R131, R134). -/
def execHoldReceived (m : LinkMessage) (s : State) : Host.Outcome State Fault Refusal :=
  .next (s.receive .hold m fun s _ => s.deliverCue (readControl .hold m.payload) m.origin.castSucc)

/-- RELEASE_RECEIVED (R116, R131, R135). -/
def execReleaseReceived (m : LinkMessage) (s : State) : Host.Outcome State Fault Refusal :=
  .next (s.receive .release m fun s _ => s.deliverCue (readControl .release m.payload) m.origin.castSucc)

/-- TALLY_RECEIVED (R173). -/
def execTallyReceived (m : LinkMessage) (s : State) : Host.Outcome State Fault Refusal :=
  .next (s.receive .tally m fun s _ => s.setTriggers (s.triggers.hearTally m.origin (readTally m.payload)))

/-- QUERY_RECEIVED (R175). -/
def execQueryReceived (m : LinkMessage) (s : State) : Host.Outcome State Fault Refusal :=
  .next (s.receive .query m fun s own => s.takeQuery own m.origin (readQuery m.payload))

/-- ANSWER_RECEIVED (R23): no consumer beyond the peer table step. -/
def execAnswerReceived (m : LinkMessage) (s : State) : Host.Outcome State Fault Refusal :=
  .next (s.receive .answer m fun s _ => s)

/-- STATUS_RECEIVED (R23, R38): the second delivery sets the timing role of an entry the table keeps. -/
def execStatusReceived (m : LinkMessage) (s : State) : Host.Outcome State Fault Refusal :=
  .next
    (s.receive .status m fun s own =>
      if own = some m.origin then s else s.hearStatusRole m.origin (readStatusRole m.payload))

/-- RESTART_RECEIVED (R187, R188). -/
def execRestartReceived (m : LinkMessage) (s : State) : Host.Outcome State Fault Refusal :=
  .next (s.receive .restart m fun s own => s.takeRestart own (fieldAt m.payload 0 1))

/-- UNKNOWN_MESSAGE_RECEIVED (R23): a class and kind that Table 2-2 does not list goes through the first step only. -/
def execUnknownMessageReceived (_cls : BitVec 2) (_kind : BitVec 4) (m : LinkMessage) (s : State) :
    Host.Outcome State Fault Refusal :=
  .next (if s.receives then s.firstStep m none false else s)

/-! ## A message sent (R12, R22) -/

/-- R12, R13, R16, R6: the node's own message counts as sent: TEC falls, outside DETACHED, the state follows, the message
leaves its slot or the queue, and a QUIET station waits 8 further bits. -/
def Link.countSent (l : Link) (slot : SlotName) : Link :=
  let l := Link.followCounts (if l.state = .detached then l else { l with tecCount := l.tecCount - 1 })
  { l.slotSent slot with attempt := none, signal := none, waitQuiet := decide (l.state = .quiet) }

/-- R22: the self-reception of a message sent; `head` is the oldest message of the trigger queue as it was sent. -/
def State.selfReceive (s : State) (a : Attempt) (head : Option CueMessage) : State :=
  match a.source with
  | .sync => s.ownSyncSent a.lateness
  | .claim => s.ownClaimSent a.message.origin
  | .tally => s.setTriggers s.triggers.countSent
  | .status => s.setLink { s.link with lastFault := .unchanged }
  | .answer => s
  | .trigger =>
    match head with
    | some m => s.deliverCue m a.message.origin.castSucc
    | none => s

/-- MESSAGE_SENT (R12, R16, R22): the last end-field bit of the message in transmission passes without fault. -/
def execMessageSent (s : State) : Host.Outcome State Fault Refusal :=
  .next
    (match s.link.attempt with
     | none => s
     | some a => (s.setLink (s.link.countSent a.source)).selfReceive a s.link.triggers.head?)

end Sys2Proof.Machine
end

