-- ==== Sys2Proof/Machine/Dispatch.lean ====
section
/-! DEFINITION. The effect of each command on everything but the queue: one arm per row of spec/opcode_table.json. -/

namespace Sys2Proof.Machine

open Sys2Proof

def exec (i : Instr) (s : State) : Host.Outcome State Fault Refusal :=
  match i with
  | .coldReset by_ => Sys2Proof.Machine.execColdReset by_ s
  | .resetRelease by_ => Sys2Proof.Machine.execResetRelease by_ s
  | .configReadEnd now pins => Sys2Proof.Machine.execConfigReadEnd now pins s
  | .linkJoin => Sys2Proof.Machine.execLinkJoin s
  | .attemptStart now => Sys2Proof.Machine.execAttemptStart now s
  | .arbitrationLoss => Sys2Proof.Machine.execArbitrationLoss s
  | .claimLoss => Sys2Proof.Machine.execClaimLoss s
  | .linkFault kind phase => Sys2Proof.Machine.execLinkFault kind phase s
  | .detachedRecovery levels => Sys2Proof.Machine.execDetachedRecovery s levels
  | .messageSent => Sys2Proof.Machine.execMessageSent s
  | .syncReceived m => Sys2Proof.Machine.execSyncReceived m s
  | .claimReceived m => Sys2Proof.Machine.execClaimReceived m s
  | .goReceived m => Sys2Proof.Machine.execGoReceived m s
  | .holdReceived m => Sys2Proof.Machine.execHoldReceived m s
  | .releaseReceived m => Sys2Proof.Machine.execReleaseReceived m s
  | .tallyReceived m => Sys2Proof.Machine.execTallyReceived m s
  | .queryReceived m => Sys2Proof.Machine.execQueryReceived m s
  | .answerReceived m => Sys2Proof.Machine.execAnswerReceived m s
  | .statusReceived m => Sys2Proof.Machine.execStatusReceived m s
  | .unknownMessageReceived cls kind m => Sys2Proof.Machine.execUnknownMessageReceived cls kind m s
  | .restartReceived m => Sys2Proof.Machine.execRestartReceived m s
  | .frameEdge pins => Sys2Proof.Machine.execFrameEdge pins s
  | .staleBeacon => Sys2Proof.Machine.execStaleBeacon s
  | .triggerExpired => Sys2Proof.Machine.execTriggerExpired s
  | .startEnd => Sys2Proof.Machine.execStartEnd s
  | .lockQuietLoss => Sys2Proof.Machine.execLockQuietLoss s
  | .candidateChoice => Sys2Proof.Machine.execCandidateChoice s
  | .claimWindowEnd => Sys2Proof.Machine.execClaimWindowEnd s
  | .duplicateClear => Sys2Proof.Machine.execDuplicateClear s
  | .peerAgeOut n => Sys2Proof.Machine.execPeerAgeOut n s
  | .wallHeld => Sys2Proof.Machine.execWallHeld s
  | .limitStepUp => Sys2Proof.Machine.execLimitStepUp s
  | .triggerQualified pin => Sys2Proof.Machine.execTriggerQualified pin s
  | .referencePulse now => Sys2Proof.Machine.execReferencePulse now s
  | .referenceTimeout => Sys2Proof.Machine.execReferenceTimeout s
  | .rowArrival levels => Sys2Proof.Machine.execRowArrival levels s
  | .rowCommit => Sys2Proof.Machine.execRowCommit s
  | .railSample tile fixture ahead => Sys2Proof.Machine.execRailSample tile fixture ahead s
  | .fetchComplete => Sys2Proof.Machine.execFetchComplete s
  | .fetchTimeout lane => Sys2Proof.Machine.execFetchTimeout lane s
  | .loaderRequest => Sys2Proof.Machine.execLoaderRequest s
  | .loaderRelease drop => Sys2Proof.Machine.execLoaderRelease drop s

end Sys2Proof.Machine
end

