-- ==== Sys2Proof/Machine/Step.lean ====
section
/-! DEFINITION. One step: the command at the front of the queue, or, with none waiting, a tick of the 27 MHz timebase. -/

namespace Sys2Proof.Machine

open Sys2Proof

/-- The queue of waiting commands replaced. -/
def State.setPending (s : State) (q : List Instr) : State := { s with pending := q }

/-- R42: with no command waiting a tick passes; the counter does not count in RESET (notes/assumptions/4.md). -/
def State.idle (s : State) : State := if s.startup.phase = .reset then s else s.setTick (s.tick + 1)

/-- One step of the part. -/
def step (s : State) : Host.Outcome State Fault Refusal :=
  match s.pending with
  | [] => .next s.idle
  | c :: rest => exec c (s.setPending rest)

/-- The state with the command a table word spells at the front of its queue; no word spells one. -/
def State.withFetchWord (s : State) (nbits w : Nat) : State :=
  match decodeTableWord nbits w with
  | some c => s.setPending (c :: s.pending)
  | none => s

end Sys2Proof.Machine
end

