-- ==== Sys2Proof/Safety.lean ====
section
/-! DEFINITION. What a sound state of the part is, in the terms the statements use: bounds and agreements that the rules
lay down for every state, each kept by every step. -/

namespace Sys2Proof.Machine

open Sys2Proof

/-- A property of states that every step keeps. -/
def KeptByStep (p : State → Prop) : Prop := ∀ s t : State, p s → step s = .next t → p t

/-- Show memory and the two pixel stores are in their canonical form. -/
def State.MemorySound (s : State) : Prop :=
  Memory.wf s.showMemory = true ∧ PixelStore.wf s.wall.front = true ∧ PixelStore.wf s.ingest.back.store = true

/-- R12, R19: the error counts lie in their ranges and the trigger queue holds at most 4 messages. -/
def State.LinkSound (s : State) : Prop :=
  s.link.tecCount ≤ 200 ∧ s.link.recCount ≤ 120 ∧ s.link.triggers.length ≤ 4

/-- R1: nothing pends, nothing is sent, and no fault is remembered in the counts. -/
def Link.AtRest (l : Link) : Prop :=
  l.state = .active ∧ l.tecCount = 0 ∧ l.recCount = 0 ∧ l.attempt = none ∧ l.sync = Slot.empty ∧ l.claim = Slot.empty ∧
    l.tally = Slot.empty ∧ l.status = Slot.empty ∧ l.answer = Slot.empty ∧ l.triggers = [] ∧ l.joined = false

/-- R1, R25: outside RUNNING the link controller is at rest and the number unit stopped. -/
def State.HeldSound (s : State) : Prop :=
  s.startup.phase ≠ .running → s.number.numbering = .stopped ∧ s.link.AtRest

/-- R37: the peer table holds no entry for the number the node holds. -/
def State.OwnEntryAbsent (s : State) : Prop := ∀ n : Station, s.heldNumber = some n → s.peers.get n = none

/-- R98, R104, R109, and for the port user in RESET notes/assumptions/25.md: the grant stands exactly while the loader
holds the port, a fetch is in flight exactly while the port user is FETCH, and no lane has two requests. -/
def Fetch.Sound (u : Fetch) : Prop :=
  (u.grant = true ↔ u.port = .loader) ∧ (u.flight.isSome = true ↔ u.port = .fetch) ∧
    (u.flight.toList.map (fun fl => fl.request.lane) ++ u.queue.map (fun r => r.lane)).Nodup

/-- The fetch unit of a state is sound. -/
def State.PortSound (s : State) : Prop := s.fetch.Sound

/-- R69, R73: at most 8 rows wait, and none waits while the writer is idle. -/
def State.IngestSound (s : State) : Prop :=
  s.ingest.queue.length ≤ 8 ∧ (s.ingest.writer = none → s.ingest.queue = [])

/-- R43, R46, R183: values that the frame timer may hold. -/
def TimerValuesSound (c : TimerConfig) : Prop := 400000 ≤ c.pNom ∧ c.pNom ≤ 1200000 ∧ c.slew ≤ 2700

/-- R45, R48: the period register, the fraction accumulator and the frame length of a running timer. -/
def TimerRun.Sound (r : TimerRun) : Prop :=
  TimerValuesSound r.config ∧ (∀ c, r.restart = some c → TimerValuesSound c) ∧ pfMin r.config ≤ r.pf ∧
    r.pf ≤ pfMax r.config ∧ r.fraction ≤ 255 ∧ r.config.pNom ≤ 2 * r.length ∧ 2 * r.length ≤ 3 * r.config.pNom

/-- The running frame timer is sound. -/
def State.TimerSound (s : State) : Prop := ∀ r, s.timer.run = some r → r.Sound

/-- R160, R162: while the part runs, the effective limit lies in Lim_min to Lim and the scale in s_floor to 65535; the
values configured are themselves in order (Table 10-2). -/
def State.BudgetSound (s : State) : Prop :=
  ∀ c, s.config = some c →
    c.budget.leastLimit ≤ c.budget.limit ∧ c.budget.floor ≤ 65535 ∧
      (s.startup.phase = .running →
        c.budget.leastLimit ≤ s.budget.effectiveLimit ∧ s.budget.effectiveLimit ≤ c.budget.limit ∧
          c.budget.floor ≤ s.budget.scale.last ∧ s.budget.scale.last ≤ 65535 ∧
            c.budget.floor ≤ s.budget.scale.previous ∧ s.budget.scale.previous ≤ 65535)

/-- R89, R144, R164, R88, R136: every published value bears the label of an edge made. -/
def State.LabelsSound (s : State) : Prop :=
  s.wall.figures.label ≤ s.timer.edges ∧ s.wall.repeatHanded.label ≤ s.timer.edges ∧
    s.lanes.conditions.label ≤ s.timer.edges ∧ s.output.merged.label ≤ s.timer.edges ∧
      s.budget.scale.label ≤ s.timer.edges

/-! ## Shapes of states that several statements name -/

/-- Nothing is deferred behind the message of a slot, and its lifetime has not ended. -/
def Slot.Settled {α : Type} (x : Slot α) : Prop := x.deferred = none ∧ x.ended = false

/-- Every slot is settled. -/
def Link.Settled (l : Link) : Prop :=
  l.sync.Settled ∧ l.claim.Settled ∧ l.tally.Settled ∧ l.status.Settled ∧ l.answer.Settled

/-- The number unit makes nothing of a message of this origin: it is neither the number held nor the candidate. -/
def State.Indifferent (s : State) (o : Station) : Prop := s.number.numbering.shown ≠ some o

/-- R12, R13, R16: the link after a message of its own was sent outside DETACHED, but for the slot it leaves. -/
def Link.afterSent (l : Link) : Link :=
  { l with
    tecCount := l.tecCount - 1
    state := LinkState.ofCounts (l.tecCount - 1) l.recCount
    attempt := none
    signal := none
    waitQuiet := decide (LinkState.ofCounts (l.tecCount - 1) l.recCount = .quiet) }

/-- R66, R114, R141, R154, R166, R178, R179: the blocks without a frame timer of their own, just started with the
configuration `c`. -/
structure State.Started (t : State) (c : Config) : Prop where
  bound    : ∀ i : Fin 4, (t.lane i).binding = c.bindings.get i
  lanes    : ∀ i : Fin 4, (t.lane i).current = none ∧ (t.lane i).pending = none ∧ (t.lane i).control = [] ∧
    (t.lane i).counts = ⟨0, 0, 0, 0, 0⟩ ∧ ∀ ch : Fin 36, (t.lane i).levels.get ch = none
  owners   : ∀ ch : Fin 36, t.lanes.owners.get ch = none
  refusals : t.lanes.counts = ⟨0, 0, 0, 0⟩
  merged   : ∀ ch : Fin 36, t.output.merged.last.get ch = 0 ∧ t.output.merged.previous.get ch = 0
  driven   : ∃ p, t.output.driven = some p ∧ ∀ i : Fin 32, p.get i = (fixtureConfig c i).polarity
  limit    : t.budget.effectiveLimit = c.budget.limit ∧ t.budget.demand = 0 ∧ t.budget.recoveryRun = 0
  scale    : t.budget.scale.last = 65535 ∧ t.budget.scale.previous = 65535 ∧ t.budget.overload = false
  rails    : t.budget.tileRail = .above ∧ t.budget.fixtureRail = .above ∧ t.budget.frameBelow = false
  sags     : t.budget.counts = ⟨0, 0, 0, 0⟩
  ingest   : t.ingest.queue = [] ∧ t.ingest.writer = none ∧ t.ingest.pace = .go ∧
    t.ingest.counts = ⟨0, 0, 0, 0, 0, 0, 0⟩
  back     : t.ingest.back.state = .empty ∧ (∀ k : Fin 4, t.ingest.back.received.get k = []) ∧
    (∀ k : Fin 4, t.ingest.back.tileSums.get k = Rgb.black) ∧ ∀ k : Fin 8, t.ingest.back.zoneSums.get k = Rgb.black
  tally    : ∀ i : Fin 8, t.triggers.cameras.get i = ⟨false, none⟩ ∧ t.triggers.localTally.get i = none
  formed   : t.triggers.formed = 0 ∧ t.triggers.unresolved = 0 ∧ t.triggers.tallySent = 0
  report   : t.report = ⟨0, 0⟩

/-- R27: a number of the claim range `lo` to `hi` is free. -/
def State.FreeIn (s : State) (lo hi n : Station) : Prop :=
  lo ≤ n ∧ n ≤ hi ∧ s.peers.get n = none ∧ n ∉ s.number.taken

/-- R27: the number chosen from the range with preferred number `p`: that one if it is free, else the lowest free. -/
def State.Chosen (s : State) (lo hi : Station) (p : Nat) (n : Station) : Prop :=
  s.FreeIn lo hi n ∧ (n.val = p ∨ ((∀ q, s.FreeIn lo hi q → q.val ≠ p) ∧ ∀ q, s.FreeIn lo hi q → n ≤ q))

/-- R27, R29, R31: a number has joined the taken set. -/
def State.withTaken (s : State) (n : Station) : State :=
  { s with number := { s.number with taken := if n ∈ s.number.taken then s.number.taken else s.number.taken ++ [n] } }

/-- R31, R20: how a node in mode CLAIM that held `n`, with no trigger message in transmission, stands after yielding it: the
yield counted, the messages of the trigger queue taken by the own lanes, oldest first, with origin 64 (the model's choice,
notes/assumptions/10.md) and each counted unsent, and another number claimed, or none where none is free. -/
structure State.Yielded (s t : State) (n lo hi : Station) (p : Nat) : Prop where
  frame      : t = { s with link := t.link, number := t.number, lanes := t.lanes, fetch := t.fetch }
  number     : t.number =
    { (s.withTaken n).number with
      numbering := t.number.numbering
      counters := { s.number.counters with yield := min 65535 (s.number.counters.yield + 1) } }
  link       : t.link =
    { s.link with
      attempt := none
      claim := t.link.claim
      triggers := []
      counters :=
        { s.link.counters with
          unsentTrigger :=
            if s.link.triggers = [] then s.link.counters.unsentTrigger
            else min 65535 (s.link.counters.unsentTrigger + s.link.triggers.length) } }
  lanes      : t.lanes = (s.link.triggers.foldl (fun x m => x.deliverCue m 64) s).lanes
  fetch      : t.fetch = (s.link.triggers.foldl (fun x m => x.deliverCue m 64) s).fetch
  claims     : ∀ q, (s.withTaken n).Chosen lo hi p q →
    t.number.numbering = .claiming q none ∧ t.link.claim = ⟨some ⟨q, s.serial⟩, none, false⟩
  numberless : (∀ q, ¬ (s.withTaken n).FreeIn lo hi q) →
    t.number.numbering = .numberless ∧ t.link.claim = Slot.empty

end Sys2Proof.Machine
end

