-- ==== Sys2Proof/Certificates/Slice0/Obligations.lean ====
section
/-! DEFINITION. The statements for the provers: what the commands of the SN6 do, what they leave alone, and what every
step keeps. -/

open Sys2Proof Sys2Proof.Machine

/-! ## The step and the queue of commands -/

/-- The row's interface: a step takes the command at the front of the queue and runs it on the queue's rest. -/
def Obligations.StepRunsFrontCommand : Prop :=
  ∀ (c : Instr) (q : List Instr) (s : State), step (s.setPending (c :: q)) = exec c (s.setPending q)

/-- The model's choices. With no command waiting a tick passes, except in RESET (R42; that the empty queue stands for a tick
is notes/assumptions/4.md). No word spells a command (notes/assumptions/22.md). Every step answers a next state: an event
in a state in which it cannot occur, of which the spec says nothing, changes nothing (notes/assumptions/1.md). -/
def Obligations.IdleStepIsATick : Prop :=
  (∀ s : State, s.pending = [] →
    (s.startup.phase = .reset → step s = .next s) ∧
      (s.startup.phase ≠ .reset → step s = .next { s with tick := s.tick + 1 })) ∧
    (∀ (nbits w : Nat) (s : State), decodeTableWord nbits w = none ∧ s.withFetchWord nbits w = s) ∧
    ∀ s : State, ∃ t : State, step s = .next t

/-- No command touches the queue of commands or the factory serial (Table 1-3), and none but the loader's writes touches show
memory (R98). That the loader's bytes arrive with LOADER_RELEASE, so that this command alone is left out, is the model's
choice (notes/assumptions/18.md). -/
def Obligations.QueueSerialAndMemoryKept : Prop :=
  ∀ (c : Instr) (s t : State), exec c s = .next t →
    t.pending = s.pending ∧ t.serial = s.serial ∧ ((∀ w, c ≠ .loaderRelease w) → t.showMemory = s.showMemory)

/-- Table 2-6, R66, R98 and the "stopped" rules: an event that cannot occur in a state changes nothing (DESIGN CHOICE,
notes/assumptions/1.md); while pixel ingest is stopped a row changes nothing but the receiver of the pixel port, which
follows its line (R66). -/
def Obligations.AbsentEventsChangeNothing : Prop :=
  ∀ s : State,
    (s.startup.phase ≠ .running →
      exec .linkJoin s = .next s ∧ exec .wallHeld s = .next s ∧ exec .limitStepUp s = .next s ∧
        exec .rowCommit s = .next s ∧ (∀ l, exec (.rowArrival l) s = .next { s with pixelPort := (s.pixelPort.run l).1 }) ∧
        (∀ a b c, exec (.railSample a b c) s = .next s) ∧ (∀ e, exec (.triggerQualified e) s = .next s) ∧
        (∀ k f, exec (.linkFault k f) s = .next s) ∧ (∀ m, exec (.answerReceived m) s = .next s) ∧
        (∀ m, exec (.goReceived m) s = .next s)) ∧
      (s.timer.run = none →
        (∀ p, exec (.frameEdge p) s = .next s) ∧ exec .staleBeacon s = .next s ∧ exec .triggerExpired s = .next s ∧
          exec .startEnd s = .next s ∧ exec .lockQuietLoss s = .next s ∧ exec .referenceTimeout s = .next s ∧
            ∀ n, exec (.peerAgeOut n) s = .next s) ∧
      (s.link.attempt = none →
        exec .arbitrationLoss s = .next s ∧ exec .claimLoss s = .next s ∧ exec .messageSent s = .next s) ∧
      (s.link.state ≠ .detached → ∀ l, exec (.detachedRecovery l) s = .next s) ∧
      (s.fetch.flight = none → exec .fetchComplete s = .next s)

/-! ## Reset, start and restart -/

/-- What reset leaves, by the reset tables of the chapters (Tables 2-11, 4-7, 5-8, 6-4, 8-6, 9-5, 10-4, 11-5; R36, R41, R113,
R180, R189). The empty queue of commands is the row's. These are the model's choices, the spec giving no reset value:
that the port user in RESET is NONE (notes/assumptions/25.md), that no configuration is held there, and that the loader
request line stands low (notes/assumptions/3.md). Left to INVENTORY.md are the items for which the spec names no reset
value: the serial, the tick counter, the bit time, the demand and effective limit of the budget unit, the store of the back
buffer and the fields of the model's own. -/
def Obligations.ResetState : Prop :=
  let s := State.reset
  (s.startup.phase = .reset ∧ s.startup.cause = none ∧ s.config = none ∧ s.pending = [] ∧ s.startup.readAsked = false ∧
      s.startup.restartPermission = none ∧ s.startup.anchorExpected = none ∧ s.startup.lastLoadFault = none ∧
        s.startup.failedLoads = 0 ∧ s.startup.restartRefused = 0) ∧
    (s.link.tecCount = 0 ∧ s.link.recCount = 0 ∧ s.link.state = .active ∧ s.link.lastFault = .none ∧
      s.link.attempt = none ∧ s.link.sync = Slot.empty ∧ s.link.claim = Slot.empty ∧ s.link.tally = Slot.empty ∧
        s.link.status = Slot.empty ∧ s.link.answer = Slot.empty ∧ s.link.triggers = [] ∧ s.link.joined = false ∧
          s.link.idle = ⟨0, 0⟩ ∧ s.link.signal = none ∧ s.link.waitQuiet = false ∧
            s.link.counters = ⟨0, 0, 0, 0, 0, 0, 0⟩) ∧
    (s.number.numbering = .stopped ∧ s.number.taken = [] ∧ s.number.duplicate = false ∧ s.number.kept = none ∧
      s.number.counters = ⟨0, 0, 0, 0, 0⟩ ∧ (∀ n : Station, s.peers.get n = none) ∧ s.timer.run = none ∧
        s.timer.counters = ⟨0, 0, 0, 0, 0, 0, 0, 0⟩) ∧
    (s.ingest.queue = [] ∧ s.ingest.pace = .go ∧ s.ingest.writer = none ∧ s.ingest.back.state = .empty ∧
      s.ingest.counts = ⟨0, 0, 0, 0, 0, 0, 0⟩ ∧
        ∀ k : Fin 4, s.ingest.back.received.get k = [] ∧ s.ingest.back.tileSums.get k = Rgb.black) ∧
    (∀ k : Fin 8, s.ingest.back.zoneSums.get k = Rgb.black ∧ s.wall.figures.last.zones.get k = Rgb.black ∧
      s.wall.figures.previous.zones.get k = Rgb.black) ∧
    (∀ k : Fin 4, s.wall.figures.last.tiles.get k = Rgb.black ∧ s.wall.figures.previous.tiles.get k = Rgb.black) ∧
    (s.wall.front = [] ∧ s.wall.repeatRun = 0 ∧ s.wall.repeatHanded.last = 0 ∧ s.wall.repeatHanded.previous = 0 ∧
      s.wall.held = false ∧ s.wall.profile = none ∧ s.wall.drive = none ∧ s.wall.repeats = 0 ∧ s.wall.missed = 0) ∧
    (s.fetch.queue = [] ∧ s.fetch.flight = none ∧ s.fetch.port = .none ∧ s.fetch.grant = false ∧
      s.fetch.loaderRequest = false ∧ s.fetch.lastBad = none ∧ s.fetch.counters = ⟨0, 0, 0, 0, 0, 0, 0⟩) ∧
    (∀ i : Fin 4, (s.lanes.lanes.get i).current = none ∧ (s.lanes.lanes.get i).pending = none ∧
      (s.lanes.lanes.get i).control = [] ∧ (s.lanes.lanes.get i).counts = ⟨0, 0, 0, 0, 0⟩ ∧
        (∀ ch : Fin 36, (s.lanes.lanes.get i).levels.get ch = none) ∧
          s.lanes.conditions.last.get i = .empty ∧ s.lanes.conditions.previous.get i = .empty) ∧
    (s.lanes.counts = ⟨0, 0, 0, 0⟩ ∧ ∀ ch : Fin 36, s.lanes.owners.get ch = none ∧ s.output.merged.last.get ch = 0 ∧
      s.output.merged.previous.get ch = 0) ∧
    (s.output.driven = none ∧ s.output.drive = none ∧ s.budget.scale.last = 65535 ∧ s.budget.scale.previous = 65535 ∧
      s.budget.overload = false ∧ s.budget.tileRail = .above ∧ s.budget.fixtureRail = .above ∧
        s.budget.counts = ⟨0, 0, 0, 0⟩) ∧
    (∀ i : Fin 8, (s.triggers.cameras.get i).onAir = false ∧ (s.triggers.cameras.get i).source = none ∧
      s.triggers.localTally.get i = none ∧ s.triggers.pins.get i = ⟨none, 0⟩) ∧
    s.triggers.formed = 0 ∧ s.triggers.unresolved = 0 ∧ s.triggers.tallySent = 0 ∧ s.report = ⟨0, 0⟩ ∧ s.faultLineLow = false

/-- The state after reset has every invariant that the statements below prove kept; for the port user in RESET by the
model's choice (notes/assumptions/25.md). -/
def Obligations.ResetIsSound : Prop :=
  State.reset.MemorySound ∧ State.reset.LinkSound ∧ State.reset.HeldSound ∧ State.reset.OwnEntryAbsent ∧
    State.reset.PortSound ∧ State.reset.IngestSound ∧ State.reset.TimerSound ∧ State.reset.BudgetSound ∧
    State.reset.LabelsSound

/-- COLD_RESET (R180): in any phase the part falls into the reset state, but for what a reset does not touch: the
waiting commands, the tick counter, the serial, show memory, the loader request line with the grant that follows it
(R113), the receiver of the pixel port (R66), the pixel store of the back buffer (R82) and the sources that hold the
part. What the spec gives no reset value for stands as the model chooses it (notes/assumptions/3.md). That the port user
in RESET is LOADER where the loader request stands, and NONE otherwise, is the model's choice
(notes/assumptions/25.md): R113 and Table 7-6 give it at the release only. -/
def Obligations.ColdResetClearsThePart : Prop :=
  ∀ (h : ResetHolder) (s : State),
    exec (.coldReset h) s = .next
      { State.reset with
        pending := s.pending
        tick := s.tick
        serial := s.serial
        showMemory := s.showMemory
        pixelPort := s.pixelPort
        startup :=
          { State.reset.startup with
            pinHolds := decide (h = .pin) || s.startup.pinHolds
            supplyHolds := decide (h = .supply) || s.startup.supplyHolds }
        ingest := { State.reset.ingest with back := { State.reset.ingest.back with store := s.ingest.back.store } }
        fetch :=
          { State.reset.fetch with
            port := if s.fetch.loaderRequest then .loader else .none
            grant := s.fetch.loaderRequest
            loaderRequest := s.fetch.loaderRequest } }

/-- RESET_RELEASE (R180, R181, R113): when no source holds the part any longer the counter starts from 0, the phase is
CONFIG_LOAD with cause COLD and the read is asked for; it takes a free port at once. While a source still holds, only
the hold that ended changes. -/
def Obligations.ReleaseEntersConfigLoad : Prop :=
  ∀ (r : ResetReleaser) (s : State), s.startup.phase = .reset →
    let pin := s.startup.pinHolds && decide (r = .supply)
    let supply := s.startup.supplyHolds && decide (r = .pin)
    ((pin || supply) = true →
      exec (.resetRelease r) s =
        .next { s with startup := { s.startup with pinHolds := pin, supplyHolds := supply } }) ∧
      ((pin || supply) = false →
        exec (.resetRelease r) s = .next
          { s with
            tick := 0
            startup :=
              { s.startup with
                pinHolds := false, supplyHolds := false, phase := .configLoad, cause := some .cold, readAsked := true }
            fetch :=
              { s.fetch with
                port := if s.fetch.loaderRequest then .loader else .configRead
                grant := s.fetch.loaderRequest
                queue := []
                flight := none
                counters := { FetchCounters.zero with grant := if s.fetch.loaderRequest then 1 else 0 } } })

/-- CONFIG_READ_END with a block that fails (R182, R185): SAFE, with the reason kept and the load counted; the frame
timer and the number unit stop, the fixture outputs are released, a kept number is dropped, and the other blocks stand
as they were, the configuration the last start took among them (R114). -/
def Obligations.FailedBlockLeadsToSafe : Prop :=
  ∀ (s : State) (now : Stamp) (pins : BitVec 8) (e : LoadFault), s.reading = true → s.judgeRead = .error e →
    ∃ t : State, exec (.configReadEnd now pins) s = .next t ∧ t.startup.phase = .safe ∧
      t.startup.lastLoadFault = some e ∧ t.startup.failedLoads = min 65535 (s.startup.failedLoads + 1) ∧
      t.startup.readAsked = false ∧ t.startup.cause = s.startup.cause ∧ t.config = s.config ∧ t.timer.run = none ∧
      t.timer.counters = s.timer.counters ∧ t.number.numbering = .stopped ∧ t.number.kept = none ∧
      t.output.driven = none ∧ t.output.drive = none ∧ t.faultLineLow = true ∧ t.link = s.link ∧ t.peers = s.peers ∧
      t.ingest = s.ingest ∧ t.wall = s.wall ∧ t.lanes = s.lanes ∧ t.budget = s.budget ∧ t.triggers = s.triggers ∧
      t.report = s.report ∧ t.showMemory = s.showMemory ∧
      (s.fetch.loaderRequest = true → t.fetch.grant = true ∧ t.fetch.port = .loader) ∧
      (s.fetch.loaderRequest = false → s.fetch.queue = [] → t.fetch.port = .none)

/-- CONFIG_READ_END with a block that passes and no frame timer running (R184, R25, R26, R43, R41): RUNNING at once; the
frame timer makes its first edge, numbered 0, with the nominal length, in START; the number unit enters FIXED, or
CLAIM_LISTEN at count 0; a reload from SAFE empties the peer table and has the cause RELOAD. The lanes are EMPTY with the
new bindings, the outputs dark with the new polarities, pixel ingest empty, the budget unit at its limit, the tally table
off (R66, R114, R141, R154, R179), and the first edge leaves them so: it takes the first sample of each trigger pin and
repeats the black front. -/
def Obligations.PassedBlockStartsThePart : Prop :=
  ∀ (s : State) (now : Stamp) (pins : BitVec 8) (c : Config), s.reading = true → s.judgeRead = .ok c →
    s.timer.run = none →
    ∃ (t : State) (r : TimerRun), exec (.configReadEnd now pins) s = .next t ∧ t.startup.phase = .running ∧
      t.config = some c ∧ t.startup.restartPermission = some c.restartPermission ∧
      t.startup.anchorExpected = some c.anchorExpected ∧ t.startup.readAsked = false ∧
      t.startup.cause = (if s.startup.phase = .safe then some .reload else s.startup.cause) ∧
      t.timer.run = some r ∧ r.config = c.timer ∧ r.pf = c.timer.pNom * 256 ∧ r.fraction = 0 ∧ r.frame = 0 ∧
      r.length = c.timer.pNom ∧ r.lastEdge = now ∧ r.previousEdge = none ∧ r.role = .start 0 ∧ r.held = none ∧ r.capture.valid = false ∧
      t.timer.edges = s.timer.edges + 1 ∧ t.link.tecCount = 0 ∧ t.link.recCount = 0 ∧ t.link.state = .active ∧
      t.link.bitTime = c.bitTime ∧ t.link.joined = false ∧
      (∀ n, c.mode = .fixed n → t.number.numbering = .fixed n ∧ t.peers.get n = none) ∧
      (∀ lo hi p, c.mode = .claim lo hi p → s.number.kept = none → t.number.numbering = .listen 0) ∧
      (s.startup.phase = .safe → ∀ n : Station, t.peers.get n = none) ∧ t.Started c ∧
      t.ingest.back.store = s.ingest.back.store ∧ t.wall.front = [] ∧ t.wall.repeatRun = 1 ∧
      (∀ drive, t.output.drive = some drive → ∀ i : Fin 32, (drive.get i).duty = 0) ∧
      (∀ i : Fin 8, t.triggers.pins.get i = ⟨some (pins.getLsbD i.val), 0⟩) ∧ t.showMemory = s.showMemory

/-- CONFIG_READ_END after a warm restart (R25, R26, R36, R65): the blocks start, whatever the number mode. In mode FIXED the
node enters FIXED with the configured number, a kept number or none, and the entry of that number is cleared. In mode CLAIM a
kept number inside the new range is held at once and defended; with none kept, or one outside the range, the node enters
CLAIM_LISTEN at count 0, counted, with an empty taken set, and writes no CLAIM. No number stays kept, and the duplicate-number
condition is clear. With the same P_nom the frame timer goes on as it stood, under its new values, and with another it runs
its frame to the scheduled edge, which is to start it anew. Until the first edge taken every output is dark with its new
polarity and no trigger pin has a stable level. That a start with another P_nom that was still waiting is cancelled is the
model's choice (notes/assumptions/27.md). -/
def Obligations.RestartKeepsNumberAndTimer : Prop :=
  ∀ (s : State) (now : Stamp) (pins : BitVec 8) (c : Config) (r : TimerRun),
    s.reading = true → s.judgeRead = .ok c → s.startup.phase = .configLoad → s.timer.run = some r →
    ∃ t : State, exec (.configReadEnd now pins) s = .next t ∧ t.startup.phase = .running ∧ t.config = some c ∧
      t.number.kept = none ∧ t.number.taken = [] ∧ t.number.duplicate = false ∧
      (∀ n, c.mode = .fixed n →
        t.number.numbering = .fixed n ∧ t.number.counters = s.number.counters ∧
          t.peers = s.peers.set n.val none n.isLt ∧ t.link.claim = Slot.empty) ∧
      (∀ lo hi p n, c.mode = .claim lo hi p → s.number.kept = some n → lo ≤ n → n ≤ hi →
        t.number.numbering = .holding n ∧ t.number.counters = s.number.counters ∧
          t.peers = s.peers.set n.val none n.isLt ∧ t.link.claim = ⟨some ⟨n, s.serial⟩, none, false⟩) ∧
      (∀ lo hi p, c.mode = .claim lo hi p → (∀ n, s.number.kept = some n → n < lo ∨ hi < n) →
        t.number.numbering = .listen 0 ∧
          t.number.counters =
            { s.number.counters with listenEntry := min 65535 (s.number.counters.listenEntry + 1) } ∧
          t.peers = s.peers ∧ t.link.claim = Slot.empty) ∧
      t.link = { Link.initial with bitTime := c.bitTime, claim := t.link.claim } ∧ t.Started c ∧ t.output.drive = none ∧
      (∀ i : Fin 8, t.triggers.pins.get i = ⟨none, 0⟩) ∧
      (c.timer.pNom = r.config.pNom →
        t.timer = { s.timer with run := some { r with config := c.timer, restart := none } }) ∧
      (c.timer.pNom ≠ r.config.pNom → t.timer = { s.timer with run := some { r with restart := some c.timer } })

/-- RESTART_RECEIVED (R187, R188, R189) from a station of another number, at a node that holds one: for that number
and with the permission given every block is cleared but the frame timer (its counters are), the peer table, show
memory and the configuration held, the lane bindings with it (R114), and the read is asked for: it takes the port unless the loader's grant stands, a
loader request that waits without a grant going after it (the model's choice, notes/assumptions/15.md). What a cleared
block holds where the rules give it no value, such as the bit time and the effective limit, is the model's choice (notes/assumptions/3.md). Without the permission the message is refused and counted; for another number
nothing is done beyond the first delivery step. -/
def Obligations.RestartJudged : Prop :=
  ∀ (s : State) (m : LinkMessage) (n : Station) (b : Byte), s.receives = true → s.heldNumber = some n →
    m.origin ≠ n → m.payload = [b] →
    (b.toNat = n.val → s.startup.restartPermission = some true →
      ∃ t : State, exec (.restartReceived m) s = .next t ∧ t.startup.phase = .configLoad ∧
        t.startup.cause = some .restart ∧ t.startup.readAsked = true ∧ t.startup.restartPermission = none ∧
        t.startup.restartRefused = 0 ∧ t.link = Link.initial ∧ t.number.numbering = .stopped ∧
        t.number.counters = ⟨0, 0, 0, 0, 0⟩ ∧ t.number.taken = [] ∧ t.number.duplicate = false ∧
        t.number.kept = (if s.number.numbering = .holding n then some n else none) ∧ t.timer.run = s.timer.run ∧
        t.timer.counters = TimerCounters.zero ∧ t.peers = (s.firstStep m none false).peers ∧ t.config = s.config ∧
        t.fetch.queue = [] ∧ t.fetch.flight = none ∧ t.fetch.lastBad = none ∧ t.fetch.counters = FetchCounters.zero ∧
        t.fetch.grant = s.fetch.grant ∧ t.fetch.port = (if s.fetch.grant then .loader else .configRead) ∧
        (∀ i : Fin 4, (t.lanes.lanes.get i).current = none ∧ (t.lanes.lanes.get i).pending = none) ∧
        t.ingest = Ingest.initial s.ingest.back.store ∧ t.wall.front = [] ∧ t.output.driven = s.output.driven ∧
        t.output.drive = none ∧ t.budget = Budget.initial 0 s.timer.edges ∧ t.report = ⟨0, 0⟩ ∧
        t.startup.failedLoads = 0 ∧ t.startup.lastLoadFault = none ∧ t.startup.anchorExpected = none ∧
        t.wall = Wall.initial s.timer.edges ∧
        t.lanes = LaneEngine.initial (s.lanes.lanes.map fun l => l.binding) s.timer.edges ∧
        t.output = OutputStage.initial s.output.driven s.timer.edges ∧ t.triggers = Triggers.initial ∧ t.showMemory = s.showMemory) ∧
      (b.toNat = n.val → s.startup.restartPermission ≠ some true →
        exec (.restartReceived m) s = .next
          { s.firstStep m none false with
            startup := { s.startup with restartRefused := min 65535 (s.startup.restartRefused + 1) } }) ∧
      (b.toNat ≠ n.val → exec (.restartReceived m) s = .next (s.firstStep m none false))

/-! ## The link controller: attempts -/

/-- LINK_JOIN (R1): 11 recessive bits seen outside the held condition let the controller recognise and contend;
nothing else changes. ATTEMPT_START (R16, R17, R21): a controller that may contend starts, among the eligible
messages, one of lowest arbitration value, and changes nothing else but the tick it stands at; a SYNC that pends alone
goes out with the number held as origin and, as lateness, the ticks from its edge to the start bit. -/
def Obligations.AttemptTakesLowestValue : Prop :=
  (∀ s : State, s.startup.phase = .running →
    exec .linkJoin s = .next { s with link := { s.link with joined := true } }) ∧
  (∀ (s : State) (now : Stamp) (n : Station) (b : SyncBody), s.mayContend = true → s.heldNumber = some n →
    s.link.sync.pending = some b → s.link.claim.pending = none → s.link.tally.pending = none →
    s.link.status.pending = none → s.link.answer.pending = none → s.link.triggers = [] →
    ∃ a : Attempt,
      exec (.attemptStart now) s = .next
        { s.advanceTo now with link := { s.link with attempt := some a, signal := none, waitQuiet := false } } ∧
      a.source = .sync ∧ a.lateness = (now - b.edge).toNat ∧ a.message.cls = 0 ∧ a.message.kind = 0 ∧
      a.message.origin = n ∧
      a.message.payload = syncPayload ⟨b.frame, (now - b.edge).toNat, b.role, b.position⟩) ∧
  ∀ (s : State) (now : Stamp), s.mayContend = true → (s.advanceTo now).eligible now ≠ [] →
    ∃ (slot : SlotName) (m : Envelope) (a : Attempt), (slot, m) ∈ (s.advanceTo now).eligible now ∧
      (∀ y ∈ (s.advanceTo now).eligible now, m.arbitration ≤ y.2.arbitration) ∧
      exec (.attemptStart now) s = .next
        { s.advanceTo now with link := { s.link with attempt := some a, signal := none, waitQuiet := false } } ∧
      a.source = slot ∧ a.message = m ∧ a.wire = m.wireBits ∧ a.stamp = now ∧ a.fate = .stays

/-- R34, Table 3-2, R17: which messages the numbering state lets contend, and with which origin: none in CLAIM_LISTEN and
NUMBERLESS; in CLAIMING a pending CLAIM alone, with its candidate as origin; in FIXED and HOLDING every pending one, with
the number held as origin, a CLAIM with its candidate. -/
def Obligations.NumberingGatesTheSlots : Prop :=
  ∀ (s : State) (now : Stamp),
    match s.number.numbering with
    | .stopped | .listen _ | .numberless => s.eligible now = []
    | .claiming _ _ =>
      (∀ x ∈ s.eligible now, x.1 = .claim) ∧
        ∀ b, s.link.claim.pending = some b →
          ∃ m, (SlotName.claim, m) ∈ s.eligible now ∧ m.origin = b.candidate ∧ m.payload = toBytes 4 b.serial.toNat
    | .fixed n | .holding n =>
      (∀ x ∈ s.eligible now, x.1 ≠ .claim → x.2.origin = n) ∧
        (∀ b, s.link.sync.pending = some b → ∃ m, (SlotName.sync, m) ∈ s.eligible now) ∧
        (∀ b, s.link.claim.pending = some b → ∃ m, (SlotName.claim, m) ∈ s.eligible now ∧ m.origin = b.candidate) ∧
        (∀ b, s.link.tally.pending = some b → ∃ m, (SlotName.tally, m) ∈ s.eligible now) ∧
        (∀ b, s.link.status.pending = some b → ∃ m, (SlotName.status, m) ∈ s.eligible now) ∧
        (∀ b, s.link.answer.pending = some b → ∃ m, (SlotName.answer, m) ∈ s.eligible now) ∧
        (∀ b rest, s.link.triggers = b :: rest → ∃ m, (SlotName.trigger, m) ∈ s.eligible now)

/-- ARBITRATION_LOSS (R7, R11): the attempt is over and the message stays where it was, in its slot or at the head of the
trigger queue; a STATUS deferred behind the lost one takes its place (R18). -/
def Obligations.ArbitrationLossKeepsTheMessage : Prop :=
  ∀ (s : State) (a : Attempt), s.link.attempt = some a → a.fate = .stays →
    (s.link.Settled → exec .arbitrationLoss s = .next { s with link := { s.link with attempt := none } }) ∧
      (a.source = .status → ∀ b, s.link.status.deferred = some b →
        exec .arbitrationLoss s = .next
          { s with link := { s.link with attempt := none, status := ⟨some b, none, false⟩ } })

/-- CLAIM_LOSS (R8, R29, R30, R31). In CLAIMING the candidate joins the taken set, the withdrawal is counted, the claim
slot is given a CLAIM for another free number, or emptied with the node NUMBERLESS where no number is free. In HOLDING the
loss of a defending CLAIM makes the node yield, and the messages of its trigger queue reach the own lanes, oldest first, each
counted unsent (R20), with origin 64 (the model's choice, notes/assumptions/10.md). -/
def Obligations.ClaimLossChoosesAgain : Prop :=
  ∀ (s : State) (cfg : Config) (lo hi : Station) (p : Nat) (a : Attempt) (c : Station),
    s.config = some cfg → cfg.mode = .claim lo hi p → s.link.attempt = some a → a.source = .claim →
    a.message.origin = c →
    (∀ w, s.number.numbering = .claiming c w →
      let taken := if c ∈ s.number.taken then s.number.taken else s.number.taken ++ [c]
      let counters := { s.number.counters with withdraw := min 65535 (s.number.counters.withdraw + 1) }
      let u := { s with number := { s.number with taken := taken, counters := counters } }
      (∀ n, u.Chosen lo hi p n →
        exec .claimLoss s = .next
          { u with
            number := { u.number with numbering := .claiming n none }
            link := { s.link with attempt := none, claim := ⟨some ⟨n, s.serial⟩, none, false⟩ } }) ∧
        ((∀ n, ¬ u.FreeIn lo hi n) →
          exec .claimLoss s = .next
            { u with
              number := { u.number with numbering := .numberless }
              link := { s.link with attempt := none, claim := Slot.empty } })) ∧
      (s.number.numbering = .holding c →
        ∃ t, exec .claimLoss s = .next t ∧ t.link.attempt = none ∧ s.Yielded t c lo hi p)

/-! ## The link controller: faults and recovery -/

/-- LINK_FAULT (R10 to R13). Found while receiving: the code is set and REC rises by 1, staying at 120; nothing
pending is touched. Found while transmitting: the code is set, the message stays pending, TEC rises by 6. The link
state follows the counts, the error signal goes out by the new state, and a QUIET node that transmitted waits (R6). A
no-acknowledge fault raises nothing while no station is present. The signal is 9 bits, recessive in QUIET and dominant
otherwise, from the bit after the finding or, for a CHECK fault, from the bit after the acknowledge delimiter (R10):
what the node drives before it is recessive, and is one bit longer where the check field ends a run. From the first bit of
its signal until the link is free for it again the station finds no fault; before the signal of a CHECK fault has begun it
finds a coding or form fault, which is counted as any other. A fault found while receiving in DETACHED sets the code alone:
no count rises and no signal is sent (R14); that a DETACHED station finds a fault before the link is free again is the model's
choice (notes/assumptions/33.md). The operand `phase` is the model's (notes/assumptions/20.md). -/
def Obligations.FaultRaisesItsCount : Prop :=
  (∀ (s : State) (k : LinkFaultKind) (phase : SignalPhase), s.startup.phase = .running → s.link.joined = true →
    s.link.attempt = none → k ≠ .level → k ≠ .noAck →
    (phase = .past ∨ s.link.signal = none ∨
      (phase = .coming ∧ (k = .coding ∨ k = .form) ∧ ∃ level, s.link.signal = some ⟨.afterAckDelimiter, level⟩)) →
    s.link.state ≠ .detached →
    let rc := min 120 (s.link.recCount + 1)
    let st := LinkState.ofCounts s.link.tecCount rc
    exec (.linkFault k phase) s = .next
      { s with
        link :=
          { s.link with
            lastFault := FaultCode.ofKind k
            recCount := rc
            state := st
            signal := some ⟨if k = .check then .afterAckDelimiter else .nextBit, decide (st = .quiet)⟩
            waitQuiet := false } }) ∧
  (∀ (s : State) (k : LinkFaultKind) (phase : SignalPhase), s.startup.phase = .running → s.link.joined = true →
    s.link.attempt = none → k ≠ .level → k ≠ .noAck → s.link.signal = none → s.link.state = .detached →
    exec (.linkFault k phase) s = .next
      { s with link := { s.link with lastFault := FaultCode.ofKind k, waitQuiet := false } }) ∧
  (∀ (s : State) (k : LinkFaultKind) (phase : SignalPhase) (e : ErrorSignal), s.link.signal = some e →
    (phase = .sending ∨ (phase = .coming ∧ (e.start = .nextBit ∨ (k ≠ .coding ∧ k ≠ .form)))) →
    exec (.linkFault k phase) s = .next s) ∧
  (∀ level complete : Bool,
    ErrorSignal.driven ⟨.nextBit, level⟩ complete = List.replicate 9 level ∧
      ErrorSignal.driven ⟨.afterAckDelimiter, level⟩ complete =
        List.replicate (if complete then 4 else 3) true ++ List.replicate 9 level) ∧
  ∀ (s : State) (a : Attempt) (k : LinkFaultKind) (phase : SignalPhase), s.startup.phase = .running →
    s.link.joined = true → s.link.attempt = some a → a.fate = .stays → s.link.Settled → k ≠ .check →
    (phase = .past ∨ s.link.signal = none) → s.link.state ≠ .detached →
    (s.link.tecCount < 194 → (k = .noAck → s.presentCount ≠ 0) →
      let st := LinkState.ofCounts (s.link.tecCount + 6) s.link.recCount
      exec (.linkFault k phase) s = .next
        { s with
          link :=
            { s.link with
              attempt := none
              lastFault := FaultCode.ofKind k
              tecCount := s.link.tecCount + 6
              state := st
              signal := some ⟨.nextBit, decide (st = .quiet)⟩
              waitQuiet := decide (st = .quiet) } }) ∧
      (k = .noAck → s.presentCount = 0 →
        exec (.linkFault k phase) s = .next
          { s with
            link :=
              { s.link with
                attempt := none
                lastFault := .noAck
                signal := some ⟨.nextBit, decide (s.link.state = .quiet)⟩
                waitQuiet := decide (s.link.state = .quiet) } })

/-- LINK_FAULT that brings TEC to 200 (R12, R14, R20): the link is DETACHED with idle sequences counted from 0 and no
error signal; the trigger queue is emptied into the own lanes, oldest first, each message counted unsent. The operand
`phase`, and that the attempt ends before the queue is emptied, are the model's (notes/assumptions/20.md).
DETACHED_RECOVERY (R14): a bit is counted into the idle sequence in progress, a dominant one restarting it, and of `n`
recessive bits every 14 complete one; with the 64th both counts are 0, the link ACTIVE and one more detach counted, and
short of it the count alone goes on. -/
def Obligations.TwoHundredDetaches : Prop :=
  (∀ (s : State) (levels : List Bool), s.link.state = .detached →
    let count := levels.foldl IdleCount.take s.link.idle
    (64 ≤ count.done →
      exec (.detachedRecovery levels) s = .next
        { s with
          link :=
            { s.link with
              tecCount := 0
              recCount := 0
              state := .active
              idle := ⟨0, 0⟩
              waitQuiet := false
              counters := { s.link.counters with detach := min 65535 (s.link.counters.detach + 1) } } }) ∧
      (count.done < 64 → exec (.detachedRecovery levels) s = .next { s with link := { s.link with idle := count } })) ∧
  (∀ (c : IdleCount) (n : Nat), c.bits < 14 →
    (List.replicate n true).foldl IdleCount.take c = ⟨(c.bits + n) % 14, c.done + (c.bits + n) / 14⟩ ∧
      c.take false = ⟨0, c.done⟩) ∧
  ∀ (s : State) (a : Attempt) (k : LinkFaultKind) (phase : SignalPhase), s.startup.phase = .running →
    s.link.joined = true → s.link.attempt = some a → a.fate = .stays → s.link.Settled → k ≠ .check →
    (phase = .past ∨ s.link.signal = none) → s.link.state ≠ .detached → 194 ≤ s.link.tecCount →
    (k = .noAck → s.presentCount ≠ 0) →
    ∃ t : State, exec (.linkFault k phase) s = .next t ∧
      t.link =
        { s.link with
          attempt := none
          lastFault := FaultCode.ofKind k
          tecCount := 200
          state := .detached
          idle := ⟨0, 0⟩
          signal := none
          waitQuiet := false
          triggers := []
          counters :=
            { s.link.counters with
              unsentTrigger :=
                if s.link.triggers = [] then s.link.counters.unsentTrigger
                else min 65535 (s.link.counters.unsentTrigger + s.link.triggers.length) } } ∧
      t.lanes = (s.link.triggers.foldl (fun s m => s.deliverCue m s.localOrigin) s).lanes ∧
      t.fetch = (s.link.triggers.foldl (fun s m => s.deliverCue m s.localOrigin) s).fetch ∧
      t.number = s.number ∧ t.peers = s.peers ∧ t.timer = s.timer ∧ t.ingest = s.ingest ∧ t.wall = s.wall ∧
      t.output = s.output ∧ t.budget = s.budget ∧ t.triggers = s.triggers ∧ t.report = s.report ∧
      t.startup = s.startup ∧ t.config = s.config ∧ t.tick = s.tick ∧ t.showMemory = s.showMemory

/-! ## The link controller: messages sent -/

/-- MESSAGE_SENT of a TALLY, STATUS, ANSWER, CLAIM or trigger message (R12, R16, R18, R19, R22, R15, R28, R172): TEC
falls, the slot takes its deferred message; a STATUS sets the code to UNCHANGED, a TALLY is counted, a CLAIM for the
candidate starts the window count and any other CLAIM changes nothing more; a GO, HOLD or RELEASE leaves the head of
the queue and reaches the own lanes with the origin it was sent with. -/
def Obligations.SentMessageLeavesItsSlot : Prop :=
  ∀ (s : State) (a : Attempt), s.link.attempt = some a → s.link.state ≠ .detached →
    let l := s.link.afterSent
    (a.source = .tally →
      exec .messageSent s = .next
        { s with
          link := { l with tally := ⟨s.link.tally.deferred, none, false⟩ }
          triggers := { s.triggers with tallySent := min 65535 (s.triggers.tallySent + 1) } }) ∧
      (a.source = .status →
        exec .messageSent s = .next
          { s with link := { l with status := ⟨s.link.status.deferred, none, false⟩, lastFault := .unchanged } }) ∧
      (a.source = .answer →
        exec .messageSent s = .next { s with link := { l with answer := ⟨s.link.answer.deferred, none, false⟩ } }) ∧
      (a.source = .claim →
        (∀ c w, s.number.numbering = .claiming c w → a.message.origin = c →
          exec .messageSent s = .next
            { s with
              link := { l with claim := ⟨s.link.claim.deferred, none, false⟩ }
              number := { s.number with numbering := .claiming c (some 0) } }) ∧
          ((∀ w, s.number.numbering ≠ .claiming a.message.origin w) →
            exec .messageSent s = .next
              { s with link := { l with claim := ⟨s.link.claim.deferred, none, false⟩ } })) ∧
      (a.source = .trigger → ∀ m rest, s.link.triggers = m :: rest →
        exec .messageSent s = .next
          (({ s with link := { l with triggers := rest } } : State).deliverCue m a.message.origin.castSucc))

/-- MESSAGE_SENT of a SYNC (R58): the beacons sent count rises, the lateness is recorded and reported on page 2, and
neither the measurement held nor the role changes. -/
def Obligations.OwnSyncCounted : Prop :=
  ∀ (s : State) (a : Attempt) (r : TimerRun), s.link.attempt = some a →
    a.source = .sync → s.timer.run = some r →
    ∃ t : State, exec .messageSent s = .next t ∧
      t =
        { s with
          link := t.link
          timer :=
            { s.timer with
              run := some { r with lastLateness := a.lateness }
              counters := { s.timer.counters with beaconsSent := min 65535 (s.timer.counters.beaconsSent + 1) } } } ∧
      (s.link.state ≠ .detached →
        t.link = { s.link.afterSent with sync := ⟨s.link.sync.deferred, none, false⟩ }) ∧
      ((t.page 2).drop 21).take 3 = toBytes 3 a.lateness

/-! ## The coding of a message -/

/-- R3, R4, R5: a receiver that samples every bit a transmitter of a message drives receives that message, whatever its
class, kind, origin and payload of at most 12 bytes. -/
def Obligations.WireRoundTrip : Prop :=
  ∀ m : Envelope, m.payload.length ≤ 12 → Rx.run m.wireBits = .received m

/-- R7, R8: of two messages, the first bit in which they differ on the link is driven dominant by the one of lower
arbitration value, so that one wins; and of two CLAIMs of one number, by the one of lower serial. A transmitter that
drives recessive and samples dominant has lost in the arbitration field, and in the length and serial of a CLAIM; a
mismatch on an inserted bit, of either level, is a coding fault (R3), and any other a level fault, or a form fault at a
fixed-recessive bit (R5). -/
def Obligations.LowerValueWinsArbitration : Prop :=
  (∀ x y : Envelope, x.arbitration < y.arbitration →
    ∃ p q q' : List Bool, x.wireBits = p ++ false :: q ∧ y.wireBits = p ++ true :: q') ∧
    (∀ place : BitPlace,
      txFinding place false true = .fault (if place = .inserted then .coding else .level) ∧
        txFinding place false false = .agrees ∧
        (place ≠ .ackSlot → txFinding place true true = .agrees) ∧
        txFinding place true false =
          (match place with
           | .arbitration => .loses
           | .claimSpan => .losesClaim
           | .inserted => .fault .coding
           | .coded => .fault .level
           | .fixedRecessive => .fault .form
           | .ackSlot => .agrees)) ∧
    ∀ (n : Station) (a b : BitVec 32), a < b →
      ∃ p q q' : List Bool,
        (envelope .claim n (toBytes 4 a.toNat)).wireBits = p ++ false :: q ∧
          (envelope .claim n (toBytes 4 b.toNat)).wireBits = p ++ true :: q'

/-! ## Messages received -/

/-- R12, R13, R23, R38: the first delivery step of a message whose origin the number unit makes nothing of: REC falls,
the link state follows, the origin's entry is present with silence count 0 and, for a SYNC, its role, position and frame;
nothing else changes. -/
def Obligations.FirstDeliveryStep : Prop :=
  ∀ (s : State) (m : LinkMessage) (sync : Option SyncFields) (isClaim : Bool), s.Indifferent m.origin →
    let old := s.peers.get m.origin
    let entry : Peer :=
      { silence := 0
        role := match sync with | some f => some f.role | none => old.bind fun p => p.role
        position := match sync with | some f => some f.position | none => old.bind fun p => p.position
        sync := match sync with | some _ => some (s.frame, 0) | none => old.bind fun p => p.sync }
    s.firstStep m sync isClaim =
      { s.advanceTo m.stamp with
        link :=
          { s.link with
            recCount := if s.link.state = .detached then s.link.recCount else s.link.recCount - 1
            state :=
              if s.link.state = .detached then .detached
              else LinkState.ofCounts s.link.tecCount (s.link.recCount - 1)
            signal := none
            waitQuiet := false }
        peers := s.peers.set m.origin.val (some entry) m.origin.isLt }

/-- R23: a message of an unknown kind, or an ANSWER, goes through the first delivery step and no further; one of a
listed kind with a wrong length goes through it and is counted, not handed on. That the number unit judges the origin
within that first step, and that it judges a message of a wrong length by its origin, a wrong-length CLAIM in FIXED alone,
are the model's choices (notes/assumptions/8.md, notes/assumptions/9.md). -/
def Obligations.FirstStepAndNoFurther : Prop :=
  ∀ (s : State) (m : LinkMessage), s.receives = true →
    (∀ cls kind, exec (.unknownMessageReceived cls kind m) s = .next (s.firstStep m none false)) ∧
    (m.payload.length = 12 → exec (.answerReceived m) s = .next (s.firstStep m none false)) ∧
    let after (isClaim : Bool) : State :=
      (s.firstStep m none isClaim).setLink (s.firstStep m none isClaim).link.refuseLength
    (m.payload.length ≠ 8 → exec (.syncReceived m) s = .next (after false)) ∧
      (m.payload.length ≠ 4 → exec (.claimReceived m) s = .next (after true)) ∧
      (m.payload.length ≠ 7 → exec (.goReceived m) s = .next (after false)) ∧
      (m.payload.length ≠ 5 → exec (.holdReceived m) s = .next (after false)) ∧
      (m.payload.length ≠ 5 → exec (.releaseReceived m) s = .next (after false)) ∧
      (m.payload.length ≠ 2 → exec (.tallyReceived m) s = .next (after false)) ∧
      (m.payload.length ≠ 3 → exec (.queryReceived m) s = .next (after false)) ∧
      (m.payload.length ≠ 12 → exec (.answerReceived m) s = .next (after false)) ∧
      (m.payload.length ≠ 10 → exec (.statusReceived m) s = .next (after false)) ∧
      (m.payload.length ≠ 1 → exec (.restartReceived m) s = .next (after false))

/-- A peer heard with the number that the node holds or claims (R29 to R32). In FIXED any message, of whatever kind and a
CLAIM as well, raises the duplicate-number condition in its first delivery step. In HOLDING any message but a CLAIM makes
the node yield there, and so does a CLAIM of lower serial: the yield is counted, the messages of the trigger queue reach the
own lanes, oldest first, each counted unsent (R20), with origin 64 (the model's choice, notes/assumptions/10.md), and the
sender is not entered in the peer table; a CLAIM of higher serial is defended, one of the node's own serial ignored. In
CLAIMING the sender is entered in the peer table, present with silence count 0, before the candidate is chosen again (R37,
R38), and stands there afterwards; any message but a CLAIM, and a CLAIM of another serial, ends the claim, and a CLAIM of the
node's own serial does nothing more. The first step is where the model does this (notes/assumptions/8.md). -/
def Obligations.NumberContested : Prop :=
  ∀ (s : State) (m : LinkMessage), s.receives = true →
    let heard : State := { s.advanceTo m.stamp with link := s.link.countReceived }
    let serial := readClaim m.payload
    (s.number.numbering = .fixed m.origin →
      let doubled : State :=
        { heard with
          number :=
            { s.number with
              duplicate := true
              duplicateQuiet := 0
              counters := { s.number.counters with duplicate := min 65535 (s.number.counters.duplicate + 1) } } }
      (∀ sync isClaim, s.firstStep m sync isClaim = doubled) ∧
        (m.payload.length = 4 → exec (.claimReceived m) s = .next doubled) ∧
        (m.payload.length = 12 → exec (.answerReceived m) s = .next doubled)) ∧
      (s.number.numbering = .holding m.origin → m.payload.length = 4 →
        (s.serial < serial →
          exec (.claimReceived m) s = .next
            { heard with
              number :=
                { s.number with
                  counters := { s.number.counters with defence := min 65535 (s.number.counters.defence + 1) } }
              link :=
                if s.link.claimPending then heard.link else heard.link.writeClaim ⟨m.origin, s.serial⟩ }) ∧
          (serial = s.serial → exec (.claimReceived m) s = .next heard)) ∧
      (s.number.numbering = .holding m.origin → s.link.attempt = none →
        ∀ cfg lo hi p, s.config = some cfg → cfg.mode = .claim lo hi p →
          (∀ sync, heard.Yielded (s.firstStep m sync false) m.origin lo hi p) ∧
            (m.payload.length = 12 → ∃ t, exec (.answerReceived m) s = .next t ∧ heard.Yielded t m.origin lo hi p) ∧
            (m.payload.length = 4 → serial < s.serial →
              ∃ t, exec (.claimReceived m) s = .next t ∧ heard.Yielded t m.origin lo hi p)) ∧
      (∀ w cfg lo hi p sync, s.number.numbering = .claiming m.origin w → s.link.attempt = none →
        s.config = some cfg → cfg.mode = .claim lo hi p →
        let old := s.peers.get m.origin
        let entry : Peer :=
          { silence := 0
            role := match sync with | some f => some f.role | none => old.bind fun p => p.role
            position := match sync with | some f => some f.position | none => old.bind fun p => p.position
            sync := match sync with | some _ => some (s.frame, 0) | none => old.bind fun p => p.sync }
        let after : State := { heard with peers := s.peers.set m.origin.val (some entry) m.origin.isLt }
        let u := after.withTaken m.origin
        let counters := { s.number.counters with withdraw := min 65535 (s.number.counters.withdraw + 1) }
        let ended (t : State) : Prop :=
          t.peers.get m.origin = some entry ∧
          (∀ q, u.Chosen lo hi p q →
            t =
              { u with
                number := { u.number with numbering := .claiming q none, counters := counters }
                link := { after.link with claim := ⟨some ⟨q, s.serial⟩, none, false⟩ } }) ∧
            ((∀ q, ¬ u.FreeIn lo hi q) →
              t =
                { u with
                  number := { u.number with numbering := .numberless, counters := counters }
                  link := { after.link with claim := Slot.empty } })
        s.firstStep m sync true = after ∧ ended (s.firstStep m sync false) ∧
          (sync = none → m.payload.length = 12 → ∃ t, exec (.answerReceived m) s = .next t ∧ ended t) ∧
          (sync = none → m.payload.length = 4 →
            (serial = s.serial → exec (.claimReceived m) s = .next after) ∧
              (serial ≠ s.serial → ∃ t, exec (.claimReceived m) s = .next t ∧ ended t)))

/-- SYNC_RECEIVED from a station whose number the node neither holds nor claims (R51, R53, R59, R60, R63). A SYNC too late
or of another role is refused and counted; START acts on none. An ANCHORED node holds the numbering pair of its numbering
source: the ANCHORED candidate of lowest number, below its own. The leader's SYNC is held as the measurement. A FREE node
follows the sender with the jump allowance set; a LEADING node follows an ANCHORED sender, or a LEADING one of lower
number (any, where it holds none: the model's choice, notes/assumptions/14.md), with the allowance clear and its own SYNC
withdrawn; a FOLLOWING node follows a sender that ranks before its leader, or any where its leader is no candidate; each
holds the measurement then, and does nothing otherwise. The estimate is the start-bit stamp less lateness, travel time and
receive latency, paired with the nearest own edge. -/
def Obligations.SyncTakenByRole : Prop :=
  ∀ (s : State) (m : LinkMessage) (r : TimerRun), s.receives = true → m.payload.length = 8 →
    s.timer.run = some r → s.Indifferent m.origin → 0 < r.config.tLost →
    let f := readSync m.payload
    let after := s.firstStep m (some f) false
    let estimate :=
      m.stamp - BitVec.ofNat 32 f.lateness - BitVec.ofNat 32 (linkDelay f.position r.config.position) -
        BitVec.ofNat 32 r.config.rxLatency
    let edge := r.pairEdge estimate
    let held : Option Measurement := some ⟨(estimate - edge.1).toInt, some ⟨f.frame, edge.2⟩⟩
    let fresh : Lock := ⟨.acquiring, 0, 0, 0⟩
    let changed := { s.timer.counters with leaderChange := min 65535 (s.timer.counters.leaderChange + 1) }
    let candidate (k : Station) (x : Role) : Prop :=
      ∃ p, s.peers.get k = some p ∧ p.candidateRole r.config.tLost = some x
    (3 * r.config.pNom / 2 ≤ f.lateness ∨ (f.role ≠ .anchored ∧ f.role ≠ .leading) →
      exec (.syncReceived m) s = .next
        { after with
          timer :=
            { s.timer with
              counters := { s.timer.counters with beaconRefused := min 65535 (s.timer.counters.beaconRefused + 1) } } }) ∧
      (f.lateness < 3 * r.config.pNom / 2 → (f.role = .anchored ∨ f.role = .leading) →
        (∀ k, r.role = .start k → exec (.syncReceived m) s = .next after) ∧
          (∀ lock, r.role = .anchored lock →
            let source : Prop :=
              f.role = .anchored ∧ (∀ k, k < m.origin → ¬ candidate k .anchored) ∧
                ∀ n, s.heldNumber = some n → m.origin < n
            (source →
              exec (.syncReceived m) s = .next
                { after with
                  timer := { s.timer with run := some { r with numbering := some ⟨f.frame, edge.2⟩ } } }) ∧
              (¬ source → exec (.syncReceived m) s = .next after)) ∧
          (∀ lock j, r.role = .following m.origin lock j →
            exec (.syncReceived m) s = .next
              { after with timer := { s.timer with run := some { r with held := held } } }) ∧
          (∀ leader lock j, r.role = .following leader lock j → leader ≠ m.origin →
            let better : Prop :=
              ∀ x, candidate leader x → (f.role = .anchored ∧ x = .leading) ∨ (f.role = x ∧ m.origin < leader)
            (better →
              exec (.syncReceived m) s = .next
                { after with
                  timer :=
                    { s.timer with
                      run := some { r with role := .following m.origin fresh false, held := held }
                      counters := changed } }) ∧
              (¬ better → exec (.syncReceived m) s = .next after)) ∧
          (r.role = .free →
            exec (.syncReceived m) s = .next
              { after with
                timer :=
                  { s.timer with
                    run := some { r with role := .following m.origin fresh true, held := held }
                    counters := changed } }) ∧
          (r.role = .leading →
            ((f.role = .anchored ∨ ∀ n, s.heldNumber = some n → m.origin < n) →
              exec (.syncReceived m) s = .next
                { after with
                  link := after.link.withdrawSync
                  timer :=
                    { s.timer with
                      run := some { r with role := .following m.origin fresh false, held := held }
                      counters := changed } }) ∧
              (f.role = .leading → ∀ n, s.heldNumber = some n → n < m.origin →
                exec (.syncReceived m) s = .next after)))

/-- GO_RECEIVED that addresses one lane (R104, R105, R107, R115 to R118): a refused one is counted and changes no lane. An
accepted one is superseded, and counted, by a current cue of a later frame, or of its frame and no higher origin, unless
that cue lies more than 255 frames back. Otherwise, with no pending GO it becomes pending; with one, a contest is counted,
and it takes the place of a GO of an earlier frame, or of its frame and a higher origin, whose request, queued or in
flight, is withdrawn. The request of a GO that becomes pending takes a free port at once or joins the queue, a port freed
by an abort having gone by the order of claims before. A GO that addresses no lane does nothing. That an invalid cue
number is counted alone, whatever the execute frame, is the model's choice (notes/assumptions/30.md). -/
def Obligations.GoBecomesPending : Prop :=
  ∀ (s : State) (m : LinkMessage), s.receives = true → m.payload.length = 7 → s.Indifferent m.origin →
    let g := readGo m.payload
    let cue : BitVec 16 := BitVec.ofNat 16 (fieldAt m.payload 3 2)
    let origin := m.origin.castSucc
    let after := s.firstStep m none false
    (s.addressedLanes g = [] → exec (.goReceived m) s = .next after) ∧
      ∀ (i : Fin 4) (p : Fin 16), s.addressedLanes g = [i] → (s.lane i).binding = some p →
        let l := s.lane i
        let put (l : Lane) : LaneEngine := { s.lanes with lanes := s.lanes.lanes.set i.val l i.isLt }
        let counted : Lane := { l with counts := { l.counts with contest := min 255 (l.counts.contest + 1) } }
        let pending : PendingGo := ⟨cue, g.execute, origin, .message, .asked⟩
        let request : FetchRequest := ⟨i, p, cue, g.execute, 0⟩
        let hand (x : State) : State :=
          if x.fetch.port = .none then
            { x with fetch := { x.fetch with port := .fetch, flight := some ⟨request, x.tick⟩ } }
          else { x with fetch := { x.fetch with queue := insertRequest s.frame request x.fetch.queue } }
        let noneQueued : Prop := ∀ x ∈ s.fetch.queue, x.lane ≠ i
        let noneFlies : Prop := ∀ fl, s.fetch.flight = some fl → fl.request.lane ≠ i
        let superseded (c : CurrentCue) : Prop :=
          moreLater 255 s.frame c.execute = false ∧
            (later c.execute g.execute = true ∨ (g.execute = c.execute ∧ c.origin ≤ origin))
        ((cue = 0 ∨ cue = 65535) →
          exec (.goReceived m) s = .next
            { after with
              lanes :=
                { s.lanes with
                  counts := { s.lanes.counts with invalidCue := min 65535 (s.lanes.counts.invalidCue + 1) } } }) ∧
          (cue ≠ 0 → cue ≠ 65535 → inWindow g.execute s.frame = false →
            exec (.goReceived m) s = .next
              { after with
                lanes :=
                  { s.lanes with
                    counts := { s.lanes.counts with windowRefused := min 65535 (s.lanes.counts.windowRefused + 1) } } }) ∧
          (cue ≠ 0 → cue ≠ 65535 → inWindow g.execute s.frame = true →
            (∀ c, l.current = some c → superseded c →
              exec (.goReceived m) s = .next
                { after with
                  lanes :=
                    { s.lanes with
                      counts := { s.lanes.counts with superseded := min 65535 (s.lanes.counts.superseded + 1) } } }) ∧
              ((∀ c, l.current = some c → ¬ superseded c) →
                (l.pending = none → noneFlies → noneQueued →
                  exec (.goReceived m) s = .next
                    (hand { after with lanes := put { l with pending := some pending } })) ∧
                  ∀ old, l.pending = some old →
                    let taken := put { counted with pending := some pending }
                    let beats : Prop :=
                      later g.execute old.execute = true ∨ (g.execute = old.execute ∧ origin < old.origin)
                    (¬ beats → exec (.goReceived m) s = .next { after with lanes := put counted }) ∧
                      (beats → noneFlies → noneQueued →
                        exec (.goReceived m) s = .next (hand { after with lanes := taken })) ∧
                      (beats → noneFlies → (∃ x ∈ s.fetch.queue, x.lane = i) →
                        exec (.goReceived m) s = .next
                          (hand
                            { after with
                              lanes := taken
                              fetch :=
                                { s.fetch with
                                  queue := s.fetch.queue.filter fun x => decide (x.lane ≠ i)
                                  counters :=
                                    { s.fetch.counters with
                                      withdraw := min 65535 (s.fetch.counters.withdraw + 1) } } })) ∧
                      (beats → noneQueued → ∀ fl, s.fetch.flight = some fl → fl.request.lane = i →
                        exec (.goReceived m) s = .next
                          (hand
                            (State.choosePort
                              { after with
                                lanes := taken
                                fetch :=
                                  { s.fetch with
                                    flight := none
                                    port := .none
                                    counters :=
                                      { s.fetch.counters with abort := min 65535 (s.fetch.counters.abort + 1) } } })))))

/-- HOLD_RECEIVED and RELEASE_RECEIVED (R115, R116, R131, R134, R135). The lanes addressed are those bound to the playback
whose group mask shares a bit with the group set; with none the message does nothing beyond the first delivery step. One whose
frame lies more than 255 frames from the current one, either way, or unordered with it, is refused and counted and changes no
lane. Otherwise every lane addressed takes it and no other lane changes. For a later frame the entry joins the control list
behind the entries it does not come before and ahead of the others, the order being by frame and, for one frame, HOLD before
RELEASE; a second copy, or one offered to a full list, is ignored and counted. For a frame `k` frames past, a HOLD takes a cue
that ran then, short of its end, back by `k` and pauses it, and a RELEASE takes a lane paused then forward by `k`; a HOLD at an
EMPTY or PAUSED lane, of a cue that started or resumed after its frame, or past the end at its frame, and a RELEASE at a lane
not PAUSED, or paused after its frame, are ignored and counted. -/
def Obligations.ControlTaken : Prop :=
  ∀ (s : State) (m : LinkMessage) (kind : ControlKind), s.receives = true → m.payload.length = 5 →
    s.Indifferent m.origin →
    let command : Instr := match kind with | .hold => .holdReceived m | .release => .releaseReceived m
    let execute : FrameNo := BitVec.ofNat 16 (fieldAt m.payload 3 2)
    let addressed (i : Fin 4) : Prop :=
      ∃ cfg p, s.config = some cfg ∧ (s.lane i).binding = some p ∧ p.val = fieldAt m.payload 0 1 ∧
        BitVec.ofNat 16 (fieldAt m.payload 1 2) &&& cfg.groups ≠ 0
    let d := (execute - s.frame).toNat
    let k := (s.frame - execute).toNat
    let e : ControlEntry := ⟨kind, execute⟩
    let after := s.firstStep m none false
    let comes (x y : ControlEntry) : Prop :=
      (x.execute - s.frame).toInt < (y.execute - s.frame).toInt ∨
        (x.execute = y.execute ∧ x.kind = .hold ∧ y.kind = .release)
    ((∀ i, ¬ addressed i) → exec command s = .next after) ∧
      ((∃ i, addressed i) → 256 ≤ d → d ≤ 65280 →
        exec command s = .next
          { after with
            lanes :=
              { s.lanes with
                counts := { s.lanes.counts with windowRefused := min 65535 (s.lanes.counts.windowRefused + 1) } } }) ∧
      ((∃ i, addressed i) → (d ≤ 255 ∨ 65281 ≤ d) →
        ∃ t : State, exec command s = .next t ∧
          t = { after with lanes := { s.lanes with lanes := t.lanes.lanes } } ∧
          ∀ i : Fin 4,
            let l := s.lane i
            let ignored : Lane := { l with counts := { l.counts with ignored := min 255 (l.counts.ignored + 1) } }
            (¬ addressed i → t.lane i = l) ∧
              (addressed i → 1 ≤ d → d ≤ 255 →
                ((e ∈ l.control ∨ 4 ≤ l.control.length) → t.lane i = ignored) ∧
                  (e ∉ l.control → l.control.length < 4 →
                    ∃ before behind, l.control = before ++ behind ∧
                      t.lane i = { l with control := before ++ e :: behind } ∧ (∀ x ∈ before, ¬ comes e x) ∧
                      (∀ x ∈ behind.head?, comes e x) ∧
                      (l.control.Pairwise (fun x y => ¬ comes y x) →
                        (before ++ e :: behind).Pairwise fun x y => ¬ comes y x))) ∧
              (addressed i → (d = 0 ∨ 65281 ≤ d) → kind = .hold →
                (l.current = none → t.lane i = ignored) ∧
                  ∀ c, l.current = some c →
                    (∀ age f, c.running = .paused age f → t.lane i = ignored) ∧
                      (c.running = .run →
                        ((c.position - c.runBase < k ∨ c.record.delay + c.record.fade ≤ c.position - k) →
                          t.lane i = ignored) ∧
                          (k ≤ c.position - c.runBase → c.position - k < c.record.delay + c.record.fade →
                            t.lane i =
                              { l with
                                current :=
                                  some
                                    { c with
                                      position := c.position - k, running := .paused k execute, settle := false } }))) ∧
              (addressed i → (d = 0 ∨ 65281 ≤ d) → kind = .release →
                (l.current = none → t.lane i = ignored) ∧
                  ∀ c, l.current = some c →
                    (c.running = .run → t.lane i = ignored) ∧
                      ∀ age f, c.running = .paused age f →
                        (age < k → t.lane i = ignored) ∧
                          (k ≤ age →
                            let q := min (c.position + k) (c.record.delay + c.record.fade + 255)
                            t.lane i =
                              { l with
                                current :=
                                  some
                                    { c with
                                      position := q
                                      runBase := c.position
                                      running := .run
                                      settle := decide (c.record.delay + c.record.fade ≤ q) } })))

/-- TALLY_RECEIVED (R173): each camera of the mask takes the on bit and the sender; the others, and the local tally set,
stand. STATUS_RECEIVED (R38): the sender's entry takes the timing role, codes above 4 as FREE (R190). -/
def Obligations.TallyAndStatusTaken : Prop :=
  (∀ (s : State) (m : LinkMessage) (mask on : Byte), s.receives = true → s.Indifferent m.origin →
    m.payload = [mask, on] →
    ∃ t : State, exec (.tallyReceived m) s = .next t ∧
      t = { s.firstStep m none false with triggers := { s.triggers with cameras := t.triggers.cameras } } ∧
      ∀ i : Fin 8,
        (mask.getLsbD i.val = true → t.triggers.cameras.get i = ⟨on.getLsbD i.val, some m.origin⟩) ∧
          (mask.getLsbD i.val = false → t.triggers.cameras.get i = s.triggers.cameras.get i)) ∧
    ∀ (s : State) (m : LinkMessage) (b : Byte) (rest : List Byte), s.receives = true → s.Indifferent m.origin →
      m.payload = b :: rest → rest.length = 9 →
      ∃ (t : State) (p q : Peer), exec (.statusReceived m) s = .next t ∧
        t = { s.firstStep m none false with peers := t.peers } ∧
        (s.firstStep m none false).peers.get m.origin = some p ∧ t.peers.get m.origin = some q ∧
        q.silence = p.silence ∧ q.position = p.position ∧ q.sync = p.sync ∧
        (b.toNat ≤ 4 → ∃ x, q.role = some x ∧ x.code = b.toNat) ∧ (4 < b.toNat → q.role = some .free) ∧
        ∀ n : Station, n ≠ m.origin → t.peers.get n = (s.firstStep m none false).peers.get n

/-- QUERY_RECEIVED (R175): for the number held an ANSWER with ten bytes of the page, taken at the delivery, goes into
its slot and is counted, an unknown page too; the page is that of the state before the answered count rises, which
page 7 carries (the model's choice, notes/assumptions/17.md); for another number, or with none held, nothing beyond
the first step. -/
def Obligations.QueryAnswered : Prop :=
  ∀ (s : State) (m : LinkMessage) (target page part : Byte), s.receives = true → s.Indifferent m.origin →
    m.payload = [target, page, part] →
    let after := s.firstStep m none false
    (∀ n, s.heldNumber = some n → target.toNat = n.val →
      exec (.queryReceived m) s = .next
        { after with
          report :=
            { answered := min 65535 (s.report.answered + 1)
              unknownPage :=
                if 9 < page.toNat then min 65535 (s.report.unknownPage + 1) else s.report.unknownPage }
          link :=
            after.link.writeAnswer
              ⟨m.origin, Fin.ofNat 4 part.toNat, page,
                ((after.page page.toNat).drop (10 * (part.toNat % 4))).take 10⟩ }) ∧
      ((∀ n, s.heldNumber = some n → target.toNat ≠ n.val) → exec (.queryReceived m) s = .next after) ∧
      (9 < page.toNat → after.page page.toNat = List.replicate 40 0)

/-! ## Numbers and peers at the edges -/

/-- CANDIDATE_CHOICE, CLAIM_WINDOW_END and DUPLICATE_CLEAR (R26, R27, R28, R32, R37), and the counts of the number unit at
a FRAME_EDGE, the choice of R27 and the retry of R33 among them, read on the peer table as that edge ages it (R39). A row
that is a part of the edge acts when that part is due at the edge to come, and FRAME_EDGE leaves the number unit alone
where such a row has done its work (the model's choice, notes/assumptions/6.md): so the listen count stays 0 at the
edge of a retry. -/
def Obligations.NumberUnitAtEdges : Prop :=
  (∀ (s : State) (cfg : Config) (lo hi : Station) (p k : Nat), s.config = some cfg → cfg.mode = .claim lo hi p →
    s.number.numbering = .listen k → 31 ≤ k →
    (∀ n, (s.agePeers cfg).Chosen lo hi p n →
      exec .candidateChoice s = .next
        { s with
          ahead := { s.ahead with number := true }
          number := { s.number with numbering := .claiming n none }
          link := s.link.writeClaim ⟨n, s.serial⟩ }) ∧
      ((∀ n, ¬ (s.agePeers cfg).FreeIn lo hi n) →
        exec .candidateChoice s = .next
          { s with
            ahead := { s.ahead with number := true }
            number := { s.number with numbering := .numberless } })) ∧
    (∀ (s : State) (n : Station) (w : Nat), s.number.numbering = .claiming n (some w) → 7 ≤ w →
      exec .claimWindowEnd s = .next
        { s with
          ahead := { s.ahead with number := true }
          number := { s.number with numbering := .holding n, taken := [] }
          peers := s.peers.set n.val none n.isLt }) ∧
    (∀ s : State, s.number.duplicate = true → 255 ≤ s.number.duplicateQuiet →
      exec .duplicateClear s = .next { s with number := { s.number with duplicate := false, duplicateQuiet := 0 } }) ∧
    ∀ (s : State) (pins : BitVec 8) (r : TimerRun) (cfg : Config), s.startup.phase = .running →
      s.timer.run = some r → s.config = some cfg →
      ∃ t : State, exec (.frameEdge pins) s = .next t ∧ t.ahead = Ahead.none ∧
        (s.ahead.number = true → t.number = s.number) ∧
        (s.ahead.number = false →
          (∀ k, s.number.numbering = .listen k → k < 31 →
            t.number = { s.number with numbering := .listen (k + 1) }) ∧
          (∀ k lo hi p n, s.number.numbering = .listen k → 31 ≤ k → cfg.mode = .claim lo hi p →
            (s.agePeers cfg).Chosen lo hi p n → t.number = { s.number with numbering := .claiming n none }) ∧
          (∀ k lo hi p, s.number.numbering = .listen k → 31 ≤ k → cfg.mode = .claim lo hi p →
            (∀ n, ¬ (s.agePeers cfg).FreeIn lo hi n) → t.number = { s.number with numbering := .numberless }) ∧
          (∀ lo hi p, s.number.numbering = .numberless → cfg.mode = .claim lo hi p →
            ((∃ n, lo ≤ n ∧ n ≤ hi ∧ (s.agePeers cfg).peers.get n = none) →
              t.number =
                { s.number with
                  numbering := .listen 0
                  taken := []
                  counters :=
                    { s.number.counters with listenEntry := min 65535 (s.number.counters.listenEntry + 1) } }) ∧
              ((∀ n, lo ≤ n → n ≤ hi → (s.agePeers cfg).peers.get n ≠ none) → t.number = s.number)) ∧
          (∀ n, s.number.numbering = .claiming n none → t.number = s.number) ∧
          (∀ n w, s.number.numbering = .claiming n (some w) → w < 7 →
            t.number = { s.number with numbering := .claiming n (some (w + 1)) }) ∧
          (∀ n w, s.number.numbering = .claiming n (some w) → 7 ≤ w →
            t.number = { s.number with numbering := .holding n, taken := [] } ∧ t.peers.get n = none) ∧
          (∀ n, s.number.numbering = .holding n → t.number = s.number) ∧
          (∀ n, s.number.numbering = .fixed n → s.number.duplicate = false → t.number = s.number) ∧
          (∀ n, s.number.numbering = .fixed n → s.number.duplicate = true → s.number.duplicateQuiet < 255 →
            t.number = { s.number with duplicateQuiet := s.number.duplicateQuiet + 1 }) ∧
          (∀ n, s.number.numbering = .fixed n → s.number.duplicate = true → 255 ≤ s.number.duplicateQuiet →
            t.number = { s.number with duplicate := false, duplicateQuiet := 0 }))

/-- PEER_AGE_OUT (R39, R40, R33): the entry becomes absent, every camera it fed turns off, and a NUMBERLESS node whose
range holds the number listens again; a timer that followed it and hears no other candidate leads, or is FREE, but keeps
its role where the edge to come starts it anew (R65). FRAME_EDGE: the silence counts of every present entry rise, and at
the age limit the entry is gone. PEER_AGE_OUT acts when the edge to come would age the entry out (the model's choice,
notes/assumptions/6.md); that a count already above the limit does so too is the model's choice
(notes/assumptions/32.md). -/
def Obligations.PeersAge : Prop :=
  (∀ (s : State) (n : Station) (cfg : Config) (r : TimerRun) (p : Peer), s.config = some cfg →
    s.timer.run = some r → s.peers.get n = some p → cfg.ageLimit ≤ p.silence + 1 →
    (r.restart = none → ∀ lock j, r.role ≠ .following n lock j) →
    let triggers : Triggers :=
      { s.triggers with
        cameras := s.triggers.cameras.map fun c => if c.source = some n then ⟨false, none⟩ else c }
    (s.number.numbering ≠ .numberless →
      exec (.peerAgeOut n) s = .next
        { s with peers := s.peers.set n.val none n.isLt, triggers := triggers }) ∧
      (∀ lo hi q, s.number.numbering = .numberless → cfg.mode = .claim lo hi q → lo ≤ n → n ≤ hi →
        exec (.peerAgeOut n) s = .next
          { s with
            ahead := { s.ahead with number := true }
            peers := s.peers.set n.val none n.isLt
            triggers := triggers
            number :=
              { s.number with
                numbering := .listen 0
                taken := []
                counters := { s.number.counters with listenEntry := min 65535 (s.number.counters.listenEntry + 1) } } })) ∧
    (∀ (s : State) (n : Station) (cfg : Config) (r : TimerRun) (p : Peer) (lock : Lock) (j : Bool),
      s.config = some cfg → s.timer.run = some r → s.peers.get n = some p → cfg.ageLimit ≤ p.silence + 1 →
      r.role = .following n lock j → r.restart = none → r.capture.valid = false →
      (∀ k, k ≠ n → s.peers.get k = none) → s.ahead = Ahead.none →
      ∃ (t : State) (r' : TimerRun), exec (.peerAgeOut n) s = .next t ∧ t.timer.run = some r' ∧
        r'.role = (if r.config.leadPermission && s.heldNumber.isSome then .leading else .free) ∧
        r'.held = r.held ∧ r'.frame = r.frame ∧ (∀ k : Station, t.peers.get k = none) ∧
        t.ahead.lock = true ∧ t.ahead.role = true) ∧
    ∀ (s : State) (pins : BitVec 8) (r : TimerRun) (cfg : Config), s.timer.run = some r → s.config = some cfg →
      (∀ q w, s.number.numbering ≠ .claiming q w) →
      ∃ t : State, exec (.frameEdge pins) s = .next t ∧
        ∀ n : Station,
          (s.peers.get n = none → t.peers.get n = none) ∧
            ∀ p, s.peers.get n = some p →
              (cfg.ageLimit ≤ p.silence + 1 → t.peers.get n = none) ∧
                (p.silence + 1 < cfg.ageLimit →
                  t.peers.get n = some
                    { p with silence := p.silence + 1, sync := p.sync.map fun x => (x.1, min 255 (x.2 + 1)) })

/-! ## The frame timer -/

/-- FRAME_EDGE (R44 to R48, R52 to R54, R62, R63, R65): the edge falls at the scheduled stamp; Pf, the fraction accumulator
and the length of the new frame follow from the measurement held, by a slew or by an acquisition jump; the number rises
by 1, moved by the adopted pair; the measurement and the pair are gone. An edge that starts the timer anew with another
P_nom begins frame 0 in START; its last error and last lateness of 0 are the model's choice (notes/assumptions/3.md). An
edge of which no part was taken ahead accounts the lock with the measurement held (R54) and then evaluates the role by
Table 4-3 over the entries as that edge ages them, START by R49; a change of role or of leader has the effects of R53. A
SYNC withdrawn so is not counted stale at that edge, the role going first (the model's reading, notes/assumptions/24.md). A
node without a number ranks below every LEADING candidate (notes/assumptions/14.md), which no case here turns on. -/
def Obligations.TimerAtEdge : Prop :=
  (∀ (s : State) (pins : BitVec 8) (r : TimerRun) (cfg : Config), s.timer.run = some r → s.config = some cfg →
    r.restart = none →
    let c := r.config
    let e : Int := match r.held with | some m => m.e | none => 0
    let jump := r.role.jumpSet && r.held.isSome && decide (c.window < e.natAbs)
    let low : Int := c.pNom * 256 - (c.pNom * 256 / 200 : Nat)
    let high : Int := c.pNom * 256 + (c.pNom * 256 / 200 : Nat)
    let pf := if jump then r.pf else (max low (min high (r.pf + e))).toNat
    let sum := r.fraction + pf % 256
    ∃ (t : State) (r' : TimerRun), exec (.frameEdge pins) s = .next t ∧ t.timer.run = some r' ∧
      t.tick = (s.advanceTo (r.lastEdge + BitVec.ofNat 32 r.length)).tick ∧
      r'.lastEdge = r.lastEdge + BitVec.ofNat 32 r.length ∧ r'.previousEdge = some r.lastEdge ∧
      r'.pf = pf ∧ r'.fraction = sum % 256 ∧
      (jump = true →
        r'.length =
          (max (((c.pNom + 1) / 2 : Nat) : Int)
            (min ((3 * c.pNom / 2 : Nat) : Int) ((pf / 256 : Nat) + e + (sum / 256 : Nat)))).toNat) ∧
      (jump = false →
        r'.length =
          ((pf / 256 : Nat) + max (-(c.slew : Int)) (min (c.slew : Int) (e.tdiv 8)) + (sum / 256 : Nat)).toNat) ∧
      (r.held = none → r.numbering = none → r'.frame = r.frame + 1) ∧
      (∀ n lock j x a b, r.role = .following n lock j → r.held = some ⟨x, some ⟨a, b⟩⟩ →
        r'.frame = r.frame + 1 + (a - b)) ∧
      (∀ lock a b, r.role = .anchored lock → r.numbering = some ⟨a, b⟩ → r'.frame = r.frame + 1 + (a - b)) ∧
      r'.held = none ∧ r'.numbering = none ∧ r'.config = c ∧ r'.capture = r.capture ∧
      t.timer.edges = s.timer.edges + 1 ∧
      t.timer.counters.jump = (if jump then min 65535 (s.timer.counters.jump + 1) else s.timer.counters.jump)) ∧
    (∀ (s : State) (pins : BitVec 8) (r : TimerRun) (cfg : Config) (c : TimerConfig), s.timer.run = some r →
      s.config = some cfg → r.restart = some c →
      ∃ t : State, exec (.frameEdge pins) s = .next t ∧
        t.timer =
          { run :=
              some
                { config := c, restart := none, pf := c.pNom * 256, fraction := 0, frame := 0, length := c.pNom,
                  lastEdge := r.lastEdge + BitVec.ofNat 32 r.length, previousEdge := none, role := .start 0,
                  held := none, numbering := none, capture := ⟨none, 0, false⟩, lastError := 0, lastLateness := 0 }
            counters := s.timer.counters
            edges := s.timer.edges + 1 } ∧
        t.tick = (s.advanceTo (r.lastEdge + BitVec.ofNat 32 r.length)).tick) ∧
    ∀ (s : State) (pins : BitVec 8) (r : TimerRun) (cfg : Config), s.timer.run = some r → s.config = some cfg →
      r.restart = none → s.ahead = Ahead.none →
      let c := r.config
      let fresh : Lock := ⟨.acquiring, 0, 0, 0⟩
      let accounted (l : Lock) : Lock :=
        match r.held with
        | some m =>
          if m.e.natAbs ≤ c.window then
            { quality := if l.quality ≠ .locked ∧ 8 ≤ l.inRun + 1 then .locked else l.quality
              inRun := min 8 (l.inRun + 1)
              outRun := 0
              quiet := 0 }
          else if l.quality ≠ .locked then { l with inRun := 0, quiet := 0 }
          else if l.outRun + 1 < 3 then { l with outRun := l.outRun + 1, quiet := 0 }
          else ⟨.unlocked, 0, 3, 0⟩
        | none =>
          if l.quality ≠ .locked then { l with quiet := min 64 (l.quiet + 1) }
          else if l.quiet + 1 < c.tLost then { l with quiet := l.quiet + 1 }
          else ⟨.unlocked, 0, l.outRun, l.quiet + 1⟩
      let lost : Prop := ∃ l, r.role.lock = some l ∧ l.quality = .locked ∧ (accounted l).quality = .unlocked
      let valid := r.capture.valid
      let lead := c.leadPermission && s.heldNumber.isSome
      let aged := s.agePeers cfg
      let best := aged.bestCandidate c.tLost
      let roleOf (n : Station) : Option Role := (aged.peers.get n).bind fun p => p.candidateRole c.tLost
      let chosen (role : TimerRole) : Prop :=
        (∀ n, best = some n → role = .following n fresh false) ∧
          (best = none → role = if lead then .leading else .free)
      ∃ (t : State) (r' : TimerRun), exec (.frameEdge pins) s = .next t ∧ t.timer.run = some r' ∧
        (lost → t.timer.counters.lockLoss = min 65535 (s.timer.counters.lockLoss + 1)) ∧
        (¬ lost → t.timer.counters.lockLoss = s.timer.counters.lockLoss) ∧
        (∀ k, r.role = .start k →
          (k + 1 < 2 * c.tLost → r'.role = .start (k + 1)) ∧
            (2 * c.tLost ≤ k + 1 →
              (valid = true → r'.role = .anchored fresh) ∧
                (valid = false →
                  (best = none → r'.role = if lead then .leading else .free) ∧
                    ∀ n, best = some n →
                      (lead = false → r'.role = .following n fresh true) ∧
                        ∀ own, lead = true → s.heldNumber = some own →
                          r'.role =
                            if roleOf n = some .anchored ∨ n < own then .following n fresh true else .leading))) ∧
        (∀ l, r.role = .anchored l →
          (valid = true → r'.role = .anchored (accounted l)) ∧ (valid = false → chosen r'.role)) ∧
        (r.role = .leading →
          (valid = true → r'.role = .anchored fresh) ∧
            (valid = false → lead = false → chosen r'.role) ∧
            (valid = false → lead = true → best = none → r'.role = .leading) ∧
            ∀ n own, valid = false → lead = true → best = some n → s.heldNumber = some own →
              r'.role = if roleOf n = some .anchored ∨ n < own then .following n fresh false else .leading) ∧
        (∀ leader l j, r.role = .following leader l j →
          (valid = true → r'.role = .anchored fresh) ∧
            (valid = false → roleOf leader = none → chosen r'.role) ∧
            ∀ n, valid = false → roleOf leader ≠ none → best = some n →
              r'.role =
                if n = leader then .following leader (accounted l) (j && r.held.isNone) else .following n fresh false) ∧
        (r.role = .free →
          (valid = true → r'.role = .anchored fresh) ∧
            (∀ n, valid = false → best = some n → r'.role = .following n fresh true) ∧
            (valid = false → best = none → r'.role = if lead then .leading else .free)) ∧
        (∀ n l j, r'.role = .following n l j →
          ((∃ l' j', r.role = .following n l' j') → t.timer.counters.leaderChange = s.timer.counters.leaderChange) ∧
            ((∀ l' j', r.role ≠ .following n l' j') →
              t.timer.counters.leaderChange = min 65535 (s.timer.counters.leaderChange + 1))) ∧
        ((∀ n l j, r'.role ≠ .following n l j) → t.timer.counters.leaderChange = s.timer.counters.leaderChange) ∧
        ((r.role = .leading ∨ ∃ l, r.role = .anchored l) → r'.role ≠ .leading → (∀ l, r'.role ≠ .anchored l) →
          s.link.attempt = none → t.link.sync = Slot.empty ∧ t.link.counters.stale = s.link.counters.stale)

/-- R50: a present entry is a candidate in the role ANCHORED or LEADING, with a SYNC silence count below T_lost; the best
candidate is one no other ranks before: ANCHORED before LEADING, then the lower number. R60: an estimate is paired with the
nearest of three own edges, the earliest of those equally near: the edge before the last, numbered one below the current frame
and left out in the first frame after a start; the last edge, numbered as the current frame; and the next scheduled edge, the
length of the frame after it, numbered one above. -/
def Obligations.BestCandidateAndNearestEdge : Prop :=
  (∀ (p : Peer) (tLost : Nat) (x : Role),
    p.candidateRole tLost = some x ↔
      p.role = some x ∧ (x = .anchored ∨ x = .leading) ∧ ∃ f quiet, p.sync = some (f, quiet) ∧ quiet < tLost) ∧
  (∀ (s : State) (tLost : Nat),
    (s.bestCandidate tLost = none → ∀ n p, s.peers.get n = some p → p.candidateRole tLost = none) ∧
      ∀ n, s.bestCandidate tLost = some n →
        ∃ p x, s.peers.get n = some p ∧ p.candidateRole tLost = some x ∧
          ∀ k q y, s.peers.get k = some q → q.candidateRole tLost = some y →
            (x = .anchored ∧ y = .leading) ∨ (x = y ∧ n ≤ k)) ∧
    ∀ (r : TimerRun) (t : Stamp),
      let edges : List (Stamp × FrameNo) :=
        (match r.previousEdge with | some p => [(p, r.frame - 1)] | none => []) ++
          [(r.lastEdge, r.frame), (r.lastEdge + BitVec.ofNat 32 r.length, r.frame + 1)]
      let distance (e : Stamp × FrameNo) : Nat := (t - e.1).toInt.natAbs
      ∃ before after, edges = before ++ r.pairEdge t :: after ∧
        (∀ x ∈ before, distance (r.pairEdge t) < distance x) ∧ ∀ x ∈ after, distance (r.pairEdge t) ≤ distance x

/-- START_END (R49, R50, R53): the choice at the end of START, over the entries as the edge to come ages them: ANCHORED
with a valid capture; else the best candidate is followed where it ranks before the node as a LEADING candidate, and the
node leads, or is FREE, otherwise. LOCK_QUIET_LOSS (R54): a LOCKED timer with no measurement held loses its lock at T_lost
quiet edges. Both rows act when that part is due at the edge to come, which then leaves it out (the model's choice,
notes/assumptions/6.md). Neither does anything where that edge starts the frame timer anew (R65). -/
def Obligations.EndOfStartAndQuietLoss : Prop :=
  (∀ (s : State) (cfg : Config) (r : TimerRun) (k : Nat), s.config = some cfg → s.timer.run = some r →
    r.restart = none → r.role = .start k → 2 * r.config.tLost ≤ k + 1 → s.ahead.number = false →
    let fresh : Lock := ⟨.acquiring, 0, 0, 0⟩
    let lead := r.config.leadPermission && s.heldNumber.isSome
    let aged := s.agePeers cfg
    let done := { s.ahead with lock := true, role := true }
    let follows (n : Station) : Host.Outcome State Fault Refusal :=
      .next
        { s with
          ahead := done
          timer :=
            { s.timer with
              run := some { r with role := .following n fresh true }
              counters := { s.timer.counters with leaderChange := min 65535 (s.timer.counters.leaderChange + 1) } } }
    let takes (role : TimerRole) : Host.Outcome State Fault Refusal :=
      .next { s with ahead := done, timer := { s.timer with run := some { r with role := role } } }
    (r.capture.valid = true →
      exec .startEnd s = .next
        { s with
          ahead := done
          timer := { s.timer with run := some { r with role := .anchored fresh, held := none } } }) ∧
      (r.capture.valid = false → lead = false → ∀ n, aged.bestCandidate r.config.tLost = some n →
        exec .startEnd s = follows n) ∧
      (r.capture.valid = false → lead = true → ∀ n p x own, aged.bestCandidate r.config.tLost = some n →
        aged.peers.get n = some p → p.candidateRole r.config.tLost = some x → s.heldNumber = some own →
        ((x = .anchored ∨ n < own) → exec .startEnd s = follows n) ∧
          (x = .leading → own ≤ n → exec .startEnd s = takes .leading)) ∧
      (r.capture.valid = false → aged.bestCandidate r.config.tLost = none →
        exec .startEnd s = takes (if lead then .leading else .free))) ∧
    (∀ (s : State) (r : TimerRun) (c : TimerConfig), s.timer.run = some r → r.restart = some c →
      exec .startEnd s = .next s ∧ exec .lockQuietLoss s = .next s) ∧
    ∀ (s : State) (r : TimerRun) (l : Lock), s.timer.run = some r → r.restart = none → r.role.lock = some l →
      l.quality = .locked → r.held = none → r.config.tLost ≤ l.quiet + 1 →
      exec .lockQuietLoss s = .next
        { s with
          ahead := { s.ahead with lock := true }
          timer :=
            { s.timer with
              run :=
                some
                  { r with
                    role :=
                      r.role.withLock ⟨.unlocked, 0, l.outRun, l.quiet + 1⟩ }
              counters := { s.timer.counters with lockLoss := min 65535 (s.timer.counters.lockLoss + 1) } } }

/-- REFERENCE_PULSE and REFERENCE_TIMEOUT (R55, R56, R61): a first pulse is kept; a good interval raises the count to at
most 4 and the fourth makes the capture valid; a bad one clears both and is counted; in ANCHORED a pulse that leaves the
capture valid is held as the measurement; the timeout clears the capture. -/
def Obligations.ReferenceCapture : Prop :=
  ∀ (s : State) (r : TimerRun), s.timer.run = some r →
    (∀ now : Stamp,
      let kept (c : RefCapture) : TimerRun :=
        { r with
          capture := c
          held :=
            match r.role, c.valid with
            | .anchored _, true => some ⟨(now - (r.pairEdge now).1).toInt, none⟩
            | _, _ => r.held }
      (r.capture.lastPulse = none →
        exec (.referencePulse now) s = .next
          { s.advanceTo now with
            timer := { s.timer with run := some (kept ⟨some now, 0, r.capture.valid⟩) } }) ∧
        (∀ p, r.capture.lastPulse = some p →
          r.config.pNom - r.config.pNom / 100 ≤ (now - p).toNat →
          (now - p).toNat ≤ r.config.pNom + r.config.pNom / 100 →
          exec (.referencePulse now) s = .next
            { s.advanceTo now with
              timer :=
                { s.timer with
                  run :=
                    some
                      (kept
                        ⟨some now, min 4 (r.capture.good + 1), r.capture.valid || decide (3 ≤ r.capture.good)⟩) } }) ∧
        (∀ p, r.capture.lastPulse = some p →
          ((now - p).toNat < r.config.pNom - r.config.pNom / 100 ∨
            r.config.pNom + r.config.pNom / 100 < (now - p).toNat) →
          exec (.referencePulse now) s = .next
            { s.advanceTo now with
              timer :=
                { s.timer with
                  run := some (kept ⟨some now, 0, false⟩)
                  counters :=
                    { s.timer.counters with
                      intervalFault := min 65535 (s.timer.counters.intervalFault + 1)
                      referenceLoss :=
                        if r.capture.valid then min 65535 (s.timer.counters.referenceLoss + 1)
                        else s.timer.counters.referenceLoss } } })) ∧
      ∀ p, r.capture.lastPulse = some p →
        exec .referenceTimeout s = .next
          { s.advanceTo (p + BitVec.ofNat 32 (3 * r.config.pNom / 2)) with
            timer :=
              { s.timer with
                run := some { r with capture := ⟨none, 0, false⟩ }
                counters :=
                  { s.timer.counters with
                    referenceLoss :=
                      if r.capture.valid then min 65535 (s.timer.counters.referenceLoss + 1)
                      else s.timer.counters.referenceLoss } } }

/-- FRAME_EDGE with no message in transmission (R57, R18, R53, R174). A running node in FIXED or HOLDING whose role at the edge,
after its evaluation, is ANCHORED or LEADING writes the SYNC of the edge: its number and stamp, the role and the link position;
so do a lone leader and an ANCHORED node with a valid capture, which keep their roles. In any other role (START, FOLLOWING,
FREE), without a number, or while the link controller is held, the SYNC slot is left empty. The SYNC that was pending is
counted stale, unless leaving ANCHORED or LEADING withdrew it first (the model's reading, notes/assumptions/24.md). At its turn such a node writes a STATUS of the timing role, lock
quality and leader after the edge, of the conditions at this edge and of the values published at the previous one; at no other
edge, and without a number, no STATUS is written. A number that CLAIM_WINDOW_END has given ahead of this edge (that row acts
first by the model's choice, notes/assumptions/6.md) is held for both from the next edge on. That the conditions are taken
after every other block has worked at the edge, and the turn judged by the number held before it, is the model's choice
(notes/assumptions/7.md). -/
def Obligations.BeaconAndStatusAtEdge : Prop :=
  ∀ (s : State) (pins : BitVec 8) (r : TimerRun) (cfg : Config), s.timer.run = some r → s.config = some cfg →
    s.link.attempt = none →
    ∃ (t : State) (r' : TimerRun), exec (.frameEdge pins) s = .next t ∧ t.timer.run = some r' ∧
      let running : Prop := s.startup.phase = .running
      let holds (n : Station) : Prop :=
        s.number.numbering = .fixed n ∨ (s.number.numbering = .holding n ∧ s.ahead.number = false)
      let beacon (role : Role) : Prop :=
        t.link.sync =
          ⟨some ⟨r'.frame, r.lastEdge + BitVec.ofNat 32 r.length, role, r'.config.position⟩, none, false⟩
      let led : Prop := r.role.role = .anchored ∨ r.role.role = .leading
      let turn (n : Station) : Prop := r'.frame.toNat % cfg.statusPeriod = n.val % cfg.statusPeriod
      (∀ n, running → holds n → (r'.role.role = .anchored ∨ r'.role.role = .leading) → beacon r'.role.role) ∧
      (∀ n, running → holds n → r.restart = none → r.role = .leading → r.capture.valid = false →
        r.config.leadPermission = true → (∀ k : Station, s.peers.get k = none) → beacon .leading) ∧
      (∀ n lock, running → holds n → r.restart = none → r.role = .anchored lock → r.capture.valid = true →
        beacon .anchored) ∧
      ((r'.role.role = .start ∨ r'.role.role = .following ∨ r'.role.role = .free) → t.link.sync = Slot.empty) ∧
      ((¬ running ∨ ∀ n, ¬ holds n) → t.link.sync = Slot.empty) ∧
      ((r.restart = none ∧ led ∧ r'.role.role ≠ r.role.role) → t.link.counters.stale = s.link.counters.stale) ∧
      (¬ (r.restart = none ∧ led ∧ r'.role.role ≠ r.role.role) →
        t.link.counters.stale =
          (if s.link.sync.pending.isSome then min 65535 (s.link.counters.stale + 1) else s.link.counters.stale)) ∧
      ((¬ running ∨ ∀ n, holds n → ¬ turn n) → t.link.status = s.link.status) ∧
      ∀ n, running → holds n → turn n →
        ∃ b, t.link.status = { s.link.status with pending := some b } ∧ b.role = byteOf r'.role.role.code ∧
          b.lock = lockCode r'.role.lock ∧ b.leader = stationByte r'.role.leader ∧
          b.numbering = (if s.number.numbering = .fixed n then 0 else 3) ∧ b.faults = t.faultSummary ∧
          b.scale = byteOf (s.budget.scale.last / 256) ∧
          b.lanes01 = lanePair (s.lanes.conditions.last.get 0) (s.lanes.conditions.last.get 1) ∧
          b.lanes23 = lanePair (s.lanes.conditions.last.get 2) (s.lanes.conditions.last.get 3) ∧
          b.repeatRun = byteOf (min 255 s.wall.repeatHanded.last)

/-! ## Pictures -/

/-- ROW_ARRIVAL (R66 to R70, R191). What arrives is what the receiver of the pixel port makes of the levels of its line; a
broken packet or one whose check fails is a bad row; a good row is judged by tile and by tag and discarded with its count,
or taken by the idle writer, queued, or counted as an overrun. The receiver: the characters of 293 bytes after a rest
arrive as those bytes at the last data bit of the last; a low stop bit, or a rest of 20 high levels, before the 293rd
breaks the packet there; a low stop bit of the 293rd breaks nothing; characters after the 293rd, before a rest, arrive
together as one broken packet at the end of that rest; a low level before 20 high ones begins no packet. From where a rest
is counted, and that after the 293rd character a line that stays low begins no character, are the model's choices
(notes/assumptions/28.md). A packet is judged by the state at its arrival even if its reception began while pixel ingest was
stopped (the model's choice, notes/assumptions/5.md). -/
def Obligations.RowArrivalJudged : Prop :=
  (∀ (s : State) (cfg : Config) (levels : List Bool) (port : PixelPort), s.startup.phase = .running →
    s.config = some cfg →
    let u := s.ingest
    let put (x : Ingest) : Host.Outcome State Fault Refusal := .next { s with pixelPort := port, ingest := x }
    let bad := put { u with counts := { u.counts with bad := min 255 (u.counts.bad + 1) } }
    (s.pixelPort.run levels = (port, []) → exec (.rowArrival levels) s = put u) ∧
      (s.pixelPort.run levels = (port, [.broken]) → exec (.rowArrival levels) s = bad) ∧
      (∀ bytes, s.pixelPort.run levels = (port, [.whole bytes]) → readRow bytes = none →
        exec (.rowArrival levels) s = bad) ∧
      ∀ bytes x, s.pixelPort.run levels = (port, [.whole bytes]) → readRow bytes = some x →
        let d := (x.tag - s.frame).toNat
        (cfg.tiles ≤ x.tile →
          exec (.rowArrival levels) s =
            put { u with counts := { u.counts with malformed := min 255 (u.counts.malformed + 1) } }) ∧
          (x.tile < cfg.tiles → (d = 0 ∨ 32768 ≤ d) →
            exec (.rowArrival levels) s =
              put { u with counts := { u.counts with stale := min 255 (u.counts.stale + 1) } }) ∧
          (x.tile < cfg.tiles → 256 ≤ d → d ≤ 32767 →
            exec (.rowArrival levels) s =
              put { u with counts := { u.counts with outOfWindow := min 255 (u.counts.outOfWindow + 1) } }) ∧
          (x.tile < cfg.tiles → 1 ≤ d → d ≤ 255 →
            (u.queue = [] → u.writer = none → exec (.rowArrival levels) s = put { u with writer := some x }) ∧
              ((u.queue ≠ [] ∨ u.writer ≠ none) → u.queue.length < 8 →
                exec (.rowArrival levels) s =
                  put
                    { u with
                      queue := u.queue ++ [x]
                      pace := if cfg.paceTrigger ≤ u.queue.length + 1 then .stop else u.pace }) ∧
              (8 ≤ u.queue.length →
                exec (.rowArrival levels) s =
                  put { u with counts := { u.counts with overrun := min 255 (u.counts.overrun + 1) } }))) ∧
    let start : PixelPort := .idle 20
    let rest : List Bool := List.replicate 20 true
    let lowStop (b : Byte) : List Bool := false :: bitsOf 8 b.toNat ++ [false]
    (∀ bytes : List Byte, bytes.length = 293 → start.run (packetLevels bytes) = (.tail 0 true 0 false, [.whole bytes])) ∧
      (∀ (bytes : List Byte) (b : Byte), bytes.length < 292 →
        start.run (packetLevels bytes ++ lowStop b) = (.idle 0, [.broken])) ∧
      (∀ bytes : List Byte, bytes ≠ [] → bytes.length < 293 →
        start.run (packetLevels bytes ++ rest) = (start, [.broken])) ∧
      (∀ (bytes : List Byte) (b : Byte), bytes.length = 292 →
        start.run (packetLevels bytes ++ lowStop b ++ rest) = (start, [.whole (bytes ++ [b])])) ∧
      (∀ bytes more : List Byte, bytes.length = 293 → more ≠ [] →
        start.run (packetLevels bytes ++ packetLevels more ++ rest) = (start, [.whole bytes, .broken])) ∧
      (∀ high, (PixelPort.idle high).run rest = (start, []) ∧
        (high < 20 → (PixelPort.idle high).run [false] = (.idle 0, [])))

/-- ROW_COMMIT (R73 to R79): the writer row is discarded by its tag, or as a second copy, or written: its gained
pixels stand in its row and no other row of the store changes, the row is received, the tile sum grows by the row, and
the buffer is open or complete under the tag, its sums of the zones grown by the pixels of the row inside them. A
buffer under an earlier tag gives way to a later one, and one whose tag is out of window to any other; a row whose tag
is unordered with the buffer's is taken with the earlier ones (the model's choice, notes/assumptions/26.md). The
writer takes the oldest row waiting. -/
def Obligations.RowCommitted : Prop :=
  ∀ (s : State) (cfg : Config) (x : Row), s.startup.phase = .running → s.config = some cfg →
    s.ingest.writer = some x → x.tile < 4 →
    let d := (x.tag - s.frame).toNat
    let tile : Fin 4 := Fin.ofNat 4 x.tile
    let b := s.ingest.back
    let inZone (z : Zone) : Prop := z.tile = x.tile ∧ z.firstRow ≤ x.row ∧ x.row ≤ z.lastRow
    let zonePixels (z : Zone) : List Rgb := ((x.gainedPixels cfg.gains).take (z.lastCol + 1)).drop z.firstCol
    ∃ t : State, exec .rowCommit s = .next t ∧ t = { s with ingest := t.ingest } ∧
      (s.ingest.queue = [] → t.ingest.writer = none ∧ t.ingest.queue = [] ∧ t.ingest.pace = s.ingest.pace) ∧
      (∀ y rest, s.ingest.queue = y :: rest →
        t.ingest.writer = some y ∧ t.ingest.queue = rest ∧
          t.ingest.pace = (if rest = [] then .go else s.ingest.pace)) ∧
      ((d = 0 ∨ 32768 ≤ d) →
        t.ingest.back = b ∧
          t.ingest.counts = { s.ingest.counts with stale := min 255 (s.ingest.counts.stale + 1) }) ∧
      (256 ≤ d → d ≤ 32767 →
        t.ingest.back = b ∧
          t.ingest.counts = { s.ingest.counts with outOfWindow := min 255 (s.ingest.counts.outOfWindow + 1) }) ∧
      (1 ≤ d → d ≤ 255 →
        (b.state.tag = some x.tag → x.row ∈ b.received.get tile →
          t.ingest.back = b ∧
            t.ingest.counts = { s.ingest.counts with duplicate := min 255 (s.ingest.counts.duplicate + 1) }) ∧
        (∀ old, b.state.tag = some old → x.tag ≠ old → later x.tag old = false → moreLater 255 old s.frame = false →
          t.ingest.back = b ∧
            t.ingest.counts = { s.ingest.counts with stale := min 255 (s.ingest.counts.stale + 1) }) ∧
        ((b.state = .empty ∨ (b.state.tag = some x.tag ∧ x.row ∉ b.received.get tile)) →
          t.ingest.counts = s.ingest.counts ∧ t.ingest.back.state.tag = some x.tag ∧
            x.row ∈ t.ingest.back.received.get tile ∧
            t.ingest.back.tileSums.get tile =
              Rgb.zip (· + ·) (b.tileSums.get tile) (sumPixels (x.gainedPixels cfg.gains)) ∧
            (∀ k : Fin 4, k ≠ tile → t.ingest.back.tileSums.get k = b.tileSums.get k) ∧
            (∀ (k : Fin 8) (z : Zone), cfg.zones[k.val]? = some z →
              (inZone z →
                t.ingest.back.zoneSums.get k = Rgb.zip (· + ·) (b.zoneSums.get k) (sumPixels (zonePixels z))) ∧
                (¬ inZone z → t.ingest.back.zoneSums.get k = b.zoneSums.get k)) ∧
            (t.ingest.back.state = .complete x.tag ↔
              ∀ k < cfg.tiles, ∀ row < 64, row ∈ t.ingest.back.received.get (Fin.ofNat 4 k)) ∧
            (PixelStore.wf b.store = true →
              readCell blackRow t.ingest.back.store (64 * x.tile + x.row) = x.gainedPixels cfg.gains ∧
                ∀ a, a ≠ 64 * x.tile + x.row →
                  readCell blackRow t.ingest.back.store a = readCell blackRow b.store a)) ∧
        (∀ old, b.state.tag = some old →
          (later x.tag old = true ∨ (x.tag ≠ old ∧ moreLater 255 old s.frame = true)) →
          t.ingest.counts = { s.ingest.counts with superseded := min 255 (s.ingest.counts.superseded + 1) } ∧
            t.ingest.back.state.tag = some x.tag ∧ t.ingest.back.received.get tile = [x.row] ∧
            t.ingest.back.tileSums.get tile =
              Rgb.zip (· + ·) Rgb.black (sumPixels (x.gainedPixels cfg.gains)) ∧
            ∀ (k : Fin 8) (z : Zone), cfg.zones[k.val]? = some z →
              (inZone z →
                t.ingest.back.zoneSums.get k = Rgb.zip (· + ·) Rgb.black (sumPixels (zonePixels z))) ∧
                (¬ inZone z → t.ingest.back.zoneSums.get k = Rgb.black)))

/-- FRAME_EDGE (R71, R84 to R89): the rows waiting that are stale or out of window are flushed; a buffer complete for
the number of the edge becomes the front, its figures are published and the run is cleared; otherwise the front is
repeated and counted, a buffer for a later frame kept and any other given up as missed. WALL_HELD (R88): the condition
is raised where the repeat run exceeds the hold limit at an edge that does not swap. WALL_HELD acts when that part is
due at the edge to come (the model's choice, notes/assumptions/6.md). -/
def Obligations.FlipAtEdge : Prop :=
  (∀ (s : State) (pins : BitVec 8) (r : TimerRun) (cfg : Config), s.startup.phase = .running →
    s.timer.run = some r → s.config = some cfg →
    let f := r.nextNumber
    let b := s.ingest.back
    let run := min 65535 (s.wall.repeatRun + 1)
    ∃ t : State, exec (.frameEdge pins) s = .next t ∧
      t.ingest.queue =
        s.ingest.queue.filter (fun x => decide (1 ≤ (x.tag - f).toNat) && decide ((x.tag - f).toNat ≤ 255)) ∧
      t.ingest.writer = s.ingest.writer ∧
      (b.state = .complete f →
        t.wall.front = b.store ∧ t.ingest.back = BackBuffer.cleared s.wall.front ∧ t.wall.repeatRun = 0 ∧
          t.wall.held = false ∧ t.wall.repeats = s.wall.repeats ∧ t.wall.missed = s.wall.missed ∧
          t.wall.figures.last = b.figures cfg ∧ t.wall.figures.previous = s.wall.figures.last) ∧
      (b.state ≠ .complete f →
        t.wall.front = s.wall.front ∧ t.wall.repeatRun = run ∧ t.wall.repeats = min 255 (s.wall.repeats + 1) ∧
          t.wall.held = (s.wall.held || decide (cfg.holdLimit < run)) ∧
          t.wall.figures.last = s.wall.figures.last ∧ t.wall.figures.previous = s.wall.figures.last ∧
          ((b.state = .empty ∨ ∃ x, b.state.tag = some x ∧ later x f = true) →
            t.ingest.back = b ∧ t.wall.missed = s.wall.missed) ∧
          (∀ x, b.state.tag = some x → later x f = false →
            t.ingest.back = BackBuffer.cleared b.store ∧ t.wall.missed = min 255 (s.wall.missed + 1)))) ∧
    ∀ (s : State) (r : TimerRun) (cfg : Config), s.startup.phase = .running → s.timer.run = some r →
      s.config = some cfg → s.ingest.back.state ≠ .complete r.nextNumber →
      cfg.holdLimit < min 65535 (s.wall.repeatRun + 1) →
      exec .wallHeld s = .next { s with wall := { s.wall with held := true } }

/-- R90: the slots per frame of every profile of a block that passes its check lie in the set, the largest member not
above the value given, 1 for a value of 0, and the blank is at most 4095. -/
def Obligations.ProfileSlotsClamped : Prop :=
  ∀ (b : List Byte) (c : Config), judgeBlock b = .ok c → ∀ i : Fin 9,
    let m := fieldAt b (90 + 3 * i.val) 1
    let set := [1, 2, 3, 4, 5, 6, 8, 10, 12, 16]
    let p := c.profiles.get i
    p.slots ∈ set ∧ p.blank ≤ 4095 ∧ (m = 0 → p.slots = 1) ∧
      (m ≠ 0 → p.slots ≤ m ∧ ∀ x ∈ set, x ≤ m → x ≤ p.slots)

/-- R91 to R94: FRAME_EDGE sets the profile and the drive of the frame from the cameras, as the ageing of that edge
leaves them, the length of the frame, and the merged levels and the scale of the previous edge. The profile is that of
the on-air camera of lowest number, or the default; the slots fill the frame; q4 is at most the stored component, the
on-time at most the lit window, and full levels pass the component whole. That the profile is chosen from the cameras
after the ageing of that edge and before its TALLY pins, one of the orders R91 allows, is the model's choice
(notes/assumptions/7.md). -/
def Obligations.ScanStaysInItsWindow : Prop :=
  (∀ cameras : Vector Camera 8,
    ((∀ i : Fin 8, (cameras.get i).onAir = false) → chooseProfile cameras = 8) ∧
      ∀ i : Fin 8, (cameras.get i).onAir = true → (∀ j : Fin 8, j < i → (cameras.get j).onAir = false) →
        chooseProfile cameras = i.castSucc) ∧
    (∀ (p : ScanProfile) (length scale : Nat) (merged : Vector Nat 36), 0 < p.slots →
      let d := ScanDrive.form p length merged scale
      d.slotStart (p.slots - 1) + d.lastLength = length ∧ d.slotLength ≤ d.lastLength ∧
        d.lit = d.slotLength - p.blank) ∧
    (∀ (d : ScanDrive) (q : Nat) (i : Fin 3), q ≤ 4095 → d.master ≤ 65535 → d.trims.component i ≤ 65535 →
      d.scale ≤ 65535 →
      d.q4 q i ≤ q ∧ d.onTime q i ≤ d.lit ∧
        (d.master = 65535 → d.trims.component i = 65535 → d.scale = 65535 →
          d.q4 q i = q ∧ d.onTime 4095 i = d.lit) ∧
        d.onTime 0 i = 0) ∧
    ∀ (s : State) (pins : BitVec 8) (r : TimerRun) (cfg : Config), s.startup.phase = .running →
      s.timer.run = some r → s.config = some cfg → s.LabelsSound →
      let p := chooseProfile (s.agePeers cfg).triggers.cameras
      ∃ (t : State) (r' : TimerRun), exec (.frameEdge pins) s = .next t ∧ t.timer.run = some r' ∧
        t.wall.profile = some p ∧
        t.wall.drive =
          some (ScanDrive.form (cfg.profiles.get p) r'.length s.output.merged.last s.budget.scale.last)

/-! ## Show memory -/

/-- FETCH_COMPLETE and FETCH_TIMEOUT with the outcome NOT_FOUND, BAD_RECORD or TIMEOUT, at a lane that waits for it
(R120): the pending GO is dropped and the failure counted; condition, cue, levels, sources and control list stand, and
a bad record is remembered. FRAME_EDGE (R106): with no lane that takes up a record or drops a GO, and no pin that
forms a message, the wait count of every queued request rises by 1, and those that reach T_f leave the queue, counted,
their lanes taking the TIMEOUT; and with no such pin a lane whose GO lies outside the window drops it, its failure counted
and its request withdrawn (R121). FETCH_TIMEOUT acts when the count stands one short (the model's choice,
notes/assumptions/6.md), and the outcome is read from show memory at the completion (notes/assumptions/18.md). -/
def Obligations.FailedFetchDropsPendingGo : Prop :=
  (∀ (s : State) (i : Fin 4) (p : PendingGo), (s.lane i).pending = some p → p.fetch = .asked →
    let failed : Lane :=
      { s.lane i with
        pending := none
        counts := { (s.lane i).counts with failure := min 255 ((s.lane i).counts.failure + 1) } }
    let lanes := { s.lanes with lanes := s.lanes.lanes.set i.val failed i.isLt }
    failed.condition = (s.lane i).condition ∧
      (∀ q, s.dueTimeout i = some q → q.cue = p.cue → q.execute = p.execute →
        exec (.fetchTimeout i) s = .next
          { s with
            lanes := lanes
            fetch :=
              { s.fetch with
                queue := s.fetch.queue.filter fun x => decide (x.lane ≠ i)
                counters := { s.fetch.counters with timeout := min 65535 (s.fetch.counters.timeout + 1) } } }) ∧
      ∀ fl, s.fetch.flight = some fl → fl.request.lane = i → fl.request.cue = p.cue →
        fl.request.execute = p.execute →
        (fetchOutcome s.showMemory fl.request.playback fl.request.cue = .notFound →
          ∃ t : State, exec .fetchComplete s = .next t ∧ t = { s with lanes := lanes, fetch := t.fetch } ∧
            t.fetch.counters.notFound = min 65535 (s.fetch.counters.notFound + 1)) ∧
          ∀ reason, fetchOutcome s.showMemory fl.request.playback fl.request.cue = .badRecord reason →
            ∃ t : State, exec .fetchComplete s = .next t ∧ t = { s with lanes := lanes, fetch := t.fetch } ∧
              t.fetch.counters.badRecord = min 65535 (s.fetch.counters.badRecord + 1) ∧
              t.fetch.lastBad = some ⟨fl.request.playback, fl.request.cue, reason⟩) ∧
    (∀ (s : State) (pins : BitVec 8) (r : TimerRun) (cfg : Config) (i : Fin 4) (p : PendingGo),
      s.startup.phase = .running → s.timer.run = some r → s.config = some cfg → s.PortSound →
      (∀ k, (cfg.pins.get k).function = .none) → (s.lane i).pending = some p →
      tooOld p.execute r.nextNumber = true →
      ∃ t : State, exec (.frameEdge pins) s = .next t ∧ (t.lane i).pending = none ∧
        (t.lane i).counts.failure = min 255 ((s.lane i).counts.failure + 1) ∧
        (t.lane i).counts.start = (s.lane i).counts.start ∧ (∀ x ∈ t.fetch.queue, x.lane ≠ i) ∧
        ∀ fl, t.fetch.flight = some fl → fl.request.lane ≠ i) ∧
    ∀ (s : State) (pins : BitVec 8) (r : TimerRun) (cfg : Config), s.startup.phase = .running →
      s.timer.run = some r → s.config = some cfg → s.PortSound → (∀ k, (cfg.pins.get k).function = .none) →
      (∀ k p, (s.lane k).pending = some p → p.fetch = .asked ∧ tooOld p.execute r.nextNumber = false) →
      let due := s.fetch.queue.countP fun x => decide (cfg.fetchTimeout ≤ x.wait + 1)
      ∃ t : State, exec (.frameEdge pins) s = .next t ∧
        t.fetch =
          { s.fetch with
            queue :=
              (s.fetch.queue.filter fun x => decide (x.wait + 1 < cfg.fetchTimeout)).map fun x =>
                { x with wait := x.wait + 1 }
            counters :=
              { s.fetch.counters with
                timeout :=
                  if due = 0 then s.fetch.counters.timeout else min 65535 (s.fetch.counters.timeout + due) } } ∧
        ∀ x ∈ s.fetch.queue, ∀ p, (s.lane x.lane).pending = some p → x.cue = p.cue → x.execute = p.execute →
          (x.wait + 1 < cfg.fetchTimeout → (t.lane x.lane).pending = some p) ∧
            (cfg.fetchTimeout ≤ x.wait + 1 →
              (t.lane x.lane).pending = none ∧
                (t.lane x.lane).counts.failure = min 255 ((s.lane x.lane).counts.failure + 1))

/-- FETCH_COMPLETE with DONE (R103, R105, R119): the record is kept READY while its frame is to come, else for the next
edge; the port goes to the loader, to a waiting configuration read, to a request no other comes before, or to nobody. That the
outcome is read from show memory as it stands at the completion is the model's choice (notes/assumptions/18.md). -/
def Obligations.RecordFetchedAndPortGiven : Prop :=
  ∀ (s : State) (fl : Flight) (p : PendingGo) (record : CueRecord), s.fetch.flight = some fl →
    fetchOutcome s.showMemory fl.request.playback fl.request.cue = .done record →
    let i := fl.request.lane
    (s.lane i).pending = some p → p.fetch = .asked → p.cue = fl.request.cue → p.execute = fl.request.execute →
    let fetched : Lane :=
      { s.lane i with
        pending :=
          some { p with fetch := if later p.execute s.frame then .ready record else .waitEdge record } }
    ∃ t : State, exec .fetchComplete s = .next t ∧
      t =
        { s with
          lanes := { s.lanes with lanes := s.lanes.lanes.set i.val fetched i.isLt }
          fetch := t.fetch } ∧
      t.fetch.counters.done = min 65535 (s.fetch.counters.done + 1) ∧ t.fetch.lastBad = s.fetch.lastBad ∧
      (s.fetch.loaderRequest = true →
        t.fetch.port = .loader ∧ t.fetch.grant = true ∧ t.fetch.flight = none ∧ t.fetch.queue = s.fetch.queue ∧
          t.fetch.counters.grant = min 65535 (s.fetch.counters.grant + 1)) ∧
      (s.fetch.loaderRequest = false → s.startup.readAsked = true →
        t.fetch.port = .configRead ∧ t.fetch.flight = none ∧ t.fetch.queue = s.fetch.queue) ∧
      (s.fetch.loaderRequest = false → s.startup.readAsked = false →
        (s.fetch.queue = [] → t.fetch.port = .none ∧ t.fetch.flight = none) ∧
          (s.fetch.queue ≠ [] →
            ∃ x ∈ s.fetch.queue, t.fetch.port = .fetch ∧ t.fetch.flight = some ⟨x, s.tick⟩ ∧
              t.fetch.queue = s.fetch.queue.filter (fun y => decide (y.lane ≠ x.lane)) ∧
              ∀ y ∈ s.fetch.queue, y.before s.frame x = false))

/-- LOADER_REQUEST and LOADER_RELEASE (R109, R110, R113, R186): a free port goes to the loader, counted; one in use is
waited for; held in RESET the grant follows the line uncounted. The release of a grant leaves the loader's last bytes in
show memory and every other byte as it was, and a SAFE node asks for its reload; without a grant only the line drops.
The bytes arrive with the release, and the port user in RESET is LOADER while the grant follows the line (the model's
choices, notes/assumptions/18.md and notes/assumptions/25.md). Where the request has risen again by the choice of the port,
the grant is asserted anew, and counted, before the waiting read or the queue; that the command says so is the model's
choice (notes/assumptions/34.md). -/
def Obligations.LoaderGrant : Prop :=
  ∀ s : State,
    (s.startup.phase ≠ .reset → s.fetch.port = .none →
      exec .loaderRequest s = .next
        { s with
          fetch :=
            { s.fetch with
              loaderRequest := true
              port := .loader
              grant := true
              flight := none
              counters := { s.fetch.counters with grant := min 65535 (s.fetch.counters.grant + 1) } } }) ∧
      (s.startup.phase ≠ .reset → s.fetch.port ≠ .none →
        exec .loaderRequest s = .next { s with fetch := { s.fetch with loaderRequest := true } }) ∧
      (s.startup.phase = .reset →
        exec .loaderRequest s = .next
          { s with
            fetch := { s.fetch with loaderRequest := true, port := .loader, grant := true, flight := none } }) ∧
      ∀ (writes : List (Nat × Byte)) (again : Bool),
        (s.fetch.grant = false →
          (again = false →
            exec (.loaderRelease ⟨writes, again⟩) s = .next { s with fetch := { s.fetch with loaderRequest := false } }) ∧
            (again = true → exec (.loaderRelease ⟨writes, again⟩) s = exec .loaderRequest s)) ∧
          (s.fetch.grant = true → Memory.wf s.showMemory = true →
            ∃ t : State, exec (.loaderRelease ⟨writes, again⟩) s = .next t ∧
              t = { s with fetch := t.fetch, showMemory := t.showMemory, startup := t.startup } ∧
              t.fetch.loaderRequest = again ∧ t.fetch.grant = again ∧
              (again = true →
                t.fetch =
                  { s.fetch with
                    loaderRequest := true
                    port := .loader
                    flight := none
                    counters :=
                      { s.fetch.counters with
                        grant :=
                          if s.startup.phase = .reset then s.fetch.counters.grant
                          else min 65535 (s.fetch.counters.grant + 1) } }) ∧
              (∀ a, (∀ w ∈ writes, w.1 % 1048576 ≠ a % 1048576) → readShow t.showMemory a = readShow s.showMemory a) ∧
              (∀ w x y, writes = w ++ x :: y → (∀ z ∈ y, z.1 % 1048576 ≠ x.1 % 1048576) →
                readShow t.showMemory x.1 = x.2) ∧
              (s.startup.phase = .safe →
                t.startup = { s.startup with readAsked := true } ∧ (again = false → t.fetch.port = .configRead)) ∧
              (s.startup.phase ≠ .safe → t.startup = s.startup))

/-! ## Cues, levels and outputs -/

/-- The start of a cue (R122, R123, R124, R127, R130): a lane whose pending GO has its record, at or after its frame and
inside the window, takes it up at position j = F − E, starts each listed channel from the merged level, owns it, and no
other channel or lane is touched. A follow part makes a GO of kind FOLLOW pending for frame E + D + N + W with its request
handed, unless its next cue number is invalid or D + N + W exceeds 32767, which are counted; that both together raise the
invalid cue count alone is the model's choice (notes/assumptions/30.md). FRAME_EDGE does this with the merged levels and
the zone averages of the previous edge, and forms the levels of the channels by the fade at that position: where no lane
has a GO pending but this one, the control list is empty and no pin forms a message; with a non-empty control list, or
with a GO pending on another lane, nothing but the owners is stated of the edge. The follow GO made at a FRAME_EDGE
carries the number held after the number unit has worked at that edge, the number unit going before the lanes (the
model's choice, notes/assumptions/7.md). Of several lanes that start cues at one FRAME_EDGE the highest-numbered that
lists a channel is its owner after it. -/
def Obligations.CueStarts : Prop :=
  (∀ (s : State) (i : Fin 4) (f : FrameNo) (merged : Vector Nat 36) (zones : Vector Rgb 8) (p : PendingGo)
    (record : CueRecord), (s.lane i).pending = some p → (p.fetch = .ready record ∨ p.fetch = .waitEdge record) →
    later p.execute f = false → tooOld p.execute f = false →
    let t := s.startOrStep i f merged zones
    let j := (f - p.execute).toNat
    (∃ c, (t.lane i).current = some c ∧ c.record = record ∧ c.execute = p.execute ∧ c.origin = p.origin ∧
      c.position = j ∧ c.runBase = j ∧ c.running = .run ∧
      c.listed =
        record.entries.map fun e => ⟨e.channel, e.source, merged.get e.channel, e.source.target zones⟩) ∧
      (t.lane i).control = (s.lane i).control ∧
      (t.lane i).counts =
        { (s.lane i).counts with
          start := min 255 ((s.lane i).counts.start + 1)
          catchUp := if j = 0 then (s.lane i).counts.catchUp else min 255 ((s.lane i).counts.catchUp + 1) } ∧
      (∀ ch : Fin 36,
        ((∃ e ∈ record.entries, e.channel = ch) →
          t.lanes.owners.get ch = some i ∧ ((t.lane i).levels.get ch).map (fun v => v.level) = some (merged.get ch)) ∧
          ((∀ e ∈ record.entries, e.channel ≠ ch) →
            t.lanes.owners.get ch = s.lanes.owners.get ch ∧ (t.lane i).levels.get ch = (s.lane i).levels.get ch)) ∧
      (∀ k : Fin 4, k ≠ i → t.lane k = s.lane k) ∧
      (record.follow = none → (t.lane i).pending = none ∧ t.fetch = s.fetch ∧ t.lanes.counts = s.lanes.counts) ∧
      ∀ follow, record.follow = some follow →
        let span := record.delay + record.fade + follow.wait
        let invalid : Prop := follow.next = 0 ∨ follow.next = 65535
        (invalid →
          (t.lane i).pending = none ∧ t.fetch = s.fetch ∧
            t.lanes.counts = { s.lanes.counts with invalidCue := min 65535 (s.lanes.counts.invalidCue + 1) }) ∧
          (¬ invalid → 32767 < span →
            (t.lane i).pending = none ∧ t.fetch = s.fetch ∧
              t.lanes.counts = { s.lanes.counts with followRefused := min 65535 (s.lanes.counts.followRefused + 1) }) ∧
          (¬ invalid → span ≤ 32767 → t.lanes.counts = s.lanes.counts) ∧
          ∀ playback, ¬ invalid → span ≤ 32767 → (s.lane i).binding = some playback →
            let execute := p.execute + BitVec.ofNat 16 span
            let request : FetchRequest := ⟨i, playback, follow.next, execute, 0⟩
            (t.lane i).pending = some ⟨follow.next, execute, s.localOrigin, .follow, .asked⟩ ∧
              ((∀ x ∈ s.fetch.queue, x.lane ≠ i) → (∀ fl, s.fetch.flight = some fl → fl.request.lane ≠ i) →
                t.fetch =
                  if s.fetch.port = .none then { s.fetch with port := .fetch, flight := some ⟨request, s.tick⟩ }
                  else { s.fetch with queue := insertRequest s.frame request s.fetch.queue })) ∧
  (∀ (s : State) (pins : BitVec 8) (r : TimerRun) (cfg : Config) (i : Fin 4) (p : PendingGo) (record : CueRecord),
    s.startup.phase = .running → s.timer.run = some r → s.config = some cfg → s.LabelsSound →
    (∀ k, (cfg.pins.get k).function = .none) → (s.lane i).pending = some p →
    (p.fetch = .ready record ∨ p.fetch = .waitEdge record) → (∀ k, k ≠ i → (s.lane k).pending = none) →
    (s.lane i).control = [] → (record.entries.map fun e => e.channel).Nodup →
    later p.execute r.nextNumber = false → tooOld p.execute r.nextNumber = false →
    let j := (r.nextNumber - p.execute).toNat
    let merged := s.output.merged.last
    let target (e : CueEntry) : Nat := e.source.target s.wall.figures.last.zones
    let weight : Nat :=
      if j < record.delay then 0 else record.curve.weight (min record.fade (j - record.delay)) record.fade
    ∃ t : State, exec (.frameEdge pins) s = .next t ∧
      (t.lane i).current =
        some
          { record := record, execute := p.execute, origin := p.origin,
            listed := record.entries.map fun e => ⟨e.channel, e.source, merged.get e.channel, target e⟩,
            position := j, runBase := j, running := .run, settle := false } ∧
      (t.lane i).counts.start = min 255 ((s.lane i).counts.start + 1) ∧
      (∀ e ∈ record.entries,
        t.lanes.owners.get e.channel = some i ∧
          (t.lane i).levels.get e.channel =
            some ⟨fadeLevel (merged.get e.channel) (target e) weight, e.source⟩) ∧
      t.lanes.conditions.last.get i = (t.lane i).condition ∧
      (record.follow = none → (t.lane i).pending = none ∧ t.fetch.flight = s.fetch.flight) ∧
      ∀ follow playback, record.follow = some follow → follow.next ≠ 0 → follow.next ≠ 65535 →
        record.delay + record.fade + follow.wait ≤ 32767 → (s.lane i).binding = some playback →
        (∀ x ∈ s.fetch.queue, x.lane ≠ i) → (∀ fl, s.fetch.flight = some fl → fl.request.lane ≠ i) →
        let execute := p.execute + BitVec.ofNat 16 (record.delay + record.fade + follow.wait)
        let request : FetchRequest := ⟨i, playback, follow.next, execute, 0⟩
        (t.lane i).pending = some ⟨follow.next, execute, t.localOrigin, .follow, .asked⟩ ∧
          (s.fetch.port = .none → t.fetch.port = .fetch ∧ t.fetch.flight = some ⟨request, t.tick⟩) ∧
          (s.fetch.port ≠ .none →
            t.fetch.port = s.fetch.port ∧ t.fetch.flight = s.fetch.flight ∧ request ∈ t.fetch.queue)) ∧
  ∀ (s : State) (pins : BitVec 8) (r : TimerRun) (cfg : Config), s.startup.phase = .running →
    s.timer.run = some r → s.config = some cfg → (∀ k, (cfg.pins.get k).function = .none) →
    let starts (i : Fin 4) (record : CueRecord) : Prop :=
      ∃ p, (s.lane i).pending = some p ∧ (p.fetch = .ready record ∨ p.fetch = .waitEdge record) ∧
        later p.execute r.nextNumber = false ∧ tooOld p.execute r.nextNumber = false
    let lists (record : CueRecord) (ch : Fin 36) : Prop := ∃ e ∈ record.entries, e.channel = ch
    ∃ t : State, exec (.frameEdge pins) s = .next t ∧
      ∀ ch : Fin 36,
        (∀ i record, starts i record → lists record ch → (∀ k record', i < k → starts k record' → ¬ lists record' ch) →
          t.lanes.owners.get ch = some i) ∧
          ((∀ i record, starts i record → ¬ lists record ch) → t.lanes.owners.get ch = s.lanes.owners.get ch)

/-- R127, R128, R129: a fade stays between its start and its target, stands at the start with weight 0 and at the
target from progress N on, whatever the curve; a zone target is a level; a following level moves by at most its slew.
FRAME_EDGE (R122 c to e, R126, R127, R129, R131, R132), in a lane with no GO pending while no pin forms a message: the
position rises by 1 as far as D + N + 255, or, in PAUSED, the pause age as far as 255; the targets are formed afresh
from the zone averages of the previous edge; a listed channel takes the fade at the position until it has reached the
end, and in PAUSED; another channel with a zone as source follows it, and one with a fixed level stands. Of the
control list the entries for later frames stay and no others; a HOLD due alone pauses a cue short of its end with
pause age 0, a RELEASE due alone resumes one. -/
def Obligations.FadeBetweenStartAndTarget : Prop :=
  (∀ (c : Curve) (k n start target : Nat),
    let w := c.weight k n
    w ≤ 65536 ∧ min start target ≤ fadeLevel start target w ∧ fadeLevel start target w ≤ max start target ∧
      (n ≤ k → fadeLevel start target w = target) ∧ fadeLevel start target 0 = start) ∧
    (∀ k k' n : Nat, k ≤ k' → Curve.weight .linear k n ≤ Curve.weight .linear k' n) ∧
    (∀ a : Nat, a ≤ 4095 → zoneTarget a ≤ 65535) ∧ zoneTarget 4095 = 65535 ∧ zoneTarget 1650 = 26406 ∧
    (∀ level target slew : Nat,
      let v := followLevel level target slew
      (level ≤ target + slew → target ≤ level + slew → v = target) ∧
        (level + slew < target → v = level + slew) ∧ (target + slew < level → v + slew = level)) ∧
    ∀ (s : State) (pins : BitVec 8) (r : TimerRun) (cfg : Config) (i : Fin 4), s.startup.phase = .running →
      s.timer.run = some r → s.config = some cfg → (∀ k, (cfg.pins.get k).function = .none) →
      (s.lane i).pending = none →
      let zones := s.wall.figures.last.zones
      let f := r.nextNumber
      ∃ t : State, exec (.frameEdge pins) s = .next t ∧
        (∀ e, e ∈ (t.lane i).control ↔ e ∈ (s.lane i).control ∧ later e.execute f = true) ∧
        ∀ c, (s.lane i).current = some c →
          let ends := c.record.delay + c.record.fade
          let moved := min (c.position + 1) (ends + 255)
          let listed := c.listed.map fun x => { x with target := x.source.target zones }
          let weight (q : Nat) : Nat :=
            if q < c.record.delay then 0
            else c.record.curve.weight (min c.record.fade (q - c.record.delay)) c.record.fade
          let formed (q : Nat) (fades : Bool) : Prop :=
            ∀ (ch : Fin 36) (v : LaneLevel), (s.lane i).levels.get ch = some v →
              (∀ x, fades = true → listed.find? (fun x => decide (x.channel = ch)) = some x →
                (t.lane i).levels.get ch = some ⟨fadeLevel x.snapshot x.target (weight q), v.source⟩) ∧
                ((fades = false ∨ ∀ x ∈ listed, x.channel ≠ ch) →
                  (∀ l, v.source = .fixed l → (t.lane i).levels.get ch = some v) ∧
                    ∀ z k, v.source = .zone z k →
                      (t.lane i).levels.get ch =
                        some
                          ⟨followLevel v.level ((Source.zone z k).target zones) (cfg.channels.get ch).slew, v.source⟩)
          let becomes (x : CurrentCue) : Prop := (t.lane i).current = some { x with listed := listed, settle := false }
          ((s.lane i).control = [] →
            (c.running = .run →
              becomes { c with position := moved } ∧ formed moved (c.settle || decide (c.position < ends))) ∧
              ∀ age frame, c.running = .paused age frame →
                becomes { c with running := .paused (min 255 (age + 1)) frame } ∧ formed c.position true) ∧
            (∀ e, (s.lane i).control = [e] → later e.execute f = false → tooOld e.execute f = false →
              (e.kind = .hold → c.running = .run → c.position + 1 < ends →
                becomes { c with position := c.position + 1, running := .paused 0 f } ∧ formed (c.position + 1) true) ∧
                (e.kind = .hold → c.running = .run → ends ≤ moved →
                  becomes { c with position := moved } ∧
                    (t.lane i).counts.ignored = min 255 ((s.lane i).counts.ignored + 1)) ∧
                ∀ age frame, e.kind = .release → c.running = .paused age frame →
                  becomes { c with running := .run, runBase := c.position })

/-- R142, R143: an HTP channel takes the highest lane level held for it, 0 where none is; an LTP channel that of its owner
lane, 0 without one. FRAME_EDGE publishes this of the lanes as they stand after their work (R142, R144), and the blocks of
that edge read the set published before it (R145). -/
def Obligations.ChannelsMerge : Prop :=
  (∀ (e : LaneEngine) (c : Config) (ch : Fin 36),
    let level (i : Fin 4) : Nat := match (e.lanes.get i).levels.get ch with | some v => v.level | none => 0
    ((c.channels.get ch).merge = .htp →
      (∀ i : Fin 4, level i ≤ e.merged c ch) ∧ ∃ i : Fin 4, e.merged c ch = level i) ∧
      ((c.channels.get ch).merge = .ltp →
        (∀ i, e.owners.get ch = some i → e.merged c ch = level i) ∧ (e.owners.get ch = none → e.merged c ch = 0))) ∧
    ∀ (s : State) (pins : BitVec 8) (r : TimerRun) (cfg : Config), s.startup.phase = .running →
      s.timer.run = some r → s.config = some cfg →
      ∃ t : State, exec (.frameEdge pins) s = .next t ∧ t.output.merged.previous = s.output.merged.last ∧
        t.output.merged.label = t.timer.edges ∧
        ∀ ch : Fin 36, t.output.merged.last.get ch = t.lanes.merged cfg ch

/-- R150: the duty of a fixture channel, from its output level, cycle and minimum on-time, at every FRAME_EDGE: it is
floor(out × Pk / 65536), raised to the minimum, never above Pk, 0 for out = 0; without the minimum it is below Pk. -/
def Obligations.DutyOfFixture : Prop :=
  (∀ out pk least : Nat,
    let d := dutyOf out pk least
    let share := out * pk / 65536
    (out = 0 → d = 0) ∧
      (0 < out → least ≤ share → share ≤ pk → d = share) ∧ (0 < out → share < least → least ≤ pk → d = least) ∧
      (0 < out → (pk < share ∨ pk < least) → d = pk) ∧ d ≤ pk ∧
      (out ≤ 65535 → 0 < pk → dutyOf out pk 0 < pk) ∧
      (pk - dutyOf 65535 pk 0 = pk / 65536 ∨ pk - dutyOf 65535 pk 0 = (pk + 65535) / 65536)) ∧
    dutyOf 65535 135003 0 + 3 = 135003 ∧
    ∀ (s : State) (pins : BitVec 8) (r : TimerRun) (cfg : Config), s.startup.phase = .running →
      s.timer.run = some r → s.config = some cfg → s.LabelsSound →
      ∃ (t : State) (r' : TimerRun) (drive : Vector FixtureDrive 32), exec (.frameEdge pins) s = .next t ∧
        t.timer.run = some r' ∧ t.output.drive = some drive ∧
        ∀ i : Fin 32,
          let k := fixtureConfig cfg i
          let level := s.output.merged.last.get (i.castLE (by decide))
          (drive.get i).cycle = r'.length / k.cycles ∧
            (drive.get i).duty =
              dutyOf (level * (s.budget.scale.last + 1) / 65536) (r'.length / k.cycles) k.minOnTime

/-! ## The supply budget -/

/-- RAIL_SAMPLE (R158, R157): a sample below its threshold after one above it is a sag event of its rail, and no other
sample is; the two rails are judged apart; both stand above at each start. A below sample marks its frame. The scale of
the inputs and the operand `ahead` are the model's (notes/assumptions/19.md). -/
def Obligations.SagEvents : Prop :=
  (∀ (s : State) (cfg : Config) (tile fixture : Nat) (ahead : Bool), s.startup.phase = .running →
    s.config = some cfg →
    let b := s.budget
    let x : RailState := if tile * 16 < cfg.budget.tileThreshold * 65536 then .below else .above
    let y : RailState := if fixture * 16 < cfg.budget.fixtureThreshold * 65536 then .below else .above
    let low := decide (x = .below ∨ y = .below)
    exec (.railSample tile fixture ahead) s = .next
      { s with
        budget :=
          { b with
            tileRail := x
            fixtureRail := y
            frameBelow := b.frameBelow || (low && !ahead)
            nextBelow := b.nextBelow || (low && ahead)
            counts :=
              { b.counts with
                tileSag :=
                  if b.tileRail = .above ∧ x = .below then min 255 (b.counts.tileSag + 1) else b.counts.tileSag
                fixtureSag :=
                  if b.fixtureRail = .above ∧ y = .below then min 255 (b.counts.fixtureSag + 1)
                  else b.counts.fixtureSag } } }) ∧
    ∀ (s : State) (now : Stamp) (pins : BitVec 8) (c : Config), s.reading = true → s.judgeRead = .ok c →
      ∃ t : State, exec (.configReadEnd now pins) s = .next t ∧ t.budget.tileRail = .above ∧
        t.budget.fixtureRail = .above ∧ t.budget.counts.tileSag = 0 ∧ t.budget.counts.fixtureSag = 0

/-- R161, Table 10-3: the target scale, its clamp, and why it keeps the demand within the limit; at every FRAME_EDGE the
scale formed goes toward the target of that edge's demand and effective limit. -/
def Obligations.TargetScale : Prop :=
  (∀ demand limit floor : Nat, floor ≤ 65535 →
    let target := targetScale demand limit floor
    let quotient := limit * 65536 / demand
    (demand ≤ limit → target = 65535) ∧
      (limit < demand → (target : Int) = max (floor : Int) ((quotient : Int) - 1)) ∧ floor ≤ target ∧ target ≤ 65535 ∧
      (limit < demand → quotient < 65536 ∧ demand * quotient / 65536 ≤ limit)) ∧
    ∀ (s : State) (pins : BitVec 8) (r : TimerRun) (cfg : Config), s.startup.phase = .running →
      s.timer.run = some r → s.config = some cfg → s.LabelsSound →
      ∃ t : State, exec (.frameEdge pins) s = .next t ∧
        let target := targetScale t.budget.demand t.budget.effectiveLimit cfg.budget.floor
        t.budget.scale.last = (if target ≤ s.budget.scale.last then target else min target (s.budget.scale.last + 1024))

/-- FRAME_EDGE and LIMIT_STEP_UP (R159 to R164): the limit steps down after a frame with a low rail and up after a full
recovery run; the demand is that of the tile means and the merged levels of the previous edge (R155, R156); the scale
falls at once and rises by at most 1024; unless it stands at its floor, the demand scaled by it is within the limit; the
overload condition says when the floor is not enough. LIMIT_STEP_UP acts when that part is due at the edge to come, once,
and that edge then does not judge the frame again (the model's choice, notes/assumptions/6.md). -/
def Obligations.ScaleKeepsTheLimit : Prop :=
  (∀ (s : State) (cfg : Config), s.startup.phase = .running → s.config = some cfg →
    (s.ahead.limit = false → s.budget.observed = true → s.budget.frameBelow = false →
      cfg.budget.recoveryLength ≤ s.budget.recoveryRun + 1 →
      exec .limitStepUp s = .next
        { s with
          ahead := { s.ahead with limit := true }
          budget :=
            { s.budget with
              effectiveLimit := min cfg.budget.limit (s.budget.effectiveLimit + cfg.budget.limit / 32)
              recoveryRun := 0 } }) ∧
      (s.ahead.limit = true → exec .limitStepUp s = .next s)) ∧
    ∀ (s : State) (pins : BitVec 8) (r : TimerRun) (cfg : Config), s.startup.phase = .running →
      s.timer.run = some r → s.config = some cfg → s.LabelsSound →
      cfg.budget.floor ≤ s.budget.scale.last → s.budget.scale.last ≤ 65535 →
      let b := s.budget
      let level (ch : Fin 36) : Nat := s.output.merged.last.get ch
      let scaled (v level : Nat) : Nat := v * (level + 1) / 65536
      let component (mean coefficient : Nat) (trim : Fin 36) : Nat :=
        scaled (scaled mean (level 32)) (level trim) * coefficient / 4095
      let tile (m : Rgb) : Nat :=
        component m.r cfg.budget.wall.r 33 + component m.g cfg.budget.wall.g 34 + component m.b cfg.budget.wall.b 35
      let wall := ((List.finRange 4).map fun k => tile (s.wall.figures.last.tiles.get k)).sum
      let fixtures :=
        ((List.finRange 32).map fun i : Fin 32 =>
          scaled (fixtureConfig cfg i).current (level (i.castLE (by decide)))).sum
      ∃ t : State, exec (.frameEdge pins) s = .next t ∧ t.budget.demand = wall + fixtures ∧
        (s.ahead.limit = true → t.budget.effectiveLimit = b.effectiveLimit ∧ t.budget.recoveryRun = b.recoveryRun) ∧
        (b.observed = false → t.budget.effectiveLimit = b.effectiveLimit ∧ t.budget.recoveryRun = b.recoveryRun) ∧
        (s.ahead.limit = false → b.observed = true → b.frameBelow = true →
          t.budget.effectiveLimit = max cfg.budget.leastLimit (b.effectiveLimit - cfg.budget.limit / 8) ∧
            t.budget.recoveryRun = 0 ∧ t.budget.counts.stepDown = min 255 (b.counts.stepDown + 1)) ∧
        (s.ahead.limit = false → b.observed = true → b.frameBelow = false → b.recoveryRun + 1 < cfg.budget.recoveryLength →
          t.budget.effectiveLimit = b.effectiveLimit ∧ t.budget.recoveryRun = b.recoveryRun + 1) ∧
        (s.ahead.limit = false → b.observed = true → b.frameBelow = false → cfg.budget.recoveryLength ≤ b.recoveryRun + 1 →
          t.budget.effectiveLimit = min cfg.budget.limit (b.effectiveLimit + cfg.budget.limit / 32) ∧
            t.budget.recoveryRun = 0) ∧
        t.budget.observed = true ∧ t.budget.frameBelow = b.nextBelow ∧ t.budget.scale.previous = b.scale.last ∧
        cfg.budget.floor ≤ t.budget.scale.last ∧ t.budget.scale.last ≤ b.scale.last + 1024 ∧
        (t.budget.scale.last = cfg.budget.floor ∨
          t.budget.demand * (t.budget.scale.last + 1) / 65536 ≤ t.budget.effectiveLimit) ∧
        (t.budget.overload = true ↔
          t.budget.effectiveLimit < t.budget.demand * (cfg.budget.floor + 1) / 65536) ∧
        (t.budget.overload = true → t.budget.scale.last = cfg.budget.floor)

/-! ## Trigger pins and the trigger queue -/

/-- TRIGGER_QUALIFIED (R168 to R172): the pin takes its new level with a run of 0; a direction not selected forms
nothing; a HOLD or RELEASE pin, and a GO_NEXT pin whose lane, the lowest bound to its playback, is EMPTY or steps on within
range, forms one message, queued while the link and the number let it be sent, refused by a full queue, delivered to the own
lanes otherwise, which judge it by the number of that edge; a GO_NEXT pin with no lane, or past cue 65534, is counted
unresolved; a TALLY pin sets its camera and writes a TALLY. Several pins that qualify at one edge form one message each,
offered lowest pin first. The command acts when the edge to come would qualify the pin, carries the levels of that edge and
takes the samples of the pins not above it, none twice (the model's choice, notes/assumptions/6.md). FRAME_EDGE (R168 a to c)
takes the others: the first sample of a pin is its stable level; a sample equal to it sets the run count to 0; one that differs
raises it, and the one after d others makes the new level stable; the messages are offered lowest pin first behind those still
queued, a GO_NEXT pin reading its lane after the lanes have worked at that edge (the model's choice, notes/assumptions/7.md). -/
def Obligations.PinQualified : Prop :=
  (∀ (s : State) (cfg : Config) (i : Fin 8) (pins : BitVec 8) (old : Bool), s.startup.phase = .running →
    s.config = some cfg →
    let due (j : Fin 8) : Prop :=
      s.ahead.pins ≤ j.val ∧ (s.triggers.pins.get j).stable = some (!pins.getLsbD j.val) ∧
        (cfg.pins.get j).debounce ≤ (s.triggers.pins.get j).run
    let pin := cfg.pins.get i
    let selected := match pin.edge with | .rise => !old | .fall => old | .both => true
    let done := { s.ahead with pins := i.val + 1 }
    let sampled (j : Fin 8) : PinState :=
      if j = i then ⟨some (!old), 0⟩
      else if s.ahead.pins ≤ j.val ∧ j < i then
        (if (s.triggers.pins.get j).stable = some (!pins.getLsbD j.val) then
           ⟨some (!pins.getLsbD j.val), (s.triggers.pins.get j).run + 1⟩
         else ⟨some (pins.getLsbD j.val), 0⟩)
      else s.triggers.pins.get j
    let base : Triggers := { s.triggers with pins := Vector.ofFn sampled }
    let message (k : CueKind) (p : Fin 16) : CueMessage :=
      ⟨k, BitVec.ofNat 8 p.val, pin.mask, s.nextFrame + BitVec.ofNat 16 pin.lead⟩
    let formed : Triggers := { base with formed := min 65535 (base.formed + 1) }
    let sends := decide (s.link.state ≠ .detached) && s.heldNumber.isSome
    let act := exec (.triggerQualified ⟨i, pins⟩) s
    let forms (m : CueMessage) : Prop :=
      (sends = true → s.link.triggers.length < 4 →
        act = .next
          { s with ahead := done, triggers := formed, link := { s.link with triggers := s.link.triggers ++ [m] } }) ∧
        (sends = true → 4 ≤ s.link.triggers.length →
          act = .next
            { s with
              ahead := done
              triggers := formed
              link :=
                { s.link with
                  counters :=
                    { s.link.counters with triggerRefused := min 65535 (s.link.counters.triggerRefused + 1) } } }) ∧
        (sends = false →
          act = .next
            { ((({ s with
                    ahead := done
                    triggers := formed
                    link :=
                      { s.link with
                        counters :=
                          { s.link.counters with
                            unsentTrigger := min 65535 (s.link.counters.unsentTrigger + 1) } } } : State).atFrame
                s.nextFrame).deliverCue m s.localOrigin) with
              timer := s.timer })
    let unresolved : Triggers := { base with unresolved := min 65535 (base.unresolved + 1) }
    (¬ due i → act = .next s) ∧
    (due i → pins.getLsbD i.val = !old → (∀ j, j < i → ¬ due j) →
      ((selected = false ∨ pin.function = .none) → act = .next { s with ahead := done, triggers := base }) ∧
        (selected = true →
          (∀ p, pin.function = .hold p → forms (message .hold p)) ∧
            (∀ p, pin.function = .release p → forms (message .release p)) ∧
            (∀ p, pin.function = .goNext p →
              ((∀ k, (s.lane k).binding ≠ some p) → act = .next { s with ahead := done, triggers := unresolved }) ∧
                ∀ k, (s.lane k).binding = some p → (∀ j, j < k → (s.lane j).binding ≠ some p) →
                  ((s.lane k).current = none → forms (message (.go (BitVec.ofNat 16 pin.firstCue)) p)) ∧
                    ∀ c, (s.lane k).current = some c →
                      (c.record.number.toNat + pin.step ≤ 65534 →
                        forms (message (.go (BitVec.ofNat 16 (c.record.number.toNat + pin.step))) p)) ∧
                        (65534 < c.record.number.toNat + pin.step →
                          act = .next { s with ahead := done, triggers := unresolved })) ∧
            (∀ camera, pin.function = .tally camera →
              ∃ t : State, act = .next t ∧
                t = { s with ahead := done, triggers := t.triggers, link := s.link.writeTally t.triggers.report } ∧
                t.triggers =
                  { base with
                    localTally := s.triggers.localTally.set camera.val (some (!old)) camera.isLt
                    cameras := s.triggers.cameras.set camera.val ⟨!old, s.heldNumber⟩ camera.isLt })))) ∧
    (∀ (s : State) (cfg : Config) (pins : BitVec 8), s.startup.phase = .running → s.config = some cfg →
      let due (j : Fin 8) : Bool :=
        decide (s.ahead.pins ≤ j.val) && decide ((s.triggers.pins.get j).stable = some (!pins.getLsbD j.val)) &&
          decide ((cfg.pins.get j).debounce ≤ (s.triggers.pins.get j).run)
      let selected (j : Fin 8) : Bool :=
        match (cfg.pins.get j).edge with | .rise => pins.getLsbD j.val | .fall => !pins.getLsbD j.val | .both => true
      let message (f : FrameNo) (j : Fin 8) (k : CueKind) (p : Fin 16) : CueMessage :=
        ⟨k, BitVec.ofNat 8 p.val, (cfg.pins.get j).mask, f + BitVec.ofNat 16 (cfg.pins.get j).lead⟩
      let offer (x : State) (f : FrameNo) (j : Fin 8) : Option CueMessage :=
        if due j && selected j then
          match (cfg.pins.get j).function with
          | .hold p => some (message f j .hold p)
          | .release p => some (message f j .release p)
          | .goNext p =>
            ((List.finRange 4).find? fun k => decide ((x.lane k).binding = some p)).bind fun k =>
              match (x.lane k).current with
              | none => some (message f j (.go (BitVec.ofNat 16 (cfg.pins.get j).firstCue)) p)
              | some c =>
                if c.record.number.toNat + (cfg.pins.get j).step ≤ 65534 then
                  some (message f j (.go (BitVec.ofNat 16 (c.record.number.toNat + (cfg.pins.get j).step))) p)
                else none
          | _ => none
        else none
      let raised (n : Nat) : Nat :=
        if n = 0 then s.triggers.formed else min 65535 (s.triggers.formed + n)
      (∀ i : Fin 8, due i = true →
        let offered := ((List.finRange 8).filter fun j => decide (j ≤ i)).filterMap (offer s s.nextFrame)
        ∃ t : State, exec (.triggerQualified ⟨i, pins⟩) s = .next t ∧ t.ahead = { s.ahead with pins := i.val + 1 } ∧
          t.triggers.formed = raised offered.length ∧
          (s.link.state ≠ .detached → s.heldNumber.isSome = true →
            t.link.triggers = (s.link.triggers ++ offered).take (max 4 s.link.triggers.length) ∧ t.lanes = s.lanes) ∧
          ((s.link.state = .detached ∨ s.heldNumber = none) →
            t.link.triggers = s.link.triggers ∧
              t.lanes = (offered.foldl (fun x m => x.deliverCue m s.localOrigin) (s.atFrame s.nextFrame)).lanes)) ∧
      ∀ (r : TimerRun) (n : Station), s.timer.run = some r → s.link.attempt = none → s.link.state ≠ .detached →
        (s.number.numbering = .fixed n ∨ s.number.numbering = .holding n) →
        ∃ (t : State) (r' : TimerRun), exec (.frameEdge pins) s = .next t ∧ t.timer.run = some r' ∧
          let queued := s.link.triggers.filter fun m =>
            !(decide (8 ≤ (r'.frame - m.execute).toNat) && decide ((r'.frame - m.execute).toNat ≤ 32767))
          let offered := (List.finRange 8).filterMap (offer t r'.frame)
          t.triggers.formed = raised offered.length ∧
            t.link.triggers = (queued ++ offered).take (max 4 queued.length)) ∧
    ∀ (s : State) (pins : BitVec 8) (r : TimerRun) (cfg : Config), s.startup.phase = .running →
      s.timer.run = some r → s.config = some cfg →
      ∃ t : State, exec (.frameEdge pins) s = .next t ∧
        ∀ i : Fin 8,
          let p := s.triggers.pins.get i
          let q := t.triggers.pins.get i
          let level := pins.getLsbD i.val
          (i.val < s.ahead.pins → q = p) ∧
            (s.ahead.pins ≤ i.val →
              (p.stable = none → q = ⟨some level, 0⟩) ∧
                (p.stable = some level → q = ⟨some level, 0⟩) ∧
                (p.stable = some (!level) → p.run < (cfg.pins.get i).debounce → q = ⟨some (!level), p.run + 1⟩) ∧
                (p.stable = some (!level) → (cfg.pins.get i).debounce ≤ p.run → q = ⟨some level, 0⟩))

/-- STALE_BEACON (R18): an unsent SYNC that no attempt is sending is cancelled and counted. TRIGGER_EXPIRED (R19): of
the queued messages, none in transmission, those whose execute frame lies 8 or more frames before the edge due are
dropped and counted, the rest keeping their order. FRAME_EDGE does the same to the trigger queue, where no pin forms a
message. The two rows act for the edge to come (the model's choice, notes/assumptions/6.md). -/
def Obligations.LifetimesEndAtEdges : Prop :=
  ∀ (s : State) (r : TimerRun), s.timer.run = some r → s.link.attempt = none →
    (∀ b, s.link.sync = ⟨some b, none, false⟩ →
      exec .staleBeacon s = .next
        { s with
          link :=
            { s.link with
              sync := Slot.empty
              counters := { s.link.counters with stale := min 65535 (s.link.counters.stale + 1) } } }) ∧
      let expired (m : CueMessage) : Bool :=
        decide (8 ≤ (r.nextNumber - m.execute).toNat) && decide ((r.nextNumber - m.execute).toNat ≤ 32767)
      let kept := s.link.triggers.filter fun m => !expired m
      let counted := min 65535 (s.link.counters.triggerExpired + s.link.triggers.countP expired)
      exec .triggerExpired s = .next
        { s with
          link := { s.link with triggers := kept, counters := { s.link.counters with triggerExpired := counted } } } ∧
        ∀ (cfg : Config) (pins : BitVec 8), s.startup.phase = .running → s.config = some cfg →
          (∀ k, (cfg.pins.get k).function = .none) →
          ∃ t : State, exec (.frameEdge pins) s = .next t ∧ t.link.triggers = kept ∧
            t.link.counters.triggerExpired = counted

/-! ## What every step keeps -/

/-- Show memory and both pixel stores stay in canonical form; at most 8 rows wait, and none while the writer is idle
(R69, R73); TEC, REC and the trigger queue stay in their ranges (R12, R19); no published set bears a label past the last
edge (R89, R144, R164). -/
def Obligations.FormsAndBoundsKept : Prop :=
  KeptByStep State.MemorySound ∧ KeptByStep State.IngestSound ∧ KeptByStep State.LinkSound ∧ KeptByStep State.LabelsSound

/-- R1, R25: outside RUNNING the link controller holds nothing and the number unit is stopped. -/
def Obligations.HeldOutsideRunning : Prop := KeptByStep State.HeldSound

/-- R37: the peer table never holds an entry for the number the node holds. -/
def Obligations.OwnEntryStaysAbsent : Prop := KeptByStep State.OwnEntryAbsent

/-- R98, R104, R109: the grant stands exactly while the loader has the port, a fetch flies exactly while the port user is
FETCH, and no lane has two requests. For states in RESET, that the port user is LOADER exactly while the grant stands is
the model's choice (notes/assumptions/25.md): R113 gives the grant there, and the port user only at the release. -/
def Obligations.PortHasOneUser : Prop := KeptByStep State.PortSound

/-- R45, R48: the period register keeps its range, the accumulator stays below 256, and every frame lasts between P_nom/2
and 3 × P_nom/2 ticks. -/
def Obligations.FramesKeepTheirLength : Prop := KeptByStep State.TimerSound

/-- R160, R162: the effective limit stays in Lim_min to Lim and the scale in s_floor to 65535 while the part runs. -/
def Obligations.BudgetStaysInRange : Prop := KeptByStep State.BudgetSound
end

