-- ==== Sys2Proof/Laws/State.lean ====
section
/-! SUPPORT. One lemma per field per update of the state, and what the readers of a state see after an update. -/

namespace Sys2Proof.Machine

open Sys2Proof


section SetAhead

variable (s : State) (x : Ahead)

@[simp] theorem setAhead_pending : (s.setAhead x).pending = s.pending := rfl
@[simp] theorem setAhead_ahead : (s.setAhead x).ahead = x := rfl
@[simp] theorem setAhead_tick : (s.setAhead x).tick = s.tick := rfl
@[simp] theorem setAhead_serial : (s.setAhead x).serial = s.serial := rfl
@[simp] theorem setAhead_config : (s.setAhead x).config = s.config := rfl
@[simp] theorem setAhead_startup : (s.setAhead x).startup = s.startup := rfl
@[simp] theorem setAhead_link : (s.setAhead x).link = s.link := rfl
@[simp] theorem setAhead_number : (s.setAhead x).number = s.number := rfl
@[simp] theorem setAhead_peers : (s.setAhead x).peers = s.peers := rfl
@[simp] theorem setAhead_timer : (s.setAhead x).timer = s.timer := rfl
@[simp] theorem setAhead_pixelPort : (s.setAhead x).pixelPort = s.pixelPort := rfl
@[simp] theorem setAhead_ingest : (s.setAhead x).ingest = s.ingest := rfl
@[simp] theorem setAhead_wall : (s.setAhead x).wall = s.wall := rfl
@[simp] theorem setAhead_fetch : (s.setAhead x).fetch = s.fetch := rfl
@[simp] theorem setAhead_lanes : (s.setAhead x).lanes = s.lanes := rfl
@[simp] theorem setAhead_output : (s.setAhead x).output = s.output := rfl
@[simp] theorem setAhead_budget : (s.setAhead x).budget = s.budget := rfl
@[simp] theorem setAhead_triggers : (s.setAhead x).triggers = s.triggers := rfl
@[simp] theorem setAhead_report : (s.setAhead x).report = s.report := rfl
@[simp] theorem setAhead_showMemory : (s.setAhead x).showMemory = s.showMemory := rfl
@[simp] theorem setAhead_isRunning : (s.setAhead x).isRunning = s.isRunning := rfl
@[simp] theorem setAhead_linkHeld : (s.setAhead x).linkHeld = s.linkHeld := rfl
@[simp] theorem setAhead_heldNumber : (s.setAhead x).heldNumber = s.heldNumber := rfl
@[simp] theorem setAhead_frame : (s.setAhead x).frame = s.frame := rfl
@[simp] theorem setAhead_localOrigin : (s.setAhead x).localOrigin = s.localOrigin := rfl
@[simp] theorem setAhead_same : s.setAhead s.ahead = s := rfl
@[simp] theorem setAhead_setAhead (y : Ahead) : (s.setAhead x).setAhead y = s.setAhead y := rfl

end SetAhead

section SetTick

variable (s : State) (x : Stamp)

@[simp] theorem setTick_pending : (s.setTick x).pending = s.pending := rfl
@[simp] theorem setTick_ahead : (s.setTick x).ahead = s.ahead := rfl
@[simp] theorem setTick_tick : (s.setTick x).tick = x := rfl
@[simp] theorem setTick_serial : (s.setTick x).serial = s.serial := rfl
@[simp] theorem setTick_config : (s.setTick x).config = s.config := rfl
@[simp] theorem setTick_startup : (s.setTick x).startup = s.startup := rfl
@[simp] theorem setTick_link : (s.setTick x).link = s.link := rfl
@[simp] theorem setTick_number : (s.setTick x).number = s.number := rfl
@[simp] theorem setTick_peers : (s.setTick x).peers = s.peers := rfl
@[simp] theorem setTick_timer : (s.setTick x).timer = s.timer := rfl
@[simp] theorem setTick_pixelPort : (s.setTick x).pixelPort = s.pixelPort := rfl
@[simp] theorem setTick_ingest : (s.setTick x).ingest = s.ingest := rfl
@[simp] theorem setTick_wall : (s.setTick x).wall = s.wall := rfl
@[simp] theorem setTick_fetch : (s.setTick x).fetch = s.fetch := rfl
@[simp] theorem setTick_lanes : (s.setTick x).lanes = s.lanes := rfl
@[simp] theorem setTick_output : (s.setTick x).output = s.output := rfl
@[simp] theorem setTick_budget : (s.setTick x).budget = s.budget := rfl
@[simp] theorem setTick_triggers : (s.setTick x).triggers = s.triggers := rfl
@[simp] theorem setTick_report : (s.setTick x).report = s.report := rfl
@[simp] theorem setTick_showMemory : (s.setTick x).showMemory = s.showMemory := rfl
@[simp] theorem setTick_isRunning : (s.setTick x).isRunning = s.isRunning := rfl
@[simp] theorem setTick_linkHeld : (s.setTick x).linkHeld = s.linkHeld := rfl
@[simp] theorem setTick_heldNumber : (s.setTick x).heldNumber = s.heldNumber := rfl
@[simp] theorem setTick_frame : (s.setTick x).frame = s.frame := rfl
@[simp] theorem setTick_localOrigin : (s.setTick x).localOrigin = s.localOrigin := rfl
@[simp] theorem setTick_same : s.setTick s.tick = s := rfl
@[simp] theorem setTick_setTick (y : Stamp) : (s.setTick x).setTick y = s.setTick y := rfl

end SetTick

section SetConfig

variable (s : State) (x : Option Config)

@[simp] theorem setConfig_pending : (s.setConfig x).pending = s.pending := rfl
@[simp] theorem setConfig_ahead : (s.setConfig x).ahead = s.ahead := rfl
@[simp] theorem setConfig_tick : (s.setConfig x).tick = s.tick := rfl
@[simp] theorem setConfig_serial : (s.setConfig x).serial = s.serial := rfl
@[simp] theorem setConfig_config : (s.setConfig x).config = x := rfl
@[simp] theorem setConfig_startup : (s.setConfig x).startup = s.startup := rfl
@[simp] theorem setConfig_link : (s.setConfig x).link = s.link := rfl
@[simp] theorem setConfig_number : (s.setConfig x).number = s.number := rfl
@[simp] theorem setConfig_peers : (s.setConfig x).peers = s.peers := rfl
@[simp] theorem setConfig_timer : (s.setConfig x).timer = s.timer := rfl
@[simp] theorem setConfig_pixelPort : (s.setConfig x).pixelPort = s.pixelPort := rfl
@[simp] theorem setConfig_ingest : (s.setConfig x).ingest = s.ingest := rfl
@[simp] theorem setConfig_wall : (s.setConfig x).wall = s.wall := rfl
@[simp] theorem setConfig_fetch : (s.setConfig x).fetch = s.fetch := rfl
@[simp] theorem setConfig_lanes : (s.setConfig x).lanes = s.lanes := rfl
@[simp] theorem setConfig_output : (s.setConfig x).output = s.output := rfl
@[simp] theorem setConfig_budget : (s.setConfig x).budget = s.budget := rfl
@[simp] theorem setConfig_triggers : (s.setConfig x).triggers = s.triggers := rfl
@[simp] theorem setConfig_report : (s.setConfig x).report = s.report := rfl
@[simp] theorem setConfig_showMemory : (s.setConfig x).showMemory = s.showMemory := rfl
@[simp] theorem setConfig_isRunning : (s.setConfig x).isRunning = s.isRunning := rfl
@[simp] theorem setConfig_linkHeld : (s.setConfig x).linkHeld = s.linkHeld := rfl
@[simp] theorem setConfig_heldNumber : (s.setConfig x).heldNumber = s.heldNumber := rfl
@[simp] theorem setConfig_frame : (s.setConfig x).frame = s.frame := rfl
@[simp] theorem setConfig_localOrigin : (s.setConfig x).localOrigin = s.localOrigin := rfl
@[simp] theorem setConfig_same : s.setConfig s.config = s := rfl
@[simp] theorem setConfig_setConfig (y : Option Config) : (s.setConfig x).setConfig y = s.setConfig y := rfl

end SetConfig

section SetStartup

variable (s : State) (x : Startup)

@[simp] theorem setStartup_pending : (s.setStartup x).pending = s.pending := rfl
@[simp] theorem setStartup_ahead : (s.setStartup x).ahead = s.ahead := rfl
@[simp] theorem setStartup_tick : (s.setStartup x).tick = s.tick := rfl
@[simp] theorem setStartup_serial : (s.setStartup x).serial = s.serial := rfl
@[simp] theorem setStartup_config : (s.setStartup x).config = s.config := rfl
@[simp] theorem setStartup_startup : (s.setStartup x).startup = x := rfl
@[simp] theorem setStartup_link : (s.setStartup x).link = s.link := rfl
@[simp] theorem setStartup_number : (s.setStartup x).number = s.number := rfl
@[simp] theorem setStartup_peers : (s.setStartup x).peers = s.peers := rfl
@[simp] theorem setStartup_timer : (s.setStartup x).timer = s.timer := rfl
@[simp] theorem setStartup_pixelPort : (s.setStartup x).pixelPort = s.pixelPort := rfl
@[simp] theorem setStartup_ingest : (s.setStartup x).ingest = s.ingest := rfl
@[simp] theorem setStartup_wall : (s.setStartup x).wall = s.wall := rfl
@[simp] theorem setStartup_fetch : (s.setStartup x).fetch = s.fetch := rfl
@[simp] theorem setStartup_lanes : (s.setStartup x).lanes = s.lanes := rfl
@[simp] theorem setStartup_output : (s.setStartup x).output = s.output := rfl
@[simp] theorem setStartup_budget : (s.setStartup x).budget = s.budget := rfl
@[simp] theorem setStartup_triggers : (s.setStartup x).triggers = s.triggers := rfl
@[simp] theorem setStartup_report : (s.setStartup x).report = s.report := rfl
@[simp] theorem setStartup_showMemory : (s.setStartup x).showMemory = s.showMemory := rfl
@[simp] theorem setStartup_heldNumber : (s.setStartup x).heldNumber = s.heldNumber := rfl
@[simp] theorem setStartup_frame : (s.setStartup x).frame = s.frame := rfl
@[simp] theorem setStartup_localOrigin : (s.setStartup x).localOrigin = s.localOrigin := rfl
@[simp] theorem setStartup_same : s.setStartup s.startup = s := rfl
@[simp] theorem setStartup_setStartup (y : Startup) : (s.setStartup x).setStartup y = s.setStartup y := rfl

end SetStartup

section SetLink

variable (s : State) (x : Link)

@[simp] theorem setLink_pending : (s.setLink x).pending = s.pending := rfl
@[simp] theorem setLink_ahead : (s.setLink x).ahead = s.ahead := rfl
@[simp] theorem setLink_tick : (s.setLink x).tick = s.tick := rfl
@[simp] theorem setLink_serial : (s.setLink x).serial = s.serial := rfl
@[simp] theorem setLink_config : (s.setLink x).config = s.config := rfl
@[simp] theorem setLink_startup : (s.setLink x).startup = s.startup := rfl
@[simp] theorem setLink_link : (s.setLink x).link = x := rfl
@[simp] theorem setLink_number : (s.setLink x).number = s.number := rfl
@[simp] theorem setLink_peers : (s.setLink x).peers = s.peers := rfl
@[simp] theorem setLink_timer : (s.setLink x).timer = s.timer := rfl
@[simp] theorem setLink_pixelPort : (s.setLink x).pixelPort = s.pixelPort := rfl
@[simp] theorem setLink_ingest : (s.setLink x).ingest = s.ingest := rfl
@[simp] theorem setLink_wall : (s.setLink x).wall = s.wall := rfl
@[simp] theorem setLink_fetch : (s.setLink x).fetch = s.fetch := rfl
@[simp] theorem setLink_lanes : (s.setLink x).lanes = s.lanes := rfl
@[simp] theorem setLink_output : (s.setLink x).output = s.output := rfl
@[simp] theorem setLink_budget : (s.setLink x).budget = s.budget := rfl
@[simp] theorem setLink_triggers : (s.setLink x).triggers = s.triggers := rfl
@[simp] theorem setLink_report : (s.setLink x).report = s.report := rfl
@[simp] theorem setLink_showMemory : (s.setLink x).showMemory = s.showMemory := rfl
@[simp] theorem setLink_isRunning : (s.setLink x).isRunning = s.isRunning := rfl
@[simp] theorem setLink_linkHeld : (s.setLink x).linkHeld = s.linkHeld := rfl
@[simp] theorem setLink_heldNumber : (s.setLink x).heldNumber = s.heldNumber := rfl
@[simp] theorem setLink_frame : (s.setLink x).frame = s.frame := rfl
@[simp] theorem setLink_localOrigin : (s.setLink x).localOrigin = s.localOrigin := rfl
@[simp] theorem setLink_same : s.setLink s.link = s := rfl
@[simp] theorem setLink_setLink (y : Link) : (s.setLink x).setLink y = s.setLink y := rfl

end SetLink

section SetNumber

variable (s : State) (x : NumberUnit)

@[simp] theorem setNumber_pending : (s.setNumber x).pending = s.pending := rfl
@[simp] theorem setNumber_ahead : (s.setNumber x).ahead = s.ahead := rfl
@[simp] theorem setNumber_tick : (s.setNumber x).tick = s.tick := rfl
@[simp] theorem setNumber_serial : (s.setNumber x).serial = s.serial := rfl
@[simp] theorem setNumber_config : (s.setNumber x).config = s.config := rfl
@[simp] theorem setNumber_startup : (s.setNumber x).startup = s.startup := rfl
@[simp] theorem setNumber_link : (s.setNumber x).link = s.link := rfl
@[simp] theorem setNumber_number : (s.setNumber x).number = x := rfl
@[simp] theorem setNumber_peers : (s.setNumber x).peers = s.peers := rfl
@[simp] theorem setNumber_timer : (s.setNumber x).timer = s.timer := rfl
@[simp] theorem setNumber_pixelPort : (s.setNumber x).pixelPort = s.pixelPort := rfl
@[simp] theorem setNumber_ingest : (s.setNumber x).ingest = s.ingest := rfl
@[simp] theorem setNumber_wall : (s.setNumber x).wall = s.wall := rfl
@[simp] theorem setNumber_fetch : (s.setNumber x).fetch = s.fetch := rfl
@[simp] theorem setNumber_lanes : (s.setNumber x).lanes = s.lanes := rfl
@[simp] theorem setNumber_output : (s.setNumber x).output = s.output := rfl
@[simp] theorem setNumber_budget : (s.setNumber x).budget = s.budget := rfl
@[simp] theorem setNumber_triggers : (s.setNumber x).triggers = s.triggers := rfl
@[simp] theorem setNumber_report : (s.setNumber x).report = s.report := rfl
@[simp] theorem setNumber_showMemory : (s.setNumber x).showMemory = s.showMemory := rfl
@[simp] theorem setNumber_isRunning : (s.setNumber x).isRunning = s.isRunning := rfl
@[simp] theorem setNumber_linkHeld : (s.setNumber x).linkHeld = s.linkHeld := rfl
@[simp] theorem setNumber_frame : (s.setNumber x).frame = s.frame := rfl
@[simp] theorem setNumber_same : s.setNumber s.number = s := rfl
@[simp] theorem setNumber_setNumber (y : NumberUnit) : (s.setNumber x).setNumber y = s.setNumber y := rfl

end SetNumber

section SetPeers

variable (s : State) (x : Vector (Option Peer) 64)

@[simp] theorem setPeers_pending : (s.setPeers x).pending = s.pending := rfl
@[simp] theorem setPeers_ahead : (s.setPeers x).ahead = s.ahead := rfl
@[simp] theorem setPeers_tick : (s.setPeers x).tick = s.tick := rfl
@[simp] theorem setPeers_serial : (s.setPeers x).serial = s.serial := rfl
@[simp] theorem setPeers_config : (s.setPeers x).config = s.config := rfl
@[simp] theorem setPeers_startup : (s.setPeers x).startup = s.startup := rfl
@[simp] theorem setPeers_link : (s.setPeers x).link = s.link := rfl
@[simp] theorem setPeers_number : (s.setPeers x).number = s.number := rfl
@[simp] theorem setPeers_peers : (s.setPeers x).peers = x := rfl
@[simp] theorem setPeers_timer : (s.setPeers x).timer = s.timer := rfl
@[simp] theorem setPeers_pixelPort : (s.setPeers x).pixelPort = s.pixelPort := rfl
@[simp] theorem setPeers_ingest : (s.setPeers x).ingest = s.ingest := rfl
@[simp] theorem setPeers_wall : (s.setPeers x).wall = s.wall := rfl
@[simp] theorem setPeers_fetch : (s.setPeers x).fetch = s.fetch := rfl
@[simp] theorem setPeers_lanes : (s.setPeers x).lanes = s.lanes := rfl
@[simp] theorem setPeers_output : (s.setPeers x).output = s.output := rfl
@[simp] theorem setPeers_budget : (s.setPeers x).budget = s.budget := rfl
@[simp] theorem setPeers_triggers : (s.setPeers x).triggers = s.triggers := rfl
@[simp] theorem setPeers_report : (s.setPeers x).report = s.report := rfl
@[simp] theorem setPeers_showMemory : (s.setPeers x).showMemory = s.showMemory := rfl
@[simp] theorem setPeers_isRunning : (s.setPeers x).isRunning = s.isRunning := rfl
@[simp] theorem setPeers_linkHeld : (s.setPeers x).linkHeld = s.linkHeld := rfl
@[simp] theorem setPeers_heldNumber : (s.setPeers x).heldNumber = s.heldNumber := rfl
@[simp] theorem setPeers_frame : (s.setPeers x).frame = s.frame := rfl
@[simp] theorem setPeers_localOrigin : (s.setPeers x).localOrigin = s.localOrigin := rfl
@[simp] theorem setPeers_same : s.setPeers s.peers = s := rfl
@[simp] theorem setPeers_setPeers (y : Vector (Option Peer) 64) : (s.setPeers x).setPeers y = s.setPeers y := rfl

end SetPeers

section SetTimer

variable (s : State) (x : FrameTimer)

@[simp] theorem setTimer_pending : (s.setTimer x).pending = s.pending := rfl
@[simp] theorem setTimer_ahead : (s.setTimer x).ahead = s.ahead := rfl
@[simp] theorem setTimer_tick : (s.setTimer x).tick = s.tick := rfl
@[simp] theorem setTimer_serial : (s.setTimer x).serial = s.serial := rfl
@[simp] theorem setTimer_config : (s.setTimer x).config = s.config := rfl
@[simp] theorem setTimer_startup : (s.setTimer x).startup = s.startup := rfl
@[simp] theorem setTimer_link : (s.setTimer x).link = s.link := rfl
@[simp] theorem setTimer_number : (s.setTimer x).number = s.number := rfl
@[simp] theorem setTimer_peers : (s.setTimer x).peers = s.peers := rfl
@[simp] theorem setTimer_timer : (s.setTimer x).timer = x := rfl
@[simp] theorem setTimer_pixelPort : (s.setTimer x).pixelPort = s.pixelPort := rfl
@[simp] theorem setTimer_ingest : (s.setTimer x).ingest = s.ingest := rfl
@[simp] theorem setTimer_wall : (s.setTimer x).wall = s.wall := rfl
@[simp] theorem setTimer_fetch : (s.setTimer x).fetch = s.fetch := rfl
@[simp] theorem setTimer_lanes : (s.setTimer x).lanes = s.lanes := rfl
@[simp] theorem setTimer_output : (s.setTimer x).output = s.output := rfl
@[simp] theorem setTimer_budget : (s.setTimer x).budget = s.budget := rfl
@[simp] theorem setTimer_triggers : (s.setTimer x).triggers = s.triggers := rfl
@[simp] theorem setTimer_report : (s.setTimer x).report = s.report := rfl
@[simp] theorem setTimer_showMemory : (s.setTimer x).showMemory = s.showMemory := rfl
@[simp] theorem setTimer_isRunning : (s.setTimer x).isRunning = s.isRunning := rfl
@[simp] theorem setTimer_linkHeld : (s.setTimer x).linkHeld = s.linkHeld := rfl
@[simp] theorem setTimer_heldNumber : (s.setTimer x).heldNumber = s.heldNumber := rfl
@[simp] theorem setTimer_localOrigin : (s.setTimer x).localOrigin = s.localOrigin := rfl
@[simp] theorem setTimer_same : s.setTimer s.timer = s := rfl
@[simp] theorem setTimer_setTimer (y : FrameTimer) : (s.setTimer x).setTimer y = s.setTimer y := rfl

end SetTimer

section SetPixelPort

variable (s : State) (x : PixelPort)

@[simp] theorem setPixelPort_pending : (s.setPixelPort x).pending = s.pending := rfl
@[simp] theorem setPixelPort_ahead : (s.setPixelPort x).ahead = s.ahead := rfl
@[simp] theorem setPixelPort_tick : (s.setPixelPort x).tick = s.tick := rfl
@[simp] theorem setPixelPort_serial : (s.setPixelPort x).serial = s.serial := rfl
@[simp] theorem setPixelPort_config : (s.setPixelPort x).config = s.config := rfl
@[simp] theorem setPixelPort_startup : (s.setPixelPort x).startup = s.startup := rfl
@[simp] theorem setPixelPort_link : (s.setPixelPort x).link = s.link := rfl
@[simp] theorem setPixelPort_number : (s.setPixelPort x).number = s.number := rfl
@[simp] theorem setPixelPort_peers : (s.setPixelPort x).peers = s.peers := rfl
@[simp] theorem setPixelPort_timer : (s.setPixelPort x).timer = s.timer := rfl
@[simp] theorem setPixelPort_pixelPort : (s.setPixelPort x).pixelPort = x := rfl
@[simp] theorem setPixelPort_ingest : (s.setPixelPort x).ingest = s.ingest := rfl
@[simp] theorem setPixelPort_wall : (s.setPixelPort x).wall = s.wall := rfl
@[simp] theorem setPixelPort_fetch : (s.setPixelPort x).fetch = s.fetch := rfl
@[simp] theorem setPixelPort_lanes : (s.setPixelPort x).lanes = s.lanes := rfl
@[simp] theorem setPixelPort_output : (s.setPixelPort x).output = s.output := rfl
@[simp] theorem setPixelPort_budget : (s.setPixelPort x).budget = s.budget := rfl
@[simp] theorem setPixelPort_triggers : (s.setPixelPort x).triggers = s.triggers := rfl
@[simp] theorem setPixelPort_report : (s.setPixelPort x).report = s.report := rfl
@[simp] theorem setPixelPort_showMemory : (s.setPixelPort x).showMemory = s.showMemory := rfl
@[simp] theorem setPixelPort_isRunning : (s.setPixelPort x).isRunning = s.isRunning := rfl
@[simp] theorem setPixelPort_linkHeld : (s.setPixelPort x).linkHeld = s.linkHeld := rfl
@[simp] theorem setPixelPort_heldNumber : (s.setPixelPort x).heldNumber = s.heldNumber := rfl
@[simp] theorem setPixelPort_frame : (s.setPixelPort x).frame = s.frame := rfl
@[simp] theorem setPixelPort_localOrigin : (s.setPixelPort x).localOrigin = s.localOrigin := rfl
@[simp] theorem setPixelPort_same : s.setPixelPort s.pixelPort = s := rfl
@[simp] theorem setPixelPort_setPixelPort (y : PixelPort) : (s.setPixelPort x).setPixelPort y = s.setPixelPort y := rfl

end SetPixelPort

section SetIngest

variable (s : State) (x : Ingest)

@[simp] theorem setIngest_pending : (s.setIngest x).pending = s.pending := rfl
@[simp] theorem setIngest_ahead : (s.setIngest x).ahead = s.ahead := rfl
@[simp] theorem setIngest_tick : (s.setIngest x).tick = s.tick := rfl
@[simp] theorem setIngest_serial : (s.setIngest x).serial = s.serial := rfl
@[simp] theorem setIngest_config : (s.setIngest x).config = s.config := rfl
@[simp] theorem setIngest_startup : (s.setIngest x).startup = s.startup := rfl
@[simp] theorem setIngest_link : (s.setIngest x).link = s.link := rfl
@[simp] theorem setIngest_number : (s.setIngest x).number = s.number := rfl
@[simp] theorem setIngest_peers : (s.setIngest x).peers = s.peers := rfl
@[simp] theorem setIngest_timer : (s.setIngest x).timer = s.timer := rfl
@[simp] theorem setIngest_pixelPort : (s.setIngest x).pixelPort = s.pixelPort := rfl
@[simp] theorem setIngest_ingest : (s.setIngest x).ingest = x := rfl
@[simp] theorem setIngest_wall : (s.setIngest x).wall = s.wall := rfl
@[simp] theorem setIngest_fetch : (s.setIngest x).fetch = s.fetch := rfl
@[simp] theorem setIngest_lanes : (s.setIngest x).lanes = s.lanes := rfl
@[simp] theorem setIngest_output : (s.setIngest x).output = s.output := rfl
@[simp] theorem setIngest_budget : (s.setIngest x).budget = s.budget := rfl
@[simp] theorem setIngest_triggers : (s.setIngest x).triggers = s.triggers := rfl
@[simp] theorem setIngest_report : (s.setIngest x).report = s.report := rfl
@[simp] theorem setIngest_showMemory : (s.setIngest x).showMemory = s.showMemory := rfl
@[simp] theorem setIngest_isRunning : (s.setIngest x).isRunning = s.isRunning := rfl
@[simp] theorem setIngest_linkHeld : (s.setIngest x).linkHeld = s.linkHeld := rfl
@[simp] theorem setIngest_heldNumber : (s.setIngest x).heldNumber = s.heldNumber := rfl
@[simp] theorem setIngest_frame : (s.setIngest x).frame = s.frame := rfl
@[simp] theorem setIngest_localOrigin : (s.setIngest x).localOrigin = s.localOrigin := rfl
@[simp] theorem setIngest_same : s.setIngest s.ingest = s := rfl
@[simp] theorem setIngest_setIngest (y : Ingest) : (s.setIngest x).setIngest y = s.setIngest y := rfl

end SetIngest

section SetWall

variable (s : State) (x : Wall)

@[simp] theorem setWall_pending : (s.setWall x).pending = s.pending := rfl
@[simp] theorem setWall_ahead : (s.setWall x).ahead = s.ahead := rfl
@[simp] theorem setWall_tick : (s.setWall x).tick = s.tick := rfl
@[simp] theorem setWall_serial : (s.setWall x).serial = s.serial := rfl
@[simp] theorem setWall_config : (s.setWall x).config = s.config := rfl
@[simp] theorem setWall_startup : (s.setWall x).startup = s.startup := rfl
@[simp] theorem setWall_link : (s.setWall x).link = s.link := rfl
@[simp] theorem setWall_number : (s.setWall x).number = s.number := rfl
@[simp] theorem setWall_peers : (s.setWall x).peers = s.peers := rfl
@[simp] theorem setWall_timer : (s.setWall x).timer = s.timer := rfl
@[simp] theorem setWall_pixelPort : (s.setWall x).pixelPort = s.pixelPort := rfl
@[simp] theorem setWall_ingest : (s.setWall x).ingest = s.ingest := rfl
@[simp] theorem setWall_wall : (s.setWall x).wall = x := rfl
@[simp] theorem setWall_fetch : (s.setWall x).fetch = s.fetch := rfl
@[simp] theorem setWall_lanes : (s.setWall x).lanes = s.lanes := rfl
@[simp] theorem setWall_output : (s.setWall x).output = s.output := rfl
@[simp] theorem setWall_budget : (s.setWall x).budget = s.budget := rfl
@[simp] theorem setWall_triggers : (s.setWall x).triggers = s.triggers := rfl
@[simp] theorem setWall_report : (s.setWall x).report = s.report := rfl
@[simp] theorem setWall_showMemory : (s.setWall x).showMemory = s.showMemory := rfl
@[simp] theorem setWall_isRunning : (s.setWall x).isRunning = s.isRunning := rfl
@[simp] theorem setWall_linkHeld : (s.setWall x).linkHeld = s.linkHeld := rfl
@[simp] theorem setWall_heldNumber : (s.setWall x).heldNumber = s.heldNumber := rfl
@[simp] theorem setWall_frame : (s.setWall x).frame = s.frame := rfl
@[simp] theorem setWall_localOrigin : (s.setWall x).localOrigin = s.localOrigin := rfl
@[simp] theorem setWall_same : s.setWall s.wall = s := rfl
@[simp] theorem setWall_setWall (y : Wall) : (s.setWall x).setWall y = s.setWall y := rfl

end SetWall

section SetFetch

variable (s : State) (x : Fetch)

@[simp] theorem setFetch_pending : (s.setFetch x).pending = s.pending := rfl
@[simp] theorem setFetch_ahead : (s.setFetch x).ahead = s.ahead := rfl
@[simp] theorem setFetch_tick : (s.setFetch x).tick = s.tick := rfl
@[simp] theorem setFetch_serial : (s.setFetch x).serial = s.serial := rfl
@[simp] theorem setFetch_config : (s.setFetch x).config = s.config := rfl
@[simp] theorem setFetch_startup : (s.setFetch x).startup = s.startup := rfl
@[simp] theorem setFetch_link : (s.setFetch x).link = s.link := rfl
@[simp] theorem setFetch_number : (s.setFetch x).number = s.number := rfl
@[simp] theorem setFetch_peers : (s.setFetch x).peers = s.peers := rfl
@[simp] theorem setFetch_timer : (s.setFetch x).timer = s.timer := rfl
@[simp] theorem setFetch_pixelPort : (s.setFetch x).pixelPort = s.pixelPort := rfl
@[simp] theorem setFetch_ingest : (s.setFetch x).ingest = s.ingest := rfl
@[simp] theorem setFetch_wall : (s.setFetch x).wall = s.wall := rfl
@[simp] theorem setFetch_fetch : (s.setFetch x).fetch = x := rfl
@[simp] theorem setFetch_lanes : (s.setFetch x).lanes = s.lanes := rfl
@[simp] theorem setFetch_output : (s.setFetch x).output = s.output := rfl
@[simp] theorem setFetch_budget : (s.setFetch x).budget = s.budget := rfl
@[simp] theorem setFetch_triggers : (s.setFetch x).triggers = s.triggers := rfl
@[simp] theorem setFetch_report : (s.setFetch x).report = s.report := rfl
@[simp] theorem setFetch_showMemory : (s.setFetch x).showMemory = s.showMemory := rfl
@[simp] theorem setFetch_isRunning : (s.setFetch x).isRunning = s.isRunning := rfl
@[simp] theorem setFetch_linkHeld : (s.setFetch x).linkHeld = s.linkHeld := rfl
@[simp] theorem setFetch_heldNumber : (s.setFetch x).heldNumber = s.heldNumber := rfl
@[simp] theorem setFetch_frame : (s.setFetch x).frame = s.frame := rfl
@[simp] theorem setFetch_localOrigin : (s.setFetch x).localOrigin = s.localOrigin := rfl
@[simp] theorem setFetch_same : s.setFetch s.fetch = s := rfl
@[simp] theorem setFetch_setFetch (y : Fetch) : (s.setFetch x).setFetch y = s.setFetch y := rfl

end SetFetch

section SetLanes

variable (s : State) (x : LaneEngine)

@[simp] theorem setLanes_pending : (s.setLanes x).pending = s.pending := rfl
@[simp] theorem setLanes_ahead : (s.setLanes x).ahead = s.ahead := rfl
@[simp] theorem setLanes_tick : (s.setLanes x).tick = s.tick := rfl
@[simp] theorem setLanes_serial : (s.setLanes x).serial = s.serial := rfl
@[simp] theorem setLanes_config : (s.setLanes x).config = s.config := rfl
@[simp] theorem setLanes_startup : (s.setLanes x).startup = s.startup := rfl
@[simp] theorem setLanes_link : (s.setLanes x).link = s.link := rfl
@[simp] theorem setLanes_number : (s.setLanes x).number = s.number := rfl
@[simp] theorem setLanes_peers : (s.setLanes x).peers = s.peers := rfl
@[simp] theorem setLanes_timer : (s.setLanes x).timer = s.timer := rfl
@[simp] theorem setLanes_pixelPort : (s.setLanes x).pixelPort = s.pixelPort := rfl
@[simp] theorem setLanes_ingest : (s.setLanes x).ingest = s.ingest := rfl
@[simp] theorem setLanes_wall : (s.setLanes x).wall = s.wall := rfl
@[simp] theorem setLanes_fetch : (s.setLanes x).fetch = s.fetch := rfl
@[simp] theorem setLanes_lanes : (s.setLanes x).lanes = x := rfl
@[simp] theorem setLanes_output : (s.setLanes x).output = s.output := rfl
@[simp] theorem setLanes_budget : (s.setLanes x).budget = s.budget := rfl
@[simp] theorem setLanes_triggers : (s.setLanes x).triggers = s.triggers := rfl
@[simp] theorem setLanes_report : (s.setLanes x).report = s.report := rfl
@[simp] theorem setLanes_showMemory : (s.setLanes x).showMemory = s.showMemory := rfl
@[simp] theorem setLanes_isRunning : (s.setLanes x).isRunning = s.isRunning := rfl
@[simp] theorem setLanes_linkHeld : (s.setLanes x).linkHeld = s.linkHeld := rfl
@[simp] theorem setLanes_heldNumber : (s.setLanes x).heldNumber = s.heldNumber := rfl
@[simp] theorem setLanes_frame : (s.setLanes x).frame = s.frame := rfl
@[simp] theorem setLanes_localOrigin : (s.setLanes x).localOrigin = s.localOrigin := rfl
@[simp] theorem setLanes_same : s.setLanes s.lanes = s := rfl
@[simp] theorem setLanes_setLanes (y : LaneEngine) : (s.setLanes x).setLanes y = s.setLanes y := rfl

end SetLanes

section SetOutput

variable (s : State) (x : OutputStage)

@[simp] theorem setOutput_pending : (s.setOutput x).pending = s.pending := rfl
@[simp] theorem setOutput_ahead : (s.setOutput x).ahead = s.ahead := rfl
@[simp] theorem setOutput_tick : (s.setOutput x).tick = s.tick := rfl
@[simp] theorem setOutput_serial : (s.setOutput x).serial = s.serial := rfl
@[simp] theorem setOutput_config : (s.setOutput x).config = s.config := rfl
@[simp] theorem setOutput_startup : (s.setOutput x).startup = s.startup := rfl
@[simp] theorem setOutput_link : (s.setOutput x).link = s.link := rfl
@[simp] theorem setOutput_number : (s.setOutput x).number = s.number := rfl
@[simp] theorem setOutput_peers : (s.setOutput x).peers = s.peers := rfl
@[simp] theorem setOutput_timer : (s.setOutput x).timer = s.timer := rfl
@[simp] theorem setOutput_pixelPort : (s.setOutput x).pixelPort = s.pixelPort := rfl
@[simp] theorem setOutput_ingest : (s.setOutput x).ingest = s.ingest := rfl
@[simp] theorem setOutput_wall : (s.setOutput x).wall = s.wall := rfl
@[simp] theorem setOutput_fetch : (s.setOutput x).fetch = s.fetch := rfl
@[simp] theorem setOutput_lanes : (s.setOutput x).lanes = s.lanes := rfl
@[simp] theorem setOutput_output : (s.setOutput x).output = x := rfl
@[simp] theorem setOutput_budget : (s.setOutput x).budget = s.budget := rfl
@[simp] theorem setOutput_triggers : (s.setOutput x).triggers = s.triggers := rfl
@[simp] theorem setOutput_report : (s.setOutput x).report = s.report := rfl
@[simp] theorem setOutput_showMemory : (s.setOutput x).showMemory = s.showMemory := rfl
@[simp] theorem setOutput_isRunning : (s.setOutput x).isRunning = s.isRunning := rfl
@[simp] theorem setOutput_linkHeld : (s.setOutput x).linkHeld = s.linkHeld := rfl
@[simp] theorem setOutput_heldNumber : (s.setOutput x).heldNumber = s.heldNumber := rfl
@[simp] theorem setOutput_frame : (s.setOutput x).frame = s.frame := rfl
@[simp] theorem setOutput_localOrigin : (s.setOutput x).localOrigin = s.localOrigin := rfl
@[simp] theorem setOutput_same : s.setOutput s.output = s := rfl
@[simp] theorem setOutput_setOutput (y : OutputStage) : (s.setOutput x).setOutput y = s.setOutput y := rfl

end SetOutput

section SetBudget

variable (s : State) (x : Budget)

@[simp] theorem setBudget_pending : (s.setBudget x).pending = s.pending := rfl
@[simp] theorem setBudget_ahead : (s.setBudget x).ahead = s.ahead := rfl
@[simp] theorem setBudget_tick : (s.setBudget x).tick = s.tick := rfl
@[simp] theorem setBudget_serial : (s.setBudget x).serial = s.serial := rfl
@[simp] theorem setBudget_config : (s.setBudget x).config = s.config := rfl
@[simp] theorem setBudget_startup : (s.setBudget x).startup = s.startup := rfl
@[simp] theorem setBudget_link : (s.setBudget x).link = s.link := rfl
@[simp] theorem setBudget_number : (s.setBudget x).number = s.number := rfl
@[simp] theorem setBudget_peers : (s.setBudget x).peers = s.peers := rfl
@[simp] theorem setBudget_timer : (s.setBudget x).timer = s.timer := rfl
@[simp] theorem setBudget_pixelPort : (s.setBudget x).pixelPort = s.pixelPort := rfl
@[simp] theorem setBudget_ingest : (s.setBudget x).ingest = s.ingest := rfl
@[simp] theorem setBudget_wall : (s.setBudget x).wall = s.wall := rfl
@[simp] theorem setBudget_fetch : (s.setBudget x).fetch = s.fetch := rfl
@[simp] theorem setBudget_lanes : (s.setBudget x).lanes = s.lanes := rfl
@[simp] theorem setBudget_output : (s.setBudget x).output = s.output := rfl
@[simp] theorem setBudget_budget : (s.setBudget x).budget = x := rfl
@[simp] theorem setBudget_triggers : (s.setBudget x).triggers = s.triggers := rfl
@[simp] theorem setBudget_report : (s.setBudget x).report = s.report := rfl
@[simp] theorem setBudget_showMemory : (s.setBudget x).showMemory = s.showMemory := rfl
@[simp] theorem setBudget_isRunning : (s.setBudget x).isRunning = s.isRunning := rfl
@[simp] theorem setBudget_linkHeld : (s.setBudget x).linkHeld = s.linkHeld := rfl
@[simp] theorem setBudget_heldNumber : (s.setBudget x).heldNumber = s.heldNumber := rfl
@[simp] theorem setBudget_frame : (s.setBudget x).frame = s.frame := rfl
@[simp] theorem setBudget_localOrigin : (s.setBudget x).localOrigin = s.localOrigin := rfl
@[simp] theorem setBudget_same : s.setBudget s.budget = s := rfl
@[simp] theorem setBudget_setBudget (y : Budget) : (s.setBudget x).setBudget y = s.setBudget y := rfl

end SetBudget

section SetTriggers

variable (s : State) (x : Triggers)

@[simp] theorem setTriggers_pending : (s.setTriggers x).pending = s.pending := rfl
@[simp] theorem setTriggers_ahead : (s.setTriggers x).ahead = s.ahead := rfl
@[simp] theorem setTriggers_tick : (s.setTriggers x).tick = s.tick := rfl
@[simp] theorem setTriggers_serial : (s.setTriggers x).serial = s.serial := rfl
@[simp] theorem setTriggers_config : (s.setTriggers x).config = s.config := rfl
@[simp] theorem setTriggers_startup : (s.setTriggers x).startup = s.startup := rfl
@[simp] theorem setTriggers_link : (s.setTriggers x).link = s.link := rfl
@[simp] theorem setTriggers_number : (s.setTriggers x).number = s.number := rfl
@[simp] theorem setTriggers_peers : (s.setTriggers x).peers = s.peers := rfl
@[simp] theorem setTriggers_timer : (s.setTriggers x).timer = s.timer := rfl
@[simp] theorem setTriggers_pixelPort : (s.setTriggers x).pixelPort = s.pixelPort := rfl
@[simp] theorem setTriggers_ingest : (s.setTriggers x).ingest = s.ingest := rfl
@[simp] theorem setTriggers_wall : (s.setTriggers x).wall = s.wall := rfl
@[simp] theorem setTriggers_fetch : (s.setTriggers x).fetch = s.fetch := rfl
@[simp] theorem setTriggers_lanes : (s.setTriggers x).lanes = s.lanes := rfl
@[simp] theorem setTriggers_output : (s.setTriggers x).output = s.output := rfl
@[simp] theorem setTriggers_budget : (s.setTriggers x).budget = s.budget := rfl
@[simp] theorem setTriggers_triggers : (s.setTriggers x).triggers = x := rfl
@[simp] theorem setTriggers_report : (s.setTriggers x).report = s.report := rfl
@[simp] theorem setTriggers_showMemory : (s.setTriggers x).showMemory = s.showMemory := rfl
@[simp] theorem setTriggers_isRunning : (s.setTriggers x).isRunning = s.isRunning := rfl
@[simp] theorem setTriggers_linkHeld : (s.setTriggers x).linkHeld = s.linkHeld := rfl
@[simp] theorem setTriggers_heldNumber : (s.setTriggers x).heldNumber = s.heldNumber := rfl
@[simp] theorem setTriggers_frame : (s.setTriggers x).frame = s.frame := rfl
@[simp] theorem setTriggers_localOrigin : (s.setTriggers x).localOrigin = s.localOrigin := rfl
@[simp] theorem setTriggers_same : s.setTriggers s.triggers = s := rfl
@[simp] theorem setTriggers_setTriggers (y : Triggers) : (s.setTriggers x).setTriggers y = s.setTriggers y := rfl

end SetTriggers

section SetReport

variable (s : State) (x : Report)

@[simp] theorem setReport_pending : (s.setReport x).pending = s.pending := rfl
@[simp] theorem setReport_ahead : (s.setReport x).ahead = s.ahead := rfl
@[simp] theorem setReport_tick : (s.setReport x).tick = s.tick := rfl
@[simp] theorem setReport_serial : (s.setReport x).serial = s.serial := rfl
@[simp] theorem setReport_config : (s.setReport x).config = s.config := rfl
@[simp] theorem setReport_startup : (s.setReport x).startup = s.startup := rfl
@[simp] theorem setReport_link : (s.setReport x).link = s.link := rfl
@[simp] theorem setReport_number : (s.setReport x).number = s.number := rfl
@[simp] theorem setReport_peers : (s.setReport x).peers = s.peers := rfl
@[simp] theorem setReport_timer : (s.setReport x).timer = s.timer := rfl
@[simp] theorem setReport_pixelPort : (s.setReport x).pixelPort = s.pixelPort := rfl
@[simp] theorem setReport_ingest : (s.setReport x).ingest = s.ingest := rfl
@[simp] theorem setReport_wall : (s.setReport x).wall = s.wall := rfl
@[simp] theorem setReport_fetch : (s.setReport x).fetch = s.fetch := rfl
@[simp] theorem setReport_lanes : (s.setReport x).lanes = s.lanes := rfl
@[simp] theorem setReport_output : (s.setReport x).output = s.output := rfl
@[simp] theorem setReport_budget : (s.setReport x).budget = s.budget := rfl
@[simp] theorem setReport_triggers : (s.setReport x).triggers = s.triggers := rfl
@[simp] theorem setReport_report : (s.setReport x).report = x := rfl
@[simp] theorem setReport_showMemory : (s.setReport x).showMemory = s.showMemory := rfl
@[simp] theorem setReport_isRunning : (s.setReport x).isRunning = s.isRunning := rfl
@[simp] theorem setReport_linkHeld : (s.setReport x).linkHeld = s.linkHeld := rfl
@[simp] theorem setReport_heldNumber : (s.setReport x).heldNumber = s.heldNumber := rfl
@[simp] theorem setReport_frame : (s.setReport x).frame = s.frame := rfl
@[simp] theorem setReport_localOrigin : (s.setReport x).localOrigin = s.localOrigin := rfl
@[simp] theorem setReport_same : s.setReport s.report = s := rfl
@[simp] theorem setReport_setReport (y : Report) : (s.setReport x).setReport y = s.setReport y := rfl

end SetReport

section SetShowMemory

variable (s : State) (x : List Host.Cell)

@[simp] theorem setShowMemory_pending : (s.setShowMemory x).pending = s.pending := rfl
@[simp] theorem setShowMemory_ahead : (s.setShowMemory x).ahead = s.ahead := rfl
@[simp] theorem setShowMemory_tick : (s.setShowMemory x).tick = s.tick := rfl
@[simp] theorem setShowMemory_serial : (s.setShowMemory x).serial = s.serial := rfl
@[simp] theorem setShowMemory_config : (s.setShowMemory x).config = s.config := rfl
@[simp] theorem setShowMemory_startup : (s.setShowMemory x).startup = s.startup := rfl
@[simp] theorem setShowMemory_link : (s.setShowMemory x).link = s.link := rfl
@[simp] theorem setShowMemory_number : (s.setShowMemory x).number = s.number := rfl
@[simp] theorem setShowMemory_peers : (s.setShowMemory x).peers = s.peers := rfl
@[simp] theorem setShowMemory_timer : (s.setShowMemory x).timer = s.timer := rfl
@[simp] theorem setShowMemory_pixelPort : (s.setShowMemory x).pixelPort = s.pixelPort := rfl
@[simp] theorem setShowMemory_ingest : (s.setShowMemory x).ingest = s.ingest := rfl
@[simp] theorem setShowMemory_wall : (s.setShowMemory x).wall = s.wall := rfl
@[simp] theorem setShowMemory_fetch : (s.setShowMemory x).fetch = s.fetch := rfl
@[simp] theorem setShowMemory_lanes : (s.setShowMemory x).lanes = s.lanes := rfl
@[simp] theorem setShowMemory_output : (s.setShowMemory x).output = s.output := rfl
@[simp] theorem setShowMemory_budget : (s.setShowMemory x).budget = s.budget := rfl
@[simp] theorem setShowMemory_triggers : (s.setShowMemory x).triggers = s.triggers := rfl
@[simp] theorem setShowMemory_report : (s.setShowMemory x).report = s.report := rfl
@[simp] theorem setShowMemory_showMemory : (s.setShowMemory x).showMemory = x := rfl
@[simp] theorem setShowMemory_isRunning : (s.setShowMemory x).isRunning = s.isRunning := rfl
@[simp] theorem setShowMemory_linkHeld : (s.setShowMemory x).linkHeld = s.linkHeld := rfl
@[simp] theorem setShowMemory_heldNumber : (s.setShowMemory x).heldNumber = s.heldNumber := rfl
@[simp] theorem setShowMemory_frame : (s.setShowMemory x).frame = s.frame := rfl
@[simp] theorem setShowMemory_localOrigin : (s.setShowMemory x).localOrigin = s.localOrigin := rfl
@[simp] theorem setShowMemory_same : s.setShowMemory s.showMemory = s := rfl
@[simp] theorem setShowMemory_setShowMemory (y : List Host.Cell) : (s.setShowMemory x).setShowMemory y = s.setShowMemory y := rfl

end SetShowMemory

section SetPending

variable (s : State) (x : List Instr)

@[simp] theorem setPending_pending : (s.setPending x).pending = x := rfl
@[simp] theorem setPending_ahead : (s.setPending x).ahead = s.ahead := rfl
@[simp] theorem setPending_tick : (s.setPending x).tick = s.tick := rfl
@[simp] theorem setPending_serial : (s.setPending x).serial = s.serial := rfl
@[simp] theorem setPending_config : (s.setPending x).config = s.config := rfl
@[simp] theorem setPending_startup : (s.setPending x).startup = s.startup := rfl
@[simp] theorem setPending_link : (s.setPending x).link = s.link := rfl
@[simp] theorem setPending_number : (s.setPending x).number = s.number := rfl
@[simp] theorem setPending_peers : (s.setPending x).peers = s.peers := rfl
@[simp] theorem setPending_timer : (s.setPending x).timer = s.timer := rfl
@[simp] theorem setPending_pixelPort : (s.setPending x).pixelPort = s.pixelPort := rfl
@[simp] theorem setPending_ingest : (s.setPending x).ingest = s.ingest := rfl
@[simp] theorem setPending_wall : (s.setPending x).wall = s.wall := rfl
@[simp] theorem setPending_fetch : (s.setPending x).fetch = s.fetch := rfl
@[simp] theorem setPending_lanes : (s.setPending x).lanes = s.lanes := rfl
@[simp] theorem setPending_output : (s.setPending x).output = s.output := rfl
@[simp] theorem setPending_budget : (s.setPending x).budget = s.budget := rfl
@[simp] theorem setPending_triggers : (s.setPending x).triggers = s.triggers := rfl
@[simp] theorem setPending_report : (s.setPending x).report = s.report := rfl
@[simp] theorem setPending_showMemory : (s.setPending x).showMemory = s.showMemory := rfl
@[simp] theorem setPending_isRunning : (s.setPending x).isRunning = s.isRunning := rfl
@[simp] theorem setPending_linkHeld : (s.setPending x).linkHeld = s.linkHeld := rfl
@[simp] theorem setPending_heldNumber : (s.setPending x).heldNumber = s.heldNumber := rfl
@[simp] theorem setPending_frame : (s.setPending x).frame = s.frame := rfl
@[simp] theorem setPending_localOrigin : (s.setPending x).localOrigin = s.localOrigin := rfl
@[simp] theorem setPending_same : s.setPending s.pending = s := rfl
@[simp] theorem setPending_setPending (y : List Instr) : (s.setPending x).setPending y = s.setPending y := rfl

end SetPending

/-! ## The tick counter going on -/

/-- `advanceTo` writes the tick counter and nothing else. -/
theorem advanceTo_eq (s : State) (now : Stamp) : ∃ t, s.advanceTo now = s.setTick t := by
  unfold State.advanceTo
  split
  · exact ⟨now, rfl⟩
  · exact ⟨s.tick, rfl⟩

@[simp] theorem advanceTo_pending (s : State) (now : Stamp) : (s.advanceTo now).pending = s.pending := by
  obtain ⟨t, h⟩ := advanceTo_eq s now; rw [h]; rfl
@[simp] theorem advanceTo_ahead (s : State) (now : Stamp) : (s.advanceTo now).ahead = s.ahead := by
  obtain ⟨t, h⟩ := advanceTo_eq s now; rw [h]; rfl
@[simp] theorem advanceTo_serial (s : State) (now : Stamp) : (s.advanceTo now).serial = s.serial := by
  obtain ⟨t, h⟩ := advanceTo_eq s now; rw [h]; rfl
@[simp] theorem advanceTo_config (s : State) (now : Stamp) : (s.advanceTo now).config = s.config := by
  obtain ⟨t, h⟩ := advanceTo_eq s now; rw [h]; rfl
@[simp] theorem advanceTo_startup (s : State) (now : Stamp) : (s.advanceTo now).startup = s.startup := by
  obtain ⟨t, h⟩ := advanceTo_eq s now; rw [h]; rfl
@[simp] theorem advanceTo_link (s : State) (now : Stamp) : (s.advanceTo now).link = s.link := by
  obtain ⟨t, h⟩ := advanceTo_eq s now; rw [h]; rfl
@[simp] theorem advanceTo_number (s : State) (now : Stamp) : (s.advanceTo now).number = s.number := by
  obtain ⟨t, h⟩ := advanceTo_eq s now; rw [h]; rfl
@[simp] theorem advanceTo_peers (s : State) (now : Stamp) : (s.advanceTo now).peers = s.peers := by
  obtain ⟨t, h⟩ := advanceTo_eq s now; rw [h]; rfl
@[simp] theorem advanceTo_timer (s : State) (now : Stamp) : (s.advanceTo now).timer = s.timer := by
  obtain ⟨t, h⟩ := advanceTo_eq s now; rw [h]; rfl
@[simp] theorem advanceTo_pixelPort (s : State) (now : Stamp) : (s.advanceTo now).pixelPort = s.pixelPort := by
  obtain ⟨t, h⟩ := advanceTo_eq s now; rw [h]; rfl
@[simp] theorem advanceTo_ingest (s : State) (now : Stamp) : (s.advanceTo now).ingest = s.ingest := by
  obtain ⟨t, h⟩ := advanceTo_eq s now; rw [h]; rfl
@[simp] theorem advanceTo_wall (s : State) (now : Stamp) : (s.advanceTo now).wall = s.wall := by
  obtain ⟨t, h⟩ := advanceTo_eq s now; rw [h]; rfl
@[simp] theorem advanceTo_fetch (s : State) (now : Stamp) : (s.advanceTo now).fetch = s.fetch := by
  obtain ⟨t, h⟩ := advanceTo_eq s now; rw [h]; rfl
@[simp] theorem advanceTo_lanes (s : State) (now : Stamp) : (s.advanceTo now).lanes = s.lanes := by
  obtain ⟨t, h⟩ := advanceTo_eq s now; rw [h]; rfl
@[simp] theorem advanceTo_output (s : State) (now : Stamp) : (s.advanceTo now).output = s.output := by
  obtain ⟨t, h⟩ := advanceTo_eq s now; rw [h]; rfl
@[simp] theorem advanceTo_budget (s : State) (now : Stamp) : (s.advanceTo now).budget = s.budget := by
  obtain ⟨t, h⟩ := advanceTo_eq s now; rw [h]; rfl
@[simp] theorem advanceTo_triggers (s : State) (now : Stamp) : (s.advanceTo now).triggers = s.triggers := by
  obtain ⟨t, h⟩ := advanceTo_eq s now; rw [h]; rfl
@[simp] theorem advanceTo_report (s : State) (now : Stamp) : (s.advanceTo now).report = s.report := by
  obtain ⟨t, h⟩ := advanceTo_eq s now; rw [h]; rfl
@[simp] theorem advanceTo_showMemory (s : State) (now : Stamp) : (s.advanceTo now).showMemory = s.showMemory := by
  obtain ⟨t, h⟩ := advanceTo_eq s now; rw [h]; rfl
@[simp] theorem advanceTo_isRunning (s : State) (now : Stamp) : (s.advanceTo now).isRunning = s.isRunning := by
  obtain ⟨t, h⟩ := advanceTo_eq s now; rw [h]; rfl
@[simp] theorem advanceTo_linkHeld (s : State) (now : Stamp) : (s.advanceTo now).linkHeld = s.linkHeld := by
  obtain ⟨t, h⟩ := advanceTo_eq s now; rw [h]; rfl
@[simp] theorem advanceTo_heldNumber (s : State) (now : Stamp) : (s.advanceTo now).heldNumber = s.heldNumber := by
  obtain ⟨t, h⟩ := advanceTo_eq s now; rw [h]; rfl
@[simp] theorem advanceTo_frame (s : State) (now : Stamp) : (s.advanceTo now).frame = s.frame := by
  obtain ⟨t, h⟩ := advanceTo_eq s now; rw [h]; rfl
@[simp] theorem advanceTo_localOrigin (s : State) (now : Stamp) : (s.advanceTo now).localOrigin = s.localOrigin := by
  obtain ⟨t, h⟩ := advanceTo_eq s now; rw [h]; rfl

end Sys2Proof.Machine
end

