-- ==== Sys2Proof/Laws/Frames.lean ====
section
/-! SUPPORT. What each shared operation over the state can write: for each, the blocks it may change, every other block
being as it was. -/

namespace Sys2Proof.Machine

open Sys2Proof

/-! ## Folds -/

/-- A relation that holds of no step and is kept by each step holds of a fold. -/
theorem foldl_frame {α σ : Type} (rel : σ → σ → Prop) (f : σ → α → σ) (hrefl : ∀ s, rel s s)
    (htrans : ∀ a b c, rel a b → rel b c → rel a c) (hstep : ∀ s a, rel s (f s a)) :
    ∀ (l : List α) (s : σ), rel s (l.foldl f s)
  | [], s => hrefl s
  | a :: rest, s => htrans _ _ _ (hstep s a) (foldl_frame rel f hrefl htrans hstep rest (f s a))

/-! ## The fetch unit -/

/-- Only the fetch unit may differ. -/
structure OnlyFetch (s t : State) : Prop where
  same : ∀ f, t.setFetch f = s.setFetch f

theorem choosePort_frame (s : State) : OnlyFetch s s.choosePort := by
  refine ⟨fun f => ?_⟩
  unfold State.choosePort
  dsimp only
  split
  · rfl
  · split
    · rfl
    · split <;> rfl

theorem withdrawRequest_frame (s : State) (i : Fin 4) : OnlyFetch s (s.withdrawRequest i) := by
  refine ⟨fun f => ?_⟩
  unfold State.withdrawRequest
  dsimp only
  split
  · exact (choosePort_frame _).same f
  · split <;> rfl

theorem handRequest_frame (s : State) (i : Fin 4) (p : Fin 16) (cue : BitVec 16) (e : FrameNo) :
    OnlyFetch s (s.handRequest i p cue e) := by
  refine ⟨fun f => ?_⟩
  unfold State.handRequest
  dsimp only
  split <;> exact (withdrawRequest_frame s i).same f

/-- R181: asking for the read changes nothing outside the start-up controller and the fetch unit. -/
theorem askRead_frame (s : State) : ∀ u f, (s.askRead.setStartup u).setFetch f = (s.setStartup u).setFetch f := by
  intro u f
  unfold State.askRead
  dsimp only
  split <;> rfl

/-! ## The lane engine: only the lane engine and the fetch unit change -/

/-- Only the lane engine and the fetch unit may differ. -/
structure LanesAndFetch (s t : State) : Prop where
  same : ∀ x0 x1, (t.setLanes x0).setFetch x1 = (s.setLanes x0).setFetch x1

theorem LanesAndFetch.refl (s : State) : LanesAndFetch s s := ⟨fun _ _ => rfl⟩

theorem LanesAndFetch.trans (a b c : State) (h : LanesAndFetch a b) (k : LanesAndFetch b c) : LanesAndFetch a c :=
  ⟨fun x0 x1 => (k.same x0 x1).trans (h.same x0 x1)⟩

/-- The later state is the earlier one with those blocks replaced. -/
theorem LanesAndFetch.eq {s t : State} (h : LanesAndFetch s t) :
    t = (s.setLanes t.lanes).setFetch t.fetch := by
  simpa using h.same t.lanes t.fetch

section LanesAndFetchFields

variable {s t : State} (h : LanesAndFetch s t)

include h

theorem LanesAndFetch.pending : t.pending = s.pending := by
  simpa using congrArg State.pending (h.same s.lanes s.fetch)
theorem LanesAndFetch.ahead : t.ahead = s.ahead := by
  simpa using congrArg State.ahead (h.same s.lanes s.fetch)
theorem LanesAndFetch.tick : t.tick = s.tick := by
  simpa using congrArg State.tick (h.same s.lanes s.fetch)
theorem LanesAndFetch.serial : t.serial = s.serial := by
  simpa using congrArg State.serial (h.same s.lanes s.fetch)
theorem LanesAndFetch.config : t.config = s.config := by
  simpa using congrArg State.config (h.same s.lanes s.fetch)
theorem LanesAndFetch.startup : t.startup = s.startup := by
  simpa using congrArg State.startup (h.same s.lanes s.fetch)
theorem LanesAndFetch.link : t.link = s.link := by
  simpa using congrArg State.link (h.same s.lanes s.fetch)
theorem LanesAndFetch.number : t.number = s.number := by
  simpa using congrArg State.number (h.same s.lanes s.fetch)
theorem LanesAndFetch.peers : t.peers = s.peers := by
  simpa using congrArg State.peers (h.same s.lanes s.fetch)
theorem LanesAndFetch.timer : t.timer = s.timer := by
  simpa using congrArg State.timer (h.same s.lanes s.fetch)
theorem LanesAndFetch.ingest : t.ingest = s.ingest := by
  simpa using congrArg State.ingest (h.same s.lanes s.fetch)
theorem LanesAndFetch.wall : t.wall = s.wall := by
  simpa using congrArg State.wall (h.same s.lanes s.fetch)
theorem LanesAndFetch.output : t.output = s.output := by
  simpa using congrArg State.output (h.same s.lanes s.fetch)
theorem LanesAndFetch.budget : t.budget = s.budget := by
  simpa using congrArg State.budget (h.same s.lanes s.fetch)
theorem LanesAndFetch.triggers : t.triggers = s.triggers := by
  simpa using congrArg State.triggers (h.same s.lanes s.fetch)
theorem LanesAndFetch.report : t.report = s.report := by
  simpa using congrArg State.report (h.same s.lanes s.fetch)
theorem LanesAndFetch.showMemory : t.showMemory = s.showMemory := by
  simpa using congrArg State.showMemory (h.same s.lanes s.fetch)
theorem LanesAndFetch.pixelPort : t.pixelPort = s.pixelPort := by
  simpa using congrArg State.pixelPort (h.same s.lanes s.fetch)
theorem LanesAndFetch.isRunning : t.isRunning = s.isRunning := by
  simpa using congrArg State.isRunning (h.same s.lanes s.fetch)
theorem LanesAndFetch.heldNumber : t.heldNumber = s.heldNumber := by
  simpa using congrArg State.heldNumber (h.same s.lanes s.fetch)
theorem LanesAndFetch.frame : t.frame = s.frame := by
  simpa using congrArg State.frame (h.same s.lanes s.fetch)

end LanesAndFetchFields

theorem LanesAndFetch.ofFetch {s t : State} (h : OnlyFetch s t) : LanesAndFetch s t :=
  ⟨fun x0 x1 => congrArg (fun z : State => z.setLanes x0) (h.same x1)⟩

theorem setLane_frame (s : State) (i : Fin 4) (l : Lane) : LanesAndFetch s (s.setLane i l) := ⟨fun _ _ => rfl⟩

theorem setNodeCounts_frame (s : State) (c : NodeCounts) : LanesAndFetch s (s.setNodeCounts c) := ⟨fun _ _ => rfl⟩

theorem makePending_frame (s : State) (i : Fin 4) (cue : BitVec 16) (e : FrameNo) (o : Origin) (k : GoKind) :
    LanesAndFetch s (s.makePending i cue e o k) := by
  unfold State.makePending
  split
  · exact .refl s
  · exact .trans _ _ _ (setLane_frame s i _) (.ofFetch (handRequest_frame _ _ _ _ _))

theorem contestGo_frame (s : State) (i : Fin 4) (cue : BitVec 16) (e : FrameNo) (o : Origin) (k : GoKind) :
    LanesAndFetch s (s.contestGo i cue e o k) := by
  unfold State.contestGo
  split
  · exact makePending_frame ..
  · split
    · exact .trans _ _ _ (.ofFetch (withdrawRequest_frame s i)) (.trans _ _ _ (setLane_frame _ i _) (makePending_frame ..))
    · exact setLane_frame ..

theorem laneGo_frame (s : State) (i : Fin 4) (cue : BitVec 16) (e : FrameNo) (o : Origin) :
    LanesAndFetch s (s.laneGo i cue e o) := by
  unfold State.laneGo
  split
  · exact contestGo_frame ..
  · split
    · exact setNodeCounts_frame ..
    · exact contestGo_frame ..

theorem laneControl_frame (s : State) (i : Fin 4) (k : ControlKind) (e : FrameNo) :
    LanesAndFetch s (s.laneControl i k e) := setLane_frame ..

theorem laneTakes_frame (s : State) (i : Fin 4) (m : CueMessage) (o : Origin) : LanesAndFetch s (s.laneTakes i m o) := by
  unfold State.laneTakes
  split
  · exact laneGo_frame ..
  · exact laneControl_frame ..
  · exact laneControl_frame ..

/-- R116: a GO, HOLD or RELEASE changes nothing outside the lane engine and the fetch unit. -/
theorem deliverCue_frame (s : State) (m : CueMessage) (o : Origin) : LanesAndFetch s (s.deliverCue m o) := by
  unfold State.deliverCue
  split
  · exact .refl s
  · split
    · exact .refl s
    · split
      · exact setNodeCounts_frame ..
      · split
        · exact setNodeCounts_frame ..
        · exact foldl_frame LanesAndFetch _ .refl .trans (fun s i => laneTakes_frame s i m o) _ s

theorem handOutcome_frame (s : State) (r : FetchRequest) (o : FetchOutcome) : LanesAndFetch s (s.handOutcome r o) := by
  unfold State.handOutcome
  split <;> exact setLane_frame ..

/-- R103: a completion changes nothing outside the lane engine and the fetch unit. -/
theorem completeFetch_frame (s : State) : LanesAndFetch s s.completeFetch := by
  unfold State.completeFetch
  split
  · exact .refl s
  · dsimp only
    refine .trans _ _ _ ?_ (.ofFetch (choosePort_frame _))
    refine .trans _ _ _ ?_ (handOutcome_frame ..)
    exact ⟨fun _ _ => rfl⟩

theorem timeOut_frame (s : State) (r : FetchRequest) : LanesAndFetch s (s.timeOut r) := by
  unfold State.timeOut
  dsimp only
  refine .trans _ _ _ ?_ (setLane_frame ..)
  exact ⟨fun _ _ => rfl⟩

theorem fetchEdge_frame (s : State) (c : Config) : LanesAndFetch s (s.fetchEdge c) := by
  unfold State.fetchEdge
  dsimp only
  refine .trans _ _ _ ?_ (foldl_frame LanesAndFetch _ .refl .trans timeOut_frame _ _)
  exact ⟨fun _ _ => rfl⟩

theorem scheduleFollow_frame (s : State) (i : Fin 4) (c : CurrentCue) : LanesAndFetch s (s.scheduleFollow i c) := by
  unfold State.scheduleFollow
  split
  · exact .refl s
  · split
    · exact setNodeCounts_frame ..
    · split
      · exact setNodeCounts_frame ..
      · exact contestGo_frame ..

theorem startCue_frame (s : State) (i : Fin 4) (p : PendingGo) (r : CueRecord) (f : FrameNo) (merged : Vector Nat 36)
    (zones : Vector Rgb 8) : LanesAndFetch s (s.startCue i p r f merged zones) := by
  unfold State.startCue
  dsimp only
  refine .trans _ _ _ ?_ (scheduleFollow_frame ..)
  exact ⟨fun _ _ => rfl⟩

theorem dropOldPending_frame (s : State) (i : Fin 4) (f : FrameNo) : LanesAndFetch s (s.dropOldPending i f) := by
  unfold State.dropOldPending
  split
  · exact .refl s
  · split
    · exact .trans _ _ _ (.ofFetch (withdrawRequest_frame s i)) (setLane_frame ..)
    · exact .refl s

theorem startOrStep_frame (s : State) (i : Fin 4) (f : FrameNo) (merged : Vector Nat 36) (zones : Vector Rgb 8) :
    LanesAndFetch s (s.startOrStep i f merged zones) := by
  unfold State.startOrStep
  dsimp only
  split
  · exact startCue_frame ..
  · exact setLane_frame ..

theorem laneEdge_frame (s : State) (c : Config) (f : FrameNo) (merged : Vector Nat 36) (zones : Vector Rgb 8) (i : Fin 4) :
    LanesAndFetch s (s.laneEdge c f merged zones i) := by
  unfold State.laneEdge
  dsimp only
  refine .trans _ _ _ ?_ (setLane_frame ..)
  exact startOrStep_frame s i f merged zones

/-- R122: the lanes at an edge change nothing outside the lane engine and the fetch unit. -/
theorem lanesEdge_frame (s : State) (c : Config) : LanesAndFetch s (s.lanesEdge c) := by
  have h := LanesAndFetch.trans _ _ _
    (foldl_frame LanesAndFetch (fun t i => t.dropOldPending i t.frame) .refl .trans
      (fun t i => dropOldPending_frame t i _) laneIndices s)
    (foldl_frame LanesAndFetch
      (fun t i => t.laneEdge c t.frame (s.output.merged.readBefore s.timer.edges)
        (s.wall.figures.readBefore s.timer.edges).zones i) .refl .trans (fun t i => laneEdge_frame t c _ _ _ i)
      laneIndices _)
  unfold State.lanesEdge
  dsimp only
  revert h
  generalize List.foldl _ (List.foldl _ s laneIndices) laneIndices = u
  intro h
  exact ⟨fun x0 x1 => h.same x0 x1⟩

/-! ## The link controller: its end of an attempt may reach the lanes (R20) -/

/-- Only the link controller, the lane engine and the fetch unit may differ. -/
structure LinkAndLanes (s t : State) : Prop where
  same : ∀ x0 x1 x2, ((t.setLink x0).setLanes x1).setFetch x2 = ((s.setLink x0).setLanes x1).setFetch x2

theorem LinkAndLanes.refl (s : State) : LinkAndLanes s s := ⟨fun _ _ _ => rfl⟩

theorem LinkAndLanes.trans (a b c : State) (h : LinkAndLanes a b) (k : LinkAndLanes b c) : LinkAndLanes a c :=
  ⟨fun x0 x1 x2 => (k.same x0 x1 x2).trans (h.same x0 x1 x2)⟩

/-- The later state is the earlier one with those blocks replaced. -/
theorem LinkAndLanes.eq {s t : State} (h : LinkAndLanes s t) :
    t = ((s.setLink t.link).setLanes t.lanes).setFetch t.fetch := by
  simpa using h.same t.link t.lanes t.fetch

section LinkAndLanesFields

variable {s t : State} (h : LinkAndLanes s t)

include h

theorem LinkAndLanes.pending : t.pending = s.pending := by
  simpa using congrArg State.pending (h.same s.link s.lanes s.fetch)
theorem LinkAndLanes.ahead : t.ahead = s.ahead := by
  simpa using congrArg State.ahead (h.same s.link s.lanes s.fetch)
theorem LinkAndLanes.tick : t.tick = s.tick := by
  simpa using congrArg State.tick (h.same s.link s.lanes s.fetch)
theorem LinkAndLanes.serial : t.serial = s.serial := by
  simpa using congrArg State.serial (h.same s.link s.lanes s.fetch)
theorem LinkAndLanes.config : t.config = s.config := by
  simpa using congrArg State.config (h.same s.link s.lanes s.fetch)
theorem LinkAndLanes.startup : t.startup = s.startup := by
  simpa using congrArg State.startup (h.same s.link s.lanes s.fetch)
theorem LinkAndLanes.number : t.number = s.number := by
  simpa using congrArg State.number (h.same s.link s.lanes s.fetch)
theorem LinkAndLanes.peers : t.peers = s.peers := by
  simpa using congrArg State.peers (h.same s.link s.lanes s.fetch)
theorem LinkAndLanes.timer : t.timer = s.timer := by
  simpa using congrArg State.timer (h.same s.link s.lanes s.fetch)
theorem LinkAndLanes.ingest : t.ingest = s.ingest := by
  simpa using congrArg State.ingest (h.same s.link s.lanes s.fetch)
theorem LinkAndLanes.wall : t.wall = s.wall := by
  simpa using congrArg State.wall (h.same s.link s.lanes s.fetch)
theorem LinkAndLanes.output : t.output = s.output := by
  simpa using congrArg State.output (h.same s.link s.lanes s.fetch)
theorem LinkAndLanes.budget : t.budget = s.budget := by
  simpa using congrArg State.budget (h.same s.link s.lanes s.fetch)
theorem LinkAndLanes.triggers : t.triggers = s.triggers := by
  simpa using congrArg State.triggers (h.same s.link s.lanes s.fetch)
theorem LinkAndLanes.report : t.report = s.report := by
  simpa using congrArg State.report (h.same s.link s.lanes s.fetch)
theorem LinkAndLanes.showMemory : t.showMemory = s.showMemory := by
  simpa using congrArg State.showMemory (h.same s.link s.lanes s.fetch)
theorem LinkAndLanes.pixelPort : t.pixelPort = s.pixelPort := by
  simpa using congrArg State.pixelPort (h.same s.link s.lanes s.fetch)
theorem LinkAndLanes.isRunning : t.isRunning = s.isRunning := by
  simpa using congrArg State.isRunning (h.same s.link s.lanes s.fetch)
theorem LinkAndLanes.heldNumber : t.heldNumber = s.heldNumber := by
  simpa using congrArg State.heldNumber (h.same s.link s.lanes s.fetch)
theorem LinkAndLanes.frame : t.frame = s.frame := by
  simpa using congrArg State.frame (h.same s.link s.lanes s.fetch)

end LinkAndLanesFields

theorem LinkAndLanes.ofLanes {s t : State} (h : LanesAndFetch s t) : LinkAndLanes s t :=
  ⟨fun x0 x1 x2 => congrArg (fun z : State => z.setLink x0) (h.same x1 x2)⟩

theorem LinkAndLanes.ofSet (s : State) (x : Link) : LinkAndLanes s (s.setLink x) := ⟨fun _ _ _ => rfl⟩

theorem applyUnsent_frame (s : State) (m : CueMessage) : LinkAndLanes s (s.applyUnsent m) :=
  .trans _ _ _ (.ofSet s _) (.ofLanes (deliverCue_frame ..))

/-- R20: of the link controller, a message applied locally changes the unsent trigger count alone. -/
theorem applyUnsent_link (s : State) (m : CueMessage) :
    (s.applyUnsent m).link =
      { s.link with
        counters := { s.link.counters with unsentTrigger := raise16 s.link.counters.unsentTrigger } } :=
  (deliverCue_frame (s.setLink _) m s.localOrigin).link

theorem flushTriggers_frame (s : State) : LinkAndLanes s s.flushTriggers :=
  .trans _ _ _ (.ofSet s _) (foldl_frame LinkAndLanes _ .refl .trans applyUnsent_frame _ _)

theorem triggerFailed_frame (s : State) (fate : TriggerFate) : LinkAndLanes s (s.triggerFailed fate) := by
  unfold State.triggerFailed
  dsimp only
  split
  · exact .refl s
  · exact .refl s
  · exact .ofSet ..
  · exact .trans _ _ _ (.ofSet s _) (applyUnsent_frame ..)

theorem attemptFailed_frame (s : State) : LinkAndLanes s s.attemptFailed := by
  unfold State.attemptFailed
  split
  · exact .refl s
  · dsimp only
    split
    · exact .trans _ _ _ (.ofSet s _) (triggerFailed_frame ..)
    · exact .ofSet ..

theorem detach_frame (s : State) : LinkAndLanes s s.detach := .trans _ _ _ (.ofSet s _) (flushTriggers_frame _)

theorem countFault_frame (s : State) (tx : Bool) (k : LinkFaultKind) : LinkAndLanes s (s.countFault tx k) := by
  unfold State.countFault
  dsimp only
  split
  · exact .refl s
  · split
    · split
      · exact .refl s
      · split
        · exact .trans _ _ _ (.ofSet s _) (detach_frame _)
        · exact .trans _ _ _ (.ofSet s _) (.ofSet ..)
    · exact .ofSet ..

/-! ## The number unit: it may write the CLAIM slot, clear a peer entry, and empty the trigger queue -/

/-- Only the number unit, the peer table, the link controller, the lane engine and the fetch unit may differ. -/
structure NumberAndLink (s t : State) : Prop where
  same : ∀ x0 x1 x2 x3 x4, ((((t.setNumber x0).setPeers x1).setLink x2).setLanes x3).setFetch x4 = ((((s.setNumber x0).setPeers x1).setLink x2).setLanes x3).setFetch x4

theorem NumberAndLink.refl (s : State) : NumberAndLink s s := ⟨fun _ _ _ _ _ => rfl⟩

theorem NumberAndLink.trans (a b c : State) (h : NumberAndLink a b) (k : NumberAndLink b c) : NumberAndLink a c :=
  ⟨fun x0 x1 x2 x3 x4 => (k.same x0 x1 x2 x3 x4).trans (h.same x0 x1 x2 x3 x4)⟩

/-- The later state is the earlier one with those blocks replaced. -/
theorem NumberAndLink.eq {s t : State} (h : NumberAndLink s t) :
    t = ((((s.setNumber t.number).setPeers t.peers).setLink t.link).setLanes t.lanes).setFetch t.fetch := by
  simpa using h.same t.number t.peers t.link t.lanes t.fetch

section NumberAndLinkFields

variable {s t : State} (h : NumberAndLink s t)

include h

theorem NumberAndLink.pending : t.pending = s.pending := by
  simpa using congrArg State.pending (h.same s.number s.peers s.link s.lanes s.fetch)
theorem NumberAndLink.ahead : t.ahead = s.ahead := by
  simpa using congrArg State.ahead (h.same s.number s.peers s.link s.lanes s.fetch)
theorem NumberAndLink.tick : t.tick = s.tick := by
  simpa using congrArg State.tick (h.same s.number s.peers s.link s.lanes s.fetch)
theorem NumberAndLink.serial : t.serial = s.serial := by
  simpa using congrArg State.serial (h.same s.number s.peers s.link s.lanes s.fetch)
theorem NumberAndLink.config : t.config = s.config := by
  simpa using congrArg State.config (h.same s.number s.peers s.link s.lanes s.fetch)
theorem NumberAndLink.startup : t.startup = s.startup := by
  simpa using congrArg State.startup (h.same s.number s.peers s.link s.lanes s.fetch)
theorem NumberAndLink.timer : t.timer = s.timer := by
  simpa using congrArg State.timer (h.same s.number s.peers s.link s.lanes s.fetch)
theorem NumberAndLink.ingest : t.ingest = s.ingest := by
  simpa using congrArg State.ingest (h.same s.number s.peers s.link s.lanes s.fetch)
theorem NumberAndLink.wall : t.wall = s.wall := by
  simpa using congrArg State.wall (h.same s.number s.peers s.link s.lanes s.fetch)
theorem NumberAndLink.output : t.output = s.output := by
  simpa using congrArg State.output (h.same s.number s.peers s.link s.lanes s.fetch)
theorem NumberAndLink.budget : t.budget = s.budget := by
  simpa using congrArg State.budget (h.same s.number s.peers s.link s.lanes s.fetch)
theorem NumberAndLink.triggers : t.triggers = s.triggers := by
  simpa using congrArg State.triggers (h.same s.number s.peers s.link s.lanes s.fetch)
theorem NumberAndLink.report : t.report = s.report := by
  simpa using congrArg State.report (h.same s.number s.peers s.link s.lanes s.fetch)
theorem NumberAndLink.showMemory : t.showMemory = s.showMemory := by
  simpa using congrArg State.showMemory (h.same s.number s.peers s.link s.lanes s.fetch)
theorem NumberAndLink.pixelPort : t.pixelPort = s.pixelPort := by
  simpa using congrArg State.pixelPort (h.same s.number s.peers s.link s.lanes s.fetch)
theorem NumberAndLink.isRunning : t.isRunning = s.isRunning := by
  simpa using congrArg State.isRunning (h.same s.number s.peers s.link s.lanes s.fetch)
theorem NumberAndLink.frame : t.frame = s.frame := by
  simpa using congrArg State.frame (h.same s.number s.peers s.link s.lanes s.fetch)

end NumberAndLinkFields

theorem NumberAndLink.ofLink {s t : State} (h : LinkAndLanes s t) : NumberAndLink s t :=
  ⟨fun x0 x1 x2 x3 x4 => congrArg (fun z : State => (z.setNumber x0).setPeers x1) (h.same x2 x3 x4)⟩

theorem NumberAndLink.ofNumber (s : State) (x : NumberUnit) : NumberAndLink s (s.setNumber x) := ⟨fun _ _ _ _ _ => rfl⟩

theorem NumberAndLink.ofPeers (s : State) (x : Vector (Option Peer) 64) : NumberAndLink s (s.setPeers x) := ⟨fun _ _ _ _ _ => rfl⟩

theorem chooseCandidate_frame (s : State) : NumberAndLink s s.chooseCandidate := by
  unfold State.chooseCandidate
  split
  · exact .trans _ _ _ (.ofNumber s _) (.ofLink (.ofSet ..))
  · exact .ofNumber ..

theorem enterHolding_frame (s : State) (n : Station) : NumberAndLink s (s.enterHolding n) :=
  .trans _ _ _ (.ofNumber s _) (.ofPeers ..)

theorem endClaim_frame (s : State) (c : Station) : NumberAndLink s (s.endClaim c) :=
  .trans _ _ _ (.ofNumber s _) (.trans _ _ _ (.ofLink (.ofSet ..)) (chooseCandidate_frame _))

theorem yieldNumber_frame (s : State) (n : Station) : NumberAndLink s (s.yieldNumber n) :=
  .trans _ _ _ (.ofNumber s _)
    (.trans _ _ _ (.ofLink (.ofSet ..)) (.trans _ _ _ (chooseCandidate_frame _) (.ofLink (flushTriggers_frame _))))

theorem defend_frame (s : State) (n : Station) : NumberAndLink s (s.defend n) := by
  unfold State.defend
  dsimp only
  split
  · exact .ofNumber ..
  · exact .trans _ _ _ (.ofNumber s _) (.ofLink (.ofSet ..))

theorem hearOrigin_frame (s : State) (o : Station) (c : Bool) : NumberAndLink s (s.hearOrigin o c) := by
  unfold State.hearOrigin
  split
  · split
    · exact .ofNumber ..
    · exact .refl s
  · split
    · exact yieldNumber_frame ..
    · exact .refl s
  · split
    · exact endClaim_frame ..
    · exact .refl s
  · exact .refl s

theorem hearClaim_frame (s : State) (o : Station) (x : BitVec 32) : NumberAndLink s (s.hearClaim o x) := by
  unfold State.hearClaim
  split
  · split
    · exact endClaim_frame ..
    · exact .refl s
  · split
    · split
      · exact yieldNumber_frame ..
      · split
        · exact defend_frame ..
        · exact .refl s
    · exact .refl s
  · exact .refl s

theorem claimLost_frame (s : State) (n : Station) : NumberAndLink s (s.claimLost n) := by
  unfold State.claimLost
  split
  · split
    · exact endClaim_frame ..
    · exact .refl s
  · split
    · exact yieldNumber_frame ..
    · exact .refl s
  · exact .refl s

theorem ownClaimSent_frame (s : State) (n : Station) : NumberAndLink s (s.ownClaimSent n) := by
  unfold State.ownClaimSent
  split
  · split
    · exact .ofNumber ..
    · exact .refl s
  · exact .refl s

theorem numberEdge_frame (s : State) : NumberAndLink s s.numberEdge := by
  unfold State.numberEdge
  repeat' split
  all_goals first
    | exact .refl s
    | exact .ofNumber ..
    | exact chooseCandidate_frame _
    | exact enterHolding_frame ..

theorem startNumber_frame (s : State) (c : Config) : NumberAndLink s (s.startNumber c) := by
  unfold State.startNumber
  dsimp only
  split
  · refine .trans _ _ _ ?_ (.ofPeers ..)
    exact .trans _ _ _ (.ofNumber s _) (.ofNumber ..)
  · split
    · split
      · refine .trans _ _ _ ?_ (.ofLink (.ofSet ..))
        exact .trans _ _ _ (.ofNumber s _) (enterHolding_frame ..)
      · exact .trans _ _ _ (.ofNumber s _) (.ofNumber ..)
    · exact .trans _ _ _ (.ofNumber s _) (.ofNumber ..)

/-! ## The peer table and the tally table -/

/-- Only the peer table may differ. -/
structure OnlyPeers (s t : State) : Prop where
  same : ∀ p, t.setPeers p = s.setPeers p

theorem hearPeer_frame (s : State) (o : Station) (f : Option SyncFields) : OnlyPeers s (s.hearPeer o f) := by
  refine ⟨fun p => ?_⟩
  unfold State.hearPeer
  split <;> rfl

theorem hearStatusRole_frame (s : State) (o : Station) (r : Role) : OnlyPeers s (s.hearStatusRole o r) := by
  refine ⟨fun p => ?_⟩
  unfold State.hearStatusRole
  split <;> rfl

/-- Only the peer table and the trigger and tally unit may differ. -/
structure PeersAndTally (s t : State) : Prop where
  same : ∀ x0 x1, (t.setPeers x0).setTriggers x1 = (s.setPeers x0).setTriggers x1

theorem PeersAndTally.refl (s : State) : PeersAndTally s s := ⟨fun _ _ => rfl⟩

theorem PeersAndTally.trans (a b c : State) (h : PeersAndTally a b) (k : PeersAndTally b c) : PeersAndTally a c :=
  ⟨fun x0 x1 => (k.same x0 x1).trans (h.same x0 x1)⟩

/-- The later state is the earlier one with those blocks replaced. -/
theorem PeersAndTally.eq {s t : State} (h : PeersAndTally s t) :
    t = (s.setPeers t.peers).setTriggers t.triggers := by
  simpa using h.same t.peers t.triggers

section PeersAndTallyFields

variable {s t : State} (h : PeersAndTally s t)

include h

theorem PeersAndTally.pending : t.pending = s.pending := by
  simpa using congrArg State.pending (h.same s.peers s.triggers)
theorem PeersAndTally.ahead : t.ahead = s.ahead := by
  simpa using congrArg State.ahead (h.same s.peers s.triggers)
theorem PeersAndTally.tick : t.tick = s.tick := by
  simpa using congrArg State.tick (h.same s.peers s.triggers)
theorem PeersAndTally.serial : t.serial = s.serial := by
  simpa using congrArg State.serial (h.same s.peers s.triggers)
theorem PeersAndTally.config : t.config = s.config := by
  simpa using congrArg State.config (h.same s.peers s.triggers)
theorem PeersAndTally.startup : t.startup = s.startup := by
  simpa using congrArg State.startup (h.same s.peers s.triggers)
theorem PeersAndTally.link : t.link = s.link := by
  simpa using congrArg State.link (h.same s.peers s.triggers)
theorem PeersAndTally.number : t.number = s.number := by
  simpa using congrArg State.number (h.same s.peers s.triggers)
theorem PeersAndTally.timer : t.timer = s.timer := by
  simpa using congrArg State.timer (h.same s.peers s.triggers)
theorem PeersAndTally.ingest : t.ingest = s.ingest := by
  simpa using congrArg State.ingest (h.same s.peers s.triggers)
theorem PeersAndTally.wall : t.wall = s.wall := by
  simpa using congrArg State.wall (h.same s.peers s.triggers)
theorem PeersAndTally.fetch : t.fetch = s.fetch := by
  simpa using congrArg State.fetch (h.same s.peers s.triggers)
theorem PeersAndTally.lanes : t.lanes = s.lanes := by
  simpa using congrArg State.lanes (h.same s.peers s.triggers)
theorem PeersAndTally.output : t.output = s.output := by
  simpa using congrArg State.output (h.same s.peers s.triggers)
theorem PeersAndTally.budget : t.budget = s.budget := by
  simpa using congrArg State.budget (h.same s.peers s.triggers)
theorem PeersAndTally.report : t.report = s.report := by
  simpa using congrArg State.report (h.same s.peers s.triggers)
theorem PeersAndTally.showMemory : t.showMemory = s.showMemory := by
  simpa using congrArg State.showMemory (h.same s.peers s.triggers)
theorem PeersAndTally.pixelPort : t.pixelPort = s.pixelPort := by
  simpa using congrArg State.pixelPort (h.same s.peers s.triggers)
theorem PeersAndTally.isRunning : t.isRunning = s.isRunning := by
  simpa using congrArg State.isRunning (h.same s.peers s.triggers)
theorem PeersAndTally.heldNumber : t.heldNumber = s.heldNumber := by
  simpa using congrArg State.heldNumber (h.same s.peers s.triggers)
theorem PeersAndTally.frame : t.frame = s.frame := by
  simpa using congrArg State.frame (h.same s.peers s.triggers)

end PeersAndTallyFields

theorem ageOut_frame (s : State) (n : Station) : PeersAndTally s (s.ageOut n) := ⟨fun _ _ => rfl⟩

theorem agePeer_frame (k : Nat) (s : State) (n : Station) : PeersAndTally s (s.agePeer k n) := by
  unfold State.agePeer
  split
  · exact .refl s
  · split
    · exact ageOut_frame ..
    · exact ⟨fun _ _ => rfl⟩

/-- R39: ageing changes nothing outside the peer table and the tally table. -/
theorem agePeers_frame (s : State) (c : Config) : PeersAndTally s (s.agePeers c) :=
  foldl_frame PeersAndTally _ .refl .trans (agePeer_frame c.ageLimit) _ s

/-! ## The frame timer: it may write and withdraw the SYNC slot -/

/-- Only the tick counter, the frame timer and the link controller may differ. -/
structure TimerAndLink (s t : State) : Prop where
  same : ∀ x0 x1 x2, ((t.setTick x0).setTimer x1).setLink x2 = ((s.setTick x0).setTimer x1).setLink x2

theorem TimerAndLink.refl (s : State) : TimerAndLink s s := ⟨fun _ _ _ => rfl⟩

theorem TimerAndLink.trans (a b c : State) (h : TimerAndLink a b) (k : TimerAndLink b c) : TimerAndLink a c :=
  ⟨fun x0 x1 x2 => (k.same x0 x1 x2).trans (h.same x0 x1 x2)⟩

/-- The later state is the earlier one with those blocks replaced. -/
theorem TimerAndLink.eq {s t : State} (h : TimerAndLink s t) :
    t = ((s.setTick t.tick).setTimer t.timer).setLink t.link := by
  simpa using h.same t.tick t.timer t.link

section TimerAndLinkFields

variable {s t : State} (h : TimerAndLink s t)

include h

theorem TimerAndLink.pending : t.pending = s.pending := by
  simpa using congrArg State.pending (h.same s.tick s.timer s.link)
theorem TimerAndLink.ahead : t.ahead = s.ahead := by
  simpa using congrArg State.ahead (h.same s.tick s.timer s.link)
theorem TimerAndLink.serial : t.serial = s.serial := by
  simpa using congrArg State.serial (h.same s.tick s.timer s.link)
theorem TimerAndLink.config : t.config = s.config := by
  simpa using congrArg State.config (h.same s.tick s.timer s.link)
theorem TimerAndLink.startup : t.startup = s.startup := by
  simpa using congrArg State.startup (h.same s.tick s.timer s.link)
theorem TimerAndLink.number : t.number = s.number := by
  simpa using congrArg State.number (h.same s.tick s.timer s.link)
theorem TimerAndLink.peers : t.peers = s.peers := by
  simpa using congrArg State.peers (h.same s.tick s.timer s.link)
theorem TimerAndLink.ingest : t.ingest = s.ingest := by
  simpa using congrArg State.ingest (h.same s.tick s.timer s.link)
theorem TimerAndLink.wall : t.wall = s.wall := by
  simpa using congrArg State.wall (h.same s.tick s.timer s.link)
theorem TimerAndLink.fetch : t.fetch = s.fetch := by
  simpa using congrArg State.fetch (h.same s.tick s.timer s.link)
theorem TimerAndLink.lanes : t.lanes = s.lanes := by
  simpa using congrArg State.lanes (h.same s.tick s.timer s.link)
theorem TimerAndLink.output : t.output = s.output := by
  simpa using congrArg State.output (h.same s.tick s.timer s.link)
theorem TimerAndLink.budget : t.budget = s.budget := by
  simpa using congrArg State.budget (h.same s.tick s.timer s.link)
theorem TimerAndLink.triggers : t.triggers = s.triggers := by
  simpa using congrArg State.triggers (h.same s.tick s.timer s.link)
theorem TimerAndLink.report : t.report = s.report := by
  simpa using congrArg State.report (h.same s.tick s.timer s.link)
theorem TimerAndLink.showMemory : t.showMemory = s.showMemory := by
  simpa using congrArg State.showMemory (h.same s.tick s.timer s.link)
theorem TimerAndLink.pixelPort : t.pixelPort = s.pixelPort := by
  simpa using congrArg State.pixelPort (h.same s.tick s.timer s.link)
theorem TimerAndLink.isRunning : t.isRunning = s.isRunning := by
  simpa using congrArg State.isRunning (h.same s.tick s.timer s.link)
theorem TimerAndLink.heldNumber : t.heldNumber = s.heldNumber := by
  simpa using congrArg State.heldNumber (h.same s.tick s.timer s.link)

end TimerAndLinkFields

theorem TimerAndLink.ofTimer (s : State) (x : FrameTimer) : TimerAndLink s (s.setTimer x) := ⟨fun _ _ _ => rfl⟩

theorem TimerAndLink.ofLink (s : State) (x : Link) : TimerAndLink s (s.setLink x) := ⟨fun _ _ _ => rfl⟩

theorem TimerAndLink.ofTick (s : State) (x : Stamp) : TimerAndLink s (s.setTick x) := ⟨fun _ _ _ => rfl⟩

theorem TimerAndLink.ofRun (s : State) (r : TimerRun) : TimerAndLink s (s.setRun r) := .ofTimer ..

theorem TimerAndLink.ofCounters (s : State) (c : TimerCounters) : TimerAndLink s (s.setTimerCounters c) := .ofTimer ..

theorem leaveRole_frame (s : State) (r : TimerRun) : TimerAndLink s (s.leaveRole r).1 := by
  unfold State.leaveRole
  split
  · exact .ofLink ..
  · exact .ofLink ..
  · exact .refl s

theorem enterAnchored_frame (s : State) (r : TimerRun) : TimerAndLink s (s.enterAnchored r) :=
  .trans _ _ _ (leaveRole_frame s r) (.ofRun ..)

theorem enterLeading_frame (s : State) (r : TimerRun) : TimerAndLink s (s.enterLeading r) :=
  .trans _ _ _ (leaveRole_frame s r) (.ofRun ..)

theorem enterFree_frame (s : State) (r : TimerRun) : TimerAndLink s (s.enterFree r) :=
  .trans _ _ _ (leaveRole_frame s r) (.ofRun ..)

theorem follow_frame (s : State) (r : TimerRun) (n : Station) : TimerAndLink s (s.follow r n) :=
  .trans _ _ _ (leaveRole_frame s r) (.trans _ _ _ (.ofRun ..) (.ofCounters ..))

theorem chooseRole_frame (s : State) (r : TimerRun) : TimerAndLink s (s.chooseRole r) := by
  unfold State.chooseRole
  split
  · exact follow_frame ..
  · split
    · exact enterLeading_frame ..
    · exact enterFree_frame ..

theorem endStart_frame (s : State) (r : TimerRun) : TimerAndLink s (s.endStart r) := by
  unfold State.endStart
  dsimp only
  repeat' split
  all_goals first
    | exact enterAnchored_frame ..
    | exact follow_frame ..
    | exact enterLeading_frame ..
    | exact enterFree_frame ..

theorem tableRole_frame (s : State) (r : TimerRun) : TimerAndLink s (s.tableRole r) := by
  unfold State.tableRole
  repeat' split
  all_goals first
    | exact .ofRun ..
    | exact enterAnchored_frame ..
    | exact follow_frame ..
    | exact enterLeading_frame ..
    | exact chooseRole_frame ..

theorem evaluateRole_frame (s : State) (r : TimerRun) : TimerAndLink s (s.evaluateRole r) := by
  unfold State.evaluateRole
  split
  · split
    · exact endStart_frame ..
    · exact .ofRun ..
  · exact tableRole_frame ..

theorem accountLock_frame (s : State) (r : TimerRun) : TimerAndLink s (s.accountLock r) := by
  unfold State.accountLock
  split
  · exact .ofRun ..
  · dsimp only
    split
    · exact .trans _ _ _ (.ofRun ..) (.ofCounters ..)
    · exact .ofRun ..

theorem lockEdge_frame (s : State) (r : TimerRun) : TimerAndLink s (s.lockEdge r) := by
  unfold State.lockEdge
  split
  · exact .ofRun ..
  · exact accountLock_frame ..

/-- R44: work of the frame timer on the aged entries leaves the entries and the tally table as they were. -/
theorem onAged_timer (s : State) (work : State → State) (h : ∀ t, TimerAndLink t (work t)) :
    TimerAndLink s (s.onAged work) := by
  unfold State.onAged
  split
  · exact h s
  · rename_i c _
    have f := (agePeers_frame s c).same s.peers s.triggers
    generalize s.agePeers c = u at f
    refine ⟨fun x0 x1 x2 => ?_⟩
    have e := congrArg (fun z : State => (z.setPeers s.peers).setTriggers s.triggers) ((h u).same x0 x1 x2)
    have g := congrArg (fun z : State => ((z.setTick x0).setTimer x1).setLink x2) f
    exact e.trans g

/-- R44: the choice of a candidate on the aged entries leaves the entries and the tally table as they were. -/
theorem onAged_chooseCandidate_peers (s : State) :
    (s.onAged State.chooseCandidate).peers = s.peers ∧ (s.onAged State.chooseCandidate).triggers = s.triggers := by
  unfold State.onAged
  split
  · unfold State.chooseCandidate
    split <;> exact ⟨rfl, rfl⟩
  · exact ⟨by simp, by simp⟩

theorem followAndMeasure_frame (s : State) (r : TimerRun) (o : Station) (f : SyncFields) (a : Stamp) :
    TimerAndLink s (s.followAndMeasure r o f a) := by
  unfold State.followAndMeasure
  dsimp only
  split
  · exact .trans _ _ _ (follow_frame ..) (.ofRun ..)
  · exact follow_frame ..

/-- R51: a SYNC changes nothing outside the frame timer and the SYNC slot. -/
theorem takeSync_frame (s : State) (own : Option Station) (o : Station) (f : SyncFields) (a : Stamp) :
    TimerAndLink s (s.takeSync own o f a) := by
  unfold State.takeSync
  dsimp only
  repeat' split
  all_goals first
    | exact .refl s
    | exact .ofCounters ..
    | exact .ofRun ..
    | exact followAndMeasure_frame ..

theorem ownSyncSent_frame (s : State) (n : Nat) : TimerAndLink s (s.ownSyncSent n) := by
  unfold State.ownSyncSent
  split
  · exact .refl s
  · exact .trans _ _ _ (.ofRun ..) (.ofCounters ..)

theorem roleEdge_frame (s : State) : TimerAndLink s s.roleEdge := by
  unfold State.roleEdge
  repeat' split
  all_goals first
    | exact .refl s
    | exact evaluateRole_frame ..

theorem writeBeacon_frame (s : State) : TimerAndLink s s.writeBeacon := by
  unfold State.writeBeacon
  repeat' split
  all_goals first
    | exact .refl s
    | exact .ofLink ..

theorem clearHeld_frame (s : State) : TimerAndLink s s.clearHeld := by
  unfold State.clearHeld
  split
  · exact .refl s
  · exact .ofRun ..

theorem runEdge_frame (s : State) (r : TimerRun) : TimerAndLink s (s.runEdge r) :=
  .trans _ _ _ (.ofCounters s _)
    (.trans _ _ _ (lockEdge_frame ..)
      (.trans _ _ _ (roleEdge_frame _)
        (.trans _ _ _ (.ofLink ..) (.trans _ _ _ (writeBeacon_frame _) (clearHeld_frame _)))))

/-- R44: the frame timer's own work at an edge changes nothing outside the tick counter, the frame timer and the link
controller's SYNC slot. -/
theorem timerEdge_frame (s : State) : TimerAndLink s s.timerEdge := by
  unfold State.timerEdge
  split
  · exact .refl s
  · dsimp only
    obtain ⟨t, h⟩ := advanceTo_eq s ‹TimerRun›.nextEdge
    rw [h]
    split
    · exact ⟨fun _ _ _ => rfl⟩
    · refine .trans _ _ _ ?_ (runEdge_frame ..)
      exact ⟨fun _ _ _ => rfl⟩

/-! ## The other blocks at an edge -/

/-- R83: flip and scan change nothing outside the back buffer and the wall buffers. -/
theorem wallEdge_frame (s : State) (c : Config) :
    ∀ u w, ((s.wallEdge c).setIngest u).setWall w = (s.setIngest u).setWall w := by
  intro u w
  unfold State.wallEdge State.scanEdge State.flip
  dsimp only
  split <;> rfl

/-- Only the trigger and tally unit, the link controller, the lane engine and the fetch unit may differ. -/
structure PinsAndLanes (s t : State) : Prop where
  same : ∀ x0 x1 x2 x3, (((t.setTriggers x0).setLink x1).setLanes x2).setFetch x3 = (((s.setTriggers x0).setLink x1).setLanes x2).setFetch x3

theorem PinsAndLanes.refl (s : State) : PinsAndLanes s s := ⟨fun _ _ _ _ => rfl⟩

theorem PinsAndLanes.trans (a b c : State) (h : PinsAndLanes a b) (k : PinsAndLanes b c) : PinsAndLanes a c :=
  ⟨fun x0 x1 x2 x3 => (k.same x0 x1 x2 x3).trans (h.same x0 x1 x2 x3)⟩

/-- The later state is the earlier one with those blocks replaced. -/
theorem PinsAndLanes.eq {s t : State} (h : PinsAndLanes s t) :
    t = (((s.setTriggers t.triggers).setLink t.link).setLanes t.lanes).setFetch t.fetch := by
  simpa using h.same t.triggers t.link t.lanes t.fetch

section PinsAndLanesFields

variable {s t : State} (h : PinsAndLanes s t)

include h

theorem PinsAndLanes.pending : t.pending = s.pending := by
  simpa using congrArg State.pending (h.same s.triggers s.link s.lanes s.fetch)
theorem PinsAndLanes.ahead : t.ahead = s.ahead := by
  simpa using congrArg State.ahead (h.same s.triggers s.link s.lanes s.fetch)
theorem PinsAndLanes.tick : t.tick = s.tick := by
  simpa using congrArg State.tick (h.same s.triggers s.link s.lanes s.fetch)
theorem PinsAndLanes.serial : t.serial = s.serial := by
  simpa using congrArg State.serial (h.same s.triggers s.link s.lanes s.fetch)
theorem PinsAndLanes.config : t.config = s.config := by
  simpa using congrArg State.config (h.same s.triggers s.link s.lanes s.fetch)
theorem PinsAndLanes.startup : t.startup = s.startup := by
  simpa using congrArg State.startup (h.same s.triggers s.link s.lanes s.fetch)
theorem PinsAndLanes.number : t.number = s.number := by
  simpa using congrArg State.number (h.same s.triggers s.link s.lanes s.fetch)
theorem PinsAndLanes.peers : t.peers = s.peers := by
  simpa using congrArg State.peers (h.same s.triggers s.link s.lanes s.fetch)
theorem PinsAndLanes.timer : t.timer = s.timer := by
  simpa using congrArg State.timer (h.same s.triggers s.link s.lanes s.fetch)
theorem PinsAndLanes.ingest : t.ingest = s.ingest := by
  simpa using congrArg State.ingest (h.same s.triggers s.link s.lanes s.fetch)
theorem PinsAndLanes.wall : t.wall = s.wall := by
  simpa using congrArg State.wall (h.same s.triggers s.link s.lanes s.fetch)
theorem PinsAndLanes.output : t.output = s.output := by
  simpa using congrArg State.output (h.same s.triggers s.link s.lanes s.fetch)
theorem PinsAndLanes.budget : t.budget = s.budget := by
  simpa using congrArg State.budget (h.same s.triggers s.link s.lanes s.fetch)
theorem PinsAndLanes.report : t.report = s.report := by
  simpa using congrArg State.report (h.same s.triggers s.link s.lanes s.fetch)
theorem PinsAndLanes.showMemory : t.showMemory = s.showMemory := by
  simpa using congrArg State.showMemory (h.same s.triggers s.link s.lanes s.fetch)
theorem PinsAndLanes.pixelPort : t.pixelPort = s.pixelPort := by
  simpa using congrArg State.pixelPort (h.same s.triggers s.link s.lanes s.fetch)
theorem PinsAndLanes.isRunning : t.isRunning = s.isRunning := by
  simpa using congrArg State.isRunning (h.same s.triggers s.link s.lanes s.fetch)
theorem PinsAndLanes.heldNumber : t.heldNumber = s.heldNumber := by
  simpa using congrArg State.heldNumber (h.same s.triggers s.link s.lanes s.fetch)
theorem PinsAndLanes.frame : t.frame = s.frame := by
  simpa using congrArg State.frame (h.same s.triggers s.link s.lanes s.fetch)

end PinsAndLanesFields

theorem PinsAndLanes.ofLink {s t : State} (h : LinkAndLanes s t) : PinsAndLanes s t :=
  ⟨fun x0 x1 x2 x3 => congrArg (fun z : State => z.setTriggers x0) (h.same x1 x2 x3)⟩

theorem PinsAndLanes.ofTriggers (s : State) (x : Triggers) : PinsAndLanes s (s.setTriggers x) := ⟨fun _ _ _ _ => rfl⟩

/-- With its frame timer put back, a state seen at another frame is itself. -/
theorem atFrame_setTimer (s : State) (f : FrameNo) : (s.atFrame f).setTimer s.timer = s := by
  unfold State.atFrame
  split <;> rfl

/-- A state seen at its own current frame is itself. -/
theorem atFrame_frame (s : State) : s.atFrame s.frame = s := by
  unfold State.atFrame State.frame
  cases h : s.timer.run with
  | none => rfl
  | some r =>
    have e : ({ s.timer with run := some r } : FrameTimer) = s.timer := by rw [← h]
    exact congrArg (fun y => s.setTimer y) e

/-- A local delivery at an edge changes what a local delivery changes. -/
theorem applyUnsentAt_frame (s : State) (f : FrameNo) (m : CueMessage) : LinkAndLanes s (s.applyUnsentAt f m) :=
  ⟨fun x0 x1 x2 => by
    have h := congrArg (fun z : State => z.setTimer s.timer) ((applyUnsent_frame (s.atFrame f) m).same x0 x1 x2)
    have k := congrArg (fun z : State => ((z.setLink x0).setLanes x1).setFetch x2) (atFrame_setTimer s f)
    exact Eq.trans h k⟩

/-- R171: at the current frame the delivery is that of a message that cannot be sent. -/
theorem applyUnsentAt_current (s : State) (m : CueMessage) : s.applyUnsentAt s.frame m = s.applyUnsent m := by
  unfold State.applyUnsentAt
  rw [atFrame_frame, ← (applyUnsent_frame s m).timer]
  rfl

theorem formTrigger_frame (s : State) (f : FrameNo) (m : CueMessage) : PinsAndLanes s (s.formTrigger f m) := by
  unfold State.formTrigger
  dsimp only
  split
  · exact .trans _ _ _ (.ofTriggers s _) (.ofLink (.ofSet ..))
  · exact .trans _ _ _ (.ofTriggers s _) (.ofLink (applyUnsentAt_frame ..))

theorem pinActs_frame (s : State) (pin : PinConfig) (level : Bool) (f : FrameNo) :
    PinsAndLanes s (s.pinActs pin level f) := by
  unfold State.pinActs State.goNextPin State.tallyPin
  dsimp only
  repeat' split
  all_goals first
    | exact .refl s
    | exact formTrigger_frame ..
    | exact .ofTriggers ..
    | exact .trans _ _ _ (.ofTriggers s _) (.ofLink (.ofSet ..))

theorem samplePin_frame (s : State) (c : Config) (i : Fin 8) (level : Bool) (f : FrameNo) :
    PinsAndLanes s (s.samplePin c i level f) := by
  unfold State.samplePin State.qualify State.setPin
  dsimp only
  repeat' split
  all_goals first
    | exact .ofTriggers ..
    | exact .trans _ _ _ (.ofTriggers s _) (pinActs_frame ..)

/-- R169: the pins to sample are those between the count taken and the bound, in rising order. -/
theorem mem_pinsToSample (s : State) (upTo : Nat) (i : Fin 8) :
    i ∈ s.pinsToSample upTo ↔ s.ahead.pins ≤ i.val ∧ i.val < upTo := by
  simp [State.pinsToSample]

theorem pinsToSample_sorted (s : State) (upTo : Nat) : (s.pinsToSample upTo).Pairwise (· < ·) :=
  (List.pairwise_lt_finRange 8).filter _

/-- R169: with its sample still to be taken, a pin is the last of those up to it. -/
theorem pinsToSample_succ (s : State) (i : Fin 8) (h : s.ahead.pins ≤ i.val) :
    s.pinsToSample (i.val + 1) = s.pinsToSample i.val ++ [i] := by
  unfold State.pinsToSample
  generalize s.ahead.pins = k at h
  revert i k
  decide +kernel

/-- R168: the samples of an edge change nothing outside the trigger and tally unit, the link controller, the lane engine and
the fetch unit. -/
theorem samplePins_frame (s : State) (c : Config) (pins : BitVec 8) (f : FrameNo) (upTo : Nat) :
    PinsAndLanes s (s.samplePins c pins f upTo) :=
  foldl_frame PinsAndLanes _ .refl .trans (fun t i => samplePin_frame t c i _ f) _ s

theorem pinsEdge_frame (s : State) (c : Config) (pins : BitVec 8) : PinsAndLanes s (s.pinsEdge c pins) :=
  samplePins_frame ..

/-- R66: a packet changes nothing outside pixel ingest. -/
theorem takePacket_frame (s : State) (p : RowPacket) : ∀ u, (s.takePacket p).setIngest u = s.setIngest u := by
  intro u
  unfold State.takePacket
  repeat' split
  all_goals rfl

theorem reportEdge_frame (s : State) (c : Config) (own : Option Station) :
    ∀ k, (s.reportEdge c own).setLink k = s.setLink k := by
  intro k
  unfold State.reportEdge
  split <;> rfl

end Sys2Proof.Machine
end

