-- ==== Sys2Proof/Laws/Memory.lean ====
section
/-! SUPPORT. The sparse stores: a read after a write, and the canonical form kept by every write. -/

namespace Sys2Proof.Machine

open Sys2Proof

variable {α : Type} [DecidableEq α]

/-- Below the first address of a canonical store every address reads as unlisted. -/
theorem readCell_below (u : α) (low a : Nat) (cells : List (Nat × α)) (h : cellsFrom u low cells = true) (ha : a < low) :
    readCell u cells a = u := by
  cases cells with
  | nil => rfl
  | cons c rest =>
    obtain ⟨k, v⟩ := c
    simp only [cellsFrom, Bool.and_eq_true, decide_eq_true_eq] at h
    have : a < k := by omega
    simp [readCell, this, Nat.ne_of_lt this]

/-- A read of the address written gives the value written. -/
theorem readCell_write_same (u : α) (x : α) (a : Nat) :
    ∀ (low : Nat) (cells : List (Nat × α)), cellsFrom u low cells = true → readCell u (writeCell u cells a x) a = x
  | _, [], _ => by
    unfold writeCell
    split
    · rename_i hx; simp [readCell, hx]
    · simp [readCell]
  | low, (k, v) :: rest, h => by
    simp only [cellsFrom, Bool.and_eq_true, decide_eq_true_eq] at h
    obtain ⟨⟨_, _⟩, hr⟩ := h
    unfold writeCell
    by_cases h1 : a < k
    · by_cases hx : x = u
      · simp [h1, hx, readCell, Nat.ne_of_lt h1]
      · simp [h1, hx, readCell]
    · by_cases h2 : a = k
      · by_cases hx : x = u
        · simp only [h2, hx, if_true, if_false, Nat.lt_irrefl]
          exact readCell_below u (k + 1) k rest hr (by omega)
        · simp [h2, hx, readCell]
      · simp only [h1, h2, if_false, readCell]
        exact readCell_write_same u x a (k + 1) rest hr

/-- A read of any other address is unchanged. -/
theorem readCell_write_other (u : α) (x : α) (a b : Nat) (hb : b ≠ a) :
    ∀ (low : Nat) (cells : List (Nat × α)), cellsFrom u low cells = true →
      readCell u (writeCell u cells a x) b = readCell u cells b
  | _, [], _ => by
    unfold writeCell
    split <;> simp [readCell, hb]
  | low, (k, v) :: rest, h => by
    simp only [cellsFrom, Bool.and_eq_true, decide_eq_true_eq] at h
    obtain ⟨⟨_, _⟩, hr⟩ := h
    unfold writeCell
    by_cases h1 : a < k
    · by_cases hx : x = u
      · simp [h1, hx]
      · simp only [h1, hx, if_true, if_false]
        by_cases h3 : b < a
        · have h4 : b < k := by omega
          simp [readCell, hb, h3, h4, Nat.ne_of_lt h4]
        · simp [readCell, hb, h3]
    · by_cases h2 : a = k
      · by_cases hx : x = u
        · simp only [h2, hx, if_true, if_false, Nat.lt_irrefl]
          subst h2
          simp only [readCell, hb, if_false]
          by_cases h3 : b < a
          · simp only [h3, if_true]
            exact readCell_below u (a + 1) b rest hr (by omega)
          · simp [h3]
        · subst h2
          simp [readCell, hb, hx]
      · simp only [h1, h2, if_false, readCell]
        by_cases h3 : b = k
        · simp [h3]
        · by_cases h4 : b < k
          · simp [h3, h4]
          · simp only [h3, h4, if_false]
            exact readCell_write_other u x a b hb (k + 1) rest hr

/-- A write keeps the canonical form. -/
theorem cellsFrom_write (u : α) (x : α) (a : Nat) :
    ∀ (low : Nat) (cells : List (Nat × α)), low ≤ a → cellsFrom u low cells = true →
      cellsFrom u low (writeCell u cells a x) = true
  | low, [], hl, _ => by
    unfold writeCell
    split
    · rfl
    · rename_i hx; simp [cellsFrom, hl, hx]
  | low, (k, v) :: rest, hl, h => by
    have h' := h
    simp only [cellsFrom, Bool.and_eq_true, decide_eq_true_eq] at h'
    obtain ⟨⟨hk, hv⟩, hr⟩ := h'
    unfold writeCell
    by_cases h1 : a < k
    · by_cases hx : x = u
      · simpa [h1, hx] using h
      · have : a + 1 ≤ k := h1
        simp [h1, hx, cellsFrom, hl, this, hv, hr]
    · by_cases h2 : a = k
      · by_cases hx : x = u
        · simp only [h2, hx, if_true, if_false, Nat.lt_irrefl]
          cases rest with
          | nil => rfl
          | cons c rest =>
            obtain ⟨k', v'⟩ := c
            simp only [cellsFrom, Bool.and_eq_true, decide_eq_true_eq] at hr ⊢
            exact ⟨⟨by omega, hr.1.2⟩, hr.2⟩
        · subst h2
          simp [hx, cellsFrom, hl, hr]
      · simp only [h1, h2, if_false, cellsFrom, Bool.and_eq_true, decide_eq_true_eq]
        exact ⟨⟨hk, hv⟩, cellsFrom_write u x a (k + 1) rest (by omega) hr⟩

/-- A write keeps the canonical form of a whole store. -/
theorem canonical_write (u : α) (x : α) (a : Nat) (cells : List (Nat × α)) (h : canonical u cells = true) :
    canonical u (writeCell u cells a x) = true := cellsFrom_write u x a 0 cells (Nat.zero_le a) h

omit [DecidableEq α] in
/-- The bytes a loader stores keep the canonical form of show memory. -/
theorem wf_writeShow (writes : List (Nat × Byte)) :
    ∀ cells : List Host.Cell, Memory.wf cells = true → Memory.wf (writeShow cells writes) = true := by
  induction writes with
  | nil => intro cells h; exact h
  | cons w rest ih =>
    intro cells h
    exact ih _ (canonical_write Memory.unlisted w.2 (w.1 % 1048576) cells h)

omit [DecidableEq α] in
/-- The memory of the state right after reset is in canonical form. -/
theorem wf_reset : Memory.wf State.reset.showMemory = true := rfl

end Sys2Proof.Machine
end

