-- ==== Sys2Proof/Laws/Ops.lean ====
section
/-! SUPPORT. What the shared operations answer: counters, frame order, published values, the remainder, the choice of a
message, idle sequences, the pixel port, the fetch queue and control lists. -/

namespace Sys2Proof.Machine

open Sys2Proof

/-! ## Counters -/

theorem raise16_le (n : Nat) : raise16 n ≤ 65535 := Nat.min_le_left _ _

theorem raise8_le (n : Nat) : raise8 n ≤ 255 := Nat.min_le_left _ _

theorem raise16By_le (k n : Nat) : raise16By k n ≤ 65535 := Nat.min_le_left _ _

theorem raise8By_le (k n : Nat) : raise8By k n ≤ 255 := Nat.min_le_left _ _

/-! ## Frame order -/

/-- No frame is later than itself. -/
@[simp] theorem later_self (f : FrameNo) : later f f = false := by simp [later, framesAhead]

/-- A frame more than `n` frames later is later. -/
theorem later_of_moreLater {n : Nat} {a b : FrameNo} (h : moreLater n a b = true) : later a b = true := by
  simp only [moreLater, later, Bool.and_eq_true, decide_eq_true_eq] at h ⊢
  omega

/-- Of two frames at most one is later than the other. -/
theorem later_asymm {a b : FrameNo} (h : later a b = true) : later b a = false := by
  simp only [later, Bool.and_eq_true, decide_eq_true_eq] at h
  simp only [later, Bool.and_eq_false_iff, decide_eq_false_iff_not]
  unfold framesAhead at h ⊢
  rw [BitVec.toNat_sub] at h ⊢
  have := a.isLt
  have := b.isLt
  omega

/-! ## Published values -/

/-- At the edge at which a value is published a reader obtains the one before it. -/
@[simp] theorem readBefore_publish {α : Type} (p : Published α) (edge : Nat) (v : α) :
    (p.publish edge v).readBefore edge = p.last := by simp [Published.publish, Published.readBefore]

/-- At a later edge a reader obtains the last value. -/
theorem readBefore_of_lt {α : Type} {p : Published α} {edge : Nat} (h : p.label < edge) : p.readBefore edge = p.last := by
  simp [Published.readBefore, Nat.ne_of_lt h]

/-! ## The remainder -/

/-- The remainder of a string goes on from that of its first part. -/
theorem crcFrom_append (r : BitVec 16) (a b : List Bool) : crcFrom r (a ++ b) = crcFrom (crcFrom r a) b := by
  induction a generalizing r with
  | nil => rfl
  | cons x rest ih =>
    simp only [List.cons_append, crcFrom]
    split <;> exact ih _

@[simp] theorem length_bitsOf (n v : Nat) : (bitsOf n v).length = n := by simp [bitsOf]

@[simp] theorem length_toBytes (n v : Nat) : (toBytes n v).length = n := by simp [toBytes]

/-! ## The link state from the counts -/

/-- R13: the three states outside DETACHED by the counts. -/
theorem ofCounts_spec (tec rc : Nat) :
    (LinkState.ofCounts tec rc = .quiet ↔ 100 ≤ tec ∨ 100 ≤ rc) ∧
      (LinkState.ofCounts tec rc = .active ↔ tec < 64 ∧ rc < 64) ∧ LinkState.ofCounts tec rc ≠ .detached := by
  unfold LinkState.ofCounts
  split
  · refine ⟨by simp_all, ?_, by simp⟩
    simp
    omega
  · split
    · refine ⟨by simp_all, ?_, by simp⟩
      simp
      omega
    · refine ⟨by simp_all, ?_, by simp⟩
      simp
      omega

/-! ## The message an attempt starts with -/

/-- R16: the choice fails only where no message is eligible. -/
theorem lowestOf_eq_none {l : List (SlotName × Envelope)} : lowestOf l = none ↔ l = [] := by
  cases l with
  | nil => simp [lowestOf]
  | cons x rest =>
    simp only [lowestOf]
    split
    · simp
    · split <;> simp

/-- R16, R21: the message chosen is one of those given, and none of them has a lower arbitration value. -/
theorem lowestOf_spec {l : List (SlotName × Envelope)} {x : SlotName × Envelope} (h : lowestOf l = some x) :
    x ∈ l ∧ ∀ y ∈ l, x.2.arbitration ≤ y.2.arbitration := by
  induction l generalizing x with
  | nil => simp [lowestOf] at h
  | cons a rest ih =>
    simp only [lowestOf] at h
    split at h
    · rename_i hn
      cases h
      rw [lowestOf_eq_none.mp hn]
      simp
    · rename_i y hy
      obtain ⟨hm, hl⟩ := ih hy
      split at h
      · cases h
        refine ⟨List.mem_cons_of_mem _ hm, fun z hz => ?_⟩
        rcases List.mem_cons.mp hz with rfl | hz
        · omega
        · exact hl z hz
      · cases h
        refine ⟨List.mem_cons_self, fun z hz => ?_⟩
        rcases List.mem_cons.mp hz with rfl | hz
        · exact Nat.le_refl _
        · have := hl z hz
          omega

/-! ## Idle sequences -/

/-- R14: a dominant bit lowers no number of completed sequences, and no bit does; a sequence in progress has under 14
bits. -/
theorem IdleCount.take_spec (c : IdleCount) (b : Bool) :
    c.done ≤ (c.take b).done ∧ (c.bits < 14 → (c.take b).bits < 14) := by
  unfold IdleCount.take
  repeat' split
  all_goals simp_all
  omega

/-! ## The pixel port -/

/-- R191: the levels of two stretches of line are taken one after another, and so do the packets arrive. -/
theorem PixelPort.run_append (p : PixelPort) (a b : List Bool) :
    p.run (a ++ b) = (((p.run a).1.run b).1, (p.run a).2 ++ ((p.run a).1.run b).2) := by
  induction a generalizing p with
  | nil => rfl
  | cons x rest ih => simp [PixelPort.run, ih, List.append_assoc]

/-! ## Control lists -/

/-- An entry that joins a list adds itself and keeps the others. -/
theorem mem_insertControl {f : FrameNo} {e x : ControlEntry} {l : List ControlEntry} :
    x ∈ insertControl f e l ↔ x = e ∨ x ∈ l := by
  induction l with
  | nil => simp [insertControl]
  | cons y rest ih =>
    simp only [insertControl]
    split
    · simp
    · simp only [List.mem_cons, ih]
      tauto

/-- R131: an entry joins the control list behind the entries it does not come before, and ahead of the first one it does. -/
theorem insertControl_split (f : FrameNo) (e : ControlEntry) (l : List ControlEntry) :
    ∃ before behind, l = before ++ behind ∧ insertControl f e l = before ++ e :: behind ∧
      (∀ x ∈ before, e.before f x = false) ∧ ∀ x ∈ behind.head?, e.before f x = true := by
  induction l with
  | nil => exact ⟨[], [], rfl, rfl, by simp, by simp⟩
  | cons x rest ih =>
    by_cases h : e.before f x = true
    · exact ⟨[], x :: rest, rfl, by simp [insertControl, h], by simp, by simpa using h⟩
    · obtain ⟨before, behind, rfl, he, hb, ha⟩ := ih
      refine ⟨x :: before, behind, rfl, by simp [insertControl, h, he], ?_, ha⟩
      simpa using ⟨by simpa using h, hb⟩

/-- The order of a list loses and adds nothing. -/
theorem mem_orderControl {f : FrameNo} {x : ControlEntry} {l : List ControlEntry} : x ∈ orderControl f l ↔ x ∈ l := by
  have h : ∀ (l q : List ControlEntry), x ∈ l.foldl (fun q e => insertControl f e q) q ↔ x ∈ q ∨ x ∈ l := by
    intro l
    induction l with
    | nil => simp
    | cons y rest ih =>
      intro q
      simp only [List.foldl_cons, ih, mem_insertControl, List.mem_cons]
      tauto
  simpa [orderControl] using h l []

/-! ## The fetch queue -/

/-- A request that joins the queue adds itself and keeps the others. -/
theorem mem_insertRequest {f : FrameNo} {r x : FetchRequest} {q : List FetchRequest} :
    x ∈ insertRequest f r q ↔ x = r ∨ x ∈ q := by
  induction q with
  | nil => simp [insertRequest]
  | cons y rest ih =>
    simp only [insertRequest]
    split
    · simp
    · simp only [List.mem_cons, ih]
      tauto

/-- The request chosen stands in the queue. -/
theorem firstRequest_mem {f : FrameNo} {q : List FetchRequest} {x : FetchRequest} (h : firstRequest f q = some x) : x ∈ q := by
  induction q generalizing x with
  | nil => simp [firstRequest] at h
  | cons a rest ih =>
    simp only [firstRequest] at h
    split at h
    · cases h
      exact List.mem_cons_self
    · rename_i y hy
      split at h
      · cases h
        exact List.mem_cons_of_mem _ (ih hy)
      · cases h
        exact List.mem_cons_self

/-- R105: no request of the queue comes before the one chosen. -/
theorem firstRequest_first {f : FrameNo} {q : List FetchRequest} {x : FetchRequest} (h : firstRequest f q = some x) :
    ∀ y ∈ q, y.before f x = false := by
  induction q generalizing x with
  | nil => simp [firstRequest] at h
  | cons a rest ih =>
    have self (z : FetchRequest) : z.before f z = false := by simp [FetchRequest.before]
    simp only [firstRequest] at h
    split at h
    · rename_i hn
      cases h
      have : rest = [] := by
        cases rest with
        | nil => rfl
        | cons b rest =>
          simp only [firstRequest] at hn
          split at hn
          · cases hn
          · split at hn <;> cases hn
      subst this
      simpa using self _
    · rename_i y hy
      have hl := ih hy
      split at h
      · rename_i hb
        cases h
        intro z hz
        rcases List.mem_cons.mp hz with rfl | hz
        · simp only [FetchRequest.before, Bool.or_eq_true, Bool.and_eq_true, decide_eq_true_eq] at hb
          simp only [FetchRequest.before, Bool.or_eq_false_iff, Bool.and_eq_false_iff, decide_eq_false_iff_not]
          omega
        · exact hl z hz
      · rename_i hb
        cases h
        intro z hz
        rcases List.mem_cons.mp hz with rfl | hz
        · exact self _
        · have hz' := hl z hz
          simp only [FetchRequest.before, Bool.or_eq_true, Bool.and_eq_true, decide_eq_true_eq] at hb
          simp only [FetchRequest.before, Bool.or_eq_false_iff, Bool.and_eq_false_iff, decide_eq_false_iff_not] at hz' ⊢
          omega

/-! ## The frame timer and the lanes -/

/-- R44, R65: the timer whose lock and role the edge now due works on is the running one that is not to start anew. -/
theorem runDue_eq_some {s : State} {r : TimerRun} : s.runDue = some r ↔ s.timer.run = some r ∧ r.restart = none := by
  simp [State.runDue, Option.filter_eq_some_iff]

/-- R114: lanes set up with bindings hold them. -/
@[simp] theorem bindings_initial (b : Vector (Option (Fin 16)) 4) (edge : Nat) :
    (LaneEngine.initial b edge).bindings = b := by
  apply Vector.ext
  intro i h
  simp [LaneEngine.bindings, LaneEngine.initial, Lane.initial]

end Sys2Proof.Machine
end

