-- ==== Sys2Proof/WellFormed.lean ====
section
/-! DEFINITION. Which commands the world can bring: payloads of at most 12 bytes, loader writes inside show memory, rail
samples up to the reference, unknown messages of a class and kind that no table lists. -/

namespace Sys2Proof

/-- Table 2-2: the classes and kinds of the listed messages. -/
def listedKind (cls : BitVec 2) (kind : BitVec 4) : Bool :=
  match cls.toNat with
  | 0 => kind.toNat ≤ 1
  | 1 => kind.toNat ≤ 3
  | 2 => kind.toNat ≤ 2
  | _ => kind.toNat = 0

/-- R4: a payload has 0 to 12 bytes. -/
def LinkMessage.wellFormed (m : LinkMessage) : Bool := m.payload.length ≤ 12

/-- R98: show memory has offsets 0 to 1,048,575. -/
def writesWellFormed (w : List (Nat × Byte)) : Bool := w.all fun c => c.1 < 1048576

/-- A command that the world can bring. -/
def Instr.wellFormed : Instr → Bool
  | .syncReceived m | .claimReceived m | .goReceived m | .holdReceived m | .releaseReceived m | .tallyReceived m
  | .queryReceived m | .answerReceived m | .statusReceived m | .restartReceived m => m.wellFormed
  | .unknownMessageReceived cls kind m => m.wellFormed && !listedKind cls kind
  | .railSample tile fixture _ => decide (tile ≤ 65536) && decide (fixture ≤ 65536)
  | .loaderRelease d => writesWellFormed d.writes
  | .coldReset _ | .resetRelease _ | .configReadEnd _ _ | .linkJoin | .attemptStart _ | .arbitrationLoss | .claimLoss
  | .linkFault _ _ | .detachedRecovery _ | .rowArrival _ | .messageSent | .frameEdge _ | .staleBeacon | .triggerExpired | .startEnd
  | .lockQuietLoss | .candidateChoice | .claimWindowEnd | .duplicateClear | .peerAgeOut _ | .wallHeld | .limitStepUp
  | .triggerQualified _ | .referencePulse _ | .referenceTimeout | .rowCommit | .fetchComplete | .fetchTimeout _
  | .loaderRequest => true

end Sys2Proof
end

