-- ==== Sys2Proof/Tests/Slice0.lean ====
section
/-! SUPPORT. Small tests of the commands, most with figures of the manual's worked cases, the smoke tests of WellFormed,
and a witness for every statement of Obligations.lean that has hypotheses. -/

namespace Sys2Proof.Tests

set_option Elab.async false

open Sys2Proof Sys2Proof.Machine

/-! ## States to test on -/

/-- The state a command leaves. -/
def after (c : Instr) (s : State) : State :=
  match exec c s with
  | .next t => t
  | _ => State.reset

/-- A configuration: 50 Hz, FIXED 12, two tiles, one zone (5.7.3), every lane bound to playback 2, the figures of the
worked cases for the scan, the fixtures and the budget (6.6.1, 9.5.1, 10.5). -/
def cfg : Config where
  timer := ⟨540000, 54, 27, 6, 20, 0, true⟩
  bitTime := 54
  mode := .fixed 12
  restartPermission := true
  anchorExpected := false
  ageLimit := 16
  fetchTimeout := 25
  holdLimit := 1
  paceTrigger := 4
  tiles := 2
  zones := [⟨0, 10, 13, 5, 6⟩]
  statusPeriod := 16
  gains := Vector.replicate 4 ⟨1024, 1024, 1024⟩
  profiles := Vector.replicate 9 ⟨8, 200⟩
  bindings := #v[some 2, some 6, none, none]
  groups := 1
  channels := Vector.replicate 36 ⟨.htp, 5000, 4, 0, .normal, 1⟩
  budget := ⟨32000, 16000, 4095, ⟨6000, 6000, 6000⟩, 8, 8, 4⟩
  pins :=
    #v[⟨.hold 2, .both, 0, 1, 3, 1, 1⟩, ⟨.release 2, .fall, 2, 1, 3, 1, 1⟩, ⟨.goNext 6, .rise, 2, 1, 3, 1, 1⟩,
      ⟨.tally 3, .both, 0, 1, 3, 1, 1⟩, ⟨.goNext 9, .rise, 0, 1, 3, 1, 1⟩, ⟨.none, .both, 0, 1, 3, 1, 1⟩,
      ⟨.goNext 2, .rise, 0, 1, 3, 7, 1⟩, ⟨.none, .rise, 0, 1, 3, 1, 1⟩]

/-- The same part with its number claimed from 8 to 11, preferred 9 (3.7.1). -/
def claimCfg : Config := { cfg with mode := .claim 8 11 9 }

/-- A frame timer at the edge of frame 2000, at tick 1,000,000. -/
def run : TimerRun := { TimerRun.fresh cfg.timer 1000000 with frame := 2000, previousEdge := some 460000, role := .free }

/-- The part held in RESET by both sources. -/
def held : State := State.inReset [] 0 0x00004100#32 [] false (.idle 20) [] true true

/-- A link that has joined. -/
def joined : Link := { Link.initial with joined := true, bitTime := 54 }

/-- A RUNNING part, FIXED 12. -/
def base : State :=
  { held with
    tick := 1000100
    config := some cfg
    startup :=
      { held.startup with
        phase := .running, pinHolds := false, supplyHolds := false, cause := some .cold, restartPermission := some true,
        anchorExpected := some false }
    link := joined
    number := { NumberUnit.initial with numbering := .fixed 12 }
    timer := ⟨some run, TimerCounters.zero, 7⟩
    lanes := LaneEngine.initial cfg.bindings 7
    output := OutputStage.initial (some (fixturePolarities cfg)) 7
    budget := { Budget.initial 32000 7 with observed := true } }

/-- The running part with another timer. -/
def timed (r : TimerRun) : State := { base with timer := { base.timer with run := some r } }

/-- The running part with another number unit, in mode CLAIM. -/
def numbered (n : Numbering) : State :=
  { base with config := some claimCfg, number := { base.number with numbering := n } }

/-- The running part with another link. -/
def linked (l : Link) : State := { base with link := l }

/-- A peer heard just now, in a role. -/
def peer (role : Option Role) : Peer := ⟨0, role, some 0, some (2000, 0)⟩

/-- The state with a peer present. -/
def withPeer (s : State) (n : Station) (p : Peer) : State := { s with peers := s.peers.set n.val (some p) n.isLt }

/-- An attempt of a message. -/
def attempt (source : SlotName) (m : Envelope) : Attempt := ⟨source, m, m.wireBits, 1000100, 77, .stays⟩

/-- A message from station 40. -/
def from40 (payload : List Byte) : LinkMessage := ⟨40, payload, 1003512⟩

/-- A GO for playback 2, group 0. -/
def goTo (cue execute : FrameNo) : LinkMessage :=
  from40 ([2, 0, 1] ++ toBytes 2 cue.toNat ++ toBytes 2 execute.toNat)

/-- A HOLD or RELEASE for playback 2, group 0. -/
def controlTo (execute : FrameNo) : LinkMessage := from40 ([2, 0, 1] ++ toBytes 2 execute.toNat)

/-- A SYNC payload of a leader: the case of 4.2.1 for frame 2000. -/
def syncOf (role : Role) : List Byte := syncPayload ⟨2000, 3375, role, 60⟩

/-- Cue 25 of 8.8.1: D = 0, N = 50, LINEAR, channel 4 to 50,000. -/
def cue25 : CueRecord := ⟨25, 50, 0, .linear, none, [⟨4, .fixed 50000⟩]⟩

/-- Show memory that holds cue 25 of playback 2: directory, list index and record with its check. -/
def show25 : List Host.Cell :=
  [(1032, 0), (1033, 16), (1034, 0), (1035, 1), (4096, 0), (4097, 25), (4098, 0), (4099, 32), (4100, 0), (8192, 0),
    (8193, 25), (8194, 0), (8195, 50), (8196, 0), (8197, 0), (8198, 1), (8199, 4), (8200, 0xc3), (8201, 0x50), (8202, 0xfa),
    (8203, 0xf3)]

/-- Cue 25 current at position `q`, channel 4 from 10,000. -/
def current (q : Nat) (running : Running) : CurrentCue :=
  ⟨cue25, 1990, 40, [⟨4, .fixed 50000, 10000, 50000⟩], q, 0, running, false⟩

/-- The running part with another lane 0. -/
def laned (l : Lane) : State :=
  { base with lanes := { base.lanes with lanes := base.lanes.lanes.set 0 l (by decide) } }

/-- Lane 0 with a current cue. -/
def playing (c : CurrentCue) : State := laned { Lane.initial (some 2) with current := some c }

/-- A pending GO for cue 25 at frame 2003. -/
def pendingGo (f : GoFetch) : PendingGo := ⟨25, 2003, 40, .message, f⟩

/-- The request of lane 0 for cue 25 at frame 2003. -/
def request (wait : Nat) : FetchRequest := ⟨0, 2, 25, 2003, wait⟩

/-- Lane 0 waits for the fetch in flight. -/
def fetching : State :=
  { laned { Lane.initial (some 2) with pending := some (pendingGo .asked) } with
    fetch := { base.fetch with port := .fetch, flight := some ⟨request 0, 1000000⟩ } }

/-- Lane 0 waits for a queued request. -/
def queuedFor (wait : Nat) : State :=
  { fetching with fetch := { base.fetch with port := .loader, grant := true, loaderRequest := true, queue := [request wait] } }

/-- A row whose pixels are all (1000, 1000, 1000). -/
def greyRow (tag : FrameNo) (tile row : Nat) : Row := ⟨tag, tile, row, List.replicate 64 ⟨1000, 1000, 1000⟩⟩

/-- A packet with that row of tile 0, row 3, tag 502, and its check. -/
def greyPacket : List Byte :=
  [1, 246, 3] ++ (List.replicate 32 [0x3e, 0x83, 0xe8, 0x3e, 0x83, 0xe8, 0x3e, 0x83, 0xe8]).flatten ++ [0x10, 0x24]

/-- A rest of the pixel port line, and that packet after it. -/
def greyLevels : List Bool := List.replicate 20 true ++ packetLevels greyPacket

/-- The first character of a packet, its stop bit low. -/
def brokenLevels : List Bool := false :: bitsOf 8 1 ++ [false]

/-- The running part at another frame, with another pixel ingest. -/
def fed (frame : FrameNo) (u : Ingest) : State :=
  { base with
    timer := { base.timer with run := some { run with frame := frame } }
    ingest := u }

/-- An empty pixel ingest. -/
def dry : Ingest := Ingest.initial []

/-- A back buffer under a tag, with rows of tile 0 received. -/
def buffer (state : BackState) (rows : List Nat) : BackBuffer :=
  { BackBuffer.cleared [] with state := state, received := #v[rows, [], [], []] }

/-- The running part with a back buffer, a writer row and a queue. -/
def writing (b : BackBuffer) (w : Option Row) (q : List Row) : State := fed 500 { dry with back := b, writer := w, queue := q }

/-- A configuration block in show memory: every byte FFh but the structural ones and the check; in
mode CLAIM profile 0 has M = 0. -/
def blockCells (pNom1 pNom2 pNom3 mode crc1 crc2 : Byte) : List Host.Cell :=
  [(0, pNom1), (1, pNom2), (2, pNom3), (3, 1), (4, mode), (5, 12), (6, 8), (7, 11), (8, 9), (23, 2), (24, 0)] ++
    (if mode = 1 then [(90, 0)] else []) ++ [(1022, crc1), (1023, crc2)]

/-- 12.6: P_nom 54,000, a loader error. -/
def badBlock : List Host.Cell := blockCells 0x00 0xd2 0xf0 0 0xfb 0x45

/-- P_nom 540,000, FIXED 12. -/
def fixedBlock : List Host.Cell := blockCells 0x08 0x3d 0x60 0 0x0a 0x05

/-- P_nom 540,000, CLAIM from 8 to 11. -/
def claimBlock : List Host.Cell := blockCells 0x08 0x3d 0x60 1 0xe6 0xfa

/-- The part in a phase, its configuration read holding the port, nothing running yet. -/
def reading (phase : Phase) (cells : List Host.Cell) : State :=
  { held with
    startup := { held.startup with phase := phase, pinHolds := false, supplyHolds := false, cause := some .cold, readAsked := true }
    fetch := { held.fetch with port := .configRead }
    showMemory := cells }

/-! ## Blocks judged -/

/-- The block of show memory passes its check, with a property of its values. -/
def passesWith (cells : List Host.Cell) (p : Config → Bool) : Bool :=
  match judgeBlock (readShowBytes cells 0 1024) with
  | .ok c => p c
  | .error _ => false

/-- The block of show memory fails its check for a reason. -/
def failsWith (cells : List Host.Cell) (e : LoadFault) : Bool :=
  match judgeBlock (readShowBytes cells 0 1024) with
  | .ok _ => false
  | .error x => decide (x = e)

theorem passes_of {cells : List Host.Cell} {p : Config → Bool} (h : passesWith cells p = true) :
    ∃ c, judgeBlock (readShowBytes cells 0 1024) = .ok c ∧ p c = true := by
  unfold passesWith at h
  split at h
  · rename_i c hc
    exact ⟨c, hc, h⟩
  · cases h

theorem fails_of {cells : List Host.Cell} {e : LoadFault} (h : failsWith cells e = true) :
    judgeBlock (readShowBytes cells 0 1024) = .error e := by
  unfold failsWith at h
  split at h
  · cases h
  · rename_i x hx
    simp only [decide_eq_true_eq] at h
    rw [hx, h]

/-- What Tables 12-3, 9-2, 10-2, 11-2 and R90 make of the FIXED block, whose other bytes are all FFh. -/
def fixedCfg : Config where
  timer := ⟨540000, 2700, 2700, 64, 255, 1023, true⟩
  bitTime := 54
  mode := .fixed 12
  restartPermission := true
  anchorExpected := true
  ageLimit := 1024
  fetchTimeout := 255
  holdLimit := 255
  paceTrigger := 6
  tiles := 2
  zones := []
  statusPeriod := 64
  gains := Vector.replicate 4 ⟨2047, 2047, 2047⟩
  profiles := Vector.replicate 9 ⟨16, 4095⟩
  bindings := Vector.replicate 4 none
  groups := 0xFFFF
  channels := Vector.replicate 36 ⟨.ltp, 10000, 128, 4095, .inverted, 65535⟩
  budget := ⟨200000, 200000, 65535, ⟨20000, 20000, 20000⟩, 15, 15, 255⟩
  pins := Vector.replicate 8 ⟨.none, .both, 15, 0xFFFF, 15, 65534, 255⟩

/-- The values are those. -/
def isFixed (c : Config) : Bool := decide (c = fixedCfg)

/-- CLAIM from 8 to 11, preferred 9, at 50 Hz. -/
def isClaim (c : Config) : Bool := decide (c.mode = .claim 8 11 9) && decide (c.timer.pNom = 540000)

theorem test_fixed_block_passes : passesWith fixedBlock isFixed = true := by decide +kernel

theorem test_claim_block_passes : passesWith claimBlock isClaim = true := by decide +kernel

theorem test_bad_block_fails : failsWith badBlock .period = true := by decide +kernel

theorem fixed_block_passes : judgeBlock (readShowBytes fixedBlock 0 1024) = .ok fixedCfg := by
  obtain ⟨c, h, m⟩ := passes_of test_fixed_block_passes
  unfold isFixed at m
  simp only [decide_eq_true_eq] at m
  rw [h, m]

theorem claim_block_passes :
    ∃ c, judgeBlock (readShowBytes claimBlock 0 1024) = .ok c ∧ c.mode = .claim 8 11 9 ∧ c.timer.pNom = 540000 := by
  obtain ⟨c, h, m⟩ := passes_of test_claim_block_passes
  unfold isClaim at m
  simp only [Bool.and_eq_true, decide_eq_true_eq] at m
  exact ⟨c, h, m.1, m.2⟩

theorem bad_block_fails : judgeBlock (readShowBytes badBlock 0 1024) = .error .period := fails_of test_bad_block_fails

/-- A read judges the block in show memory. -/
theorem judgeRead_of {s : State} {cells : List Host.Cell} (h : s.showMemory = cells) :
    s.judgeRead = judgeBlock (readShowBytes cells 0 1024) := by rw [← h, State.judgeRead]

theorem after_bad_read {s : State} {now : Stamp} {pins : BitVec 8} {e : LoadFault} (hr : s.reading = true)
    (hj : (s.advanceTo now).judgeRead = .error e) :
    after (.configReadEnd now pins) s = (s.advanceTo now).endRead.fail e := by
  simp [after, exec, execConfigReadEnd, hr, hj]

theorem after_good_read {s : State} {now : Stamp} {pins : BitVec 8} {c : Config} (hr : s.reading = true)
    (hj : (s.advanceTo now).judgeRead = .ok c) :
    after (.configReadEnd now pins) s = (s.advanceTo now).endRead.pass c now pins := by
  simp [after, exec, execConfigReadEnd, hr, hj]

/-! ## WellFormed -/

theorem test_wf_payload_too_long : (Instr.goReceived (from40 (List.replicate 13 0))).wellFormed = false := by decide

theorem test_wf_unknown_kind_is_listed : (Instr.unknownMessageReceived 1 3 (from40 [])).wellFormed = false := by decide

theorem test_wf_unknown_kind_unlisted : (Instr.unknownMessageReceived 3 1 (from40 [])).wellFormed = true := by decide

theorem test_wf_rail_above_reference : (Instr.railSample 65537 0 false).wellFormed = false := by decide

theorem test_wf_write_past_memory : (Instr.loaderRelease ⟨[(1048576, 0)], false⟩).wellFormed = false := by decide

/-! ## Reset and start -/

theorem test_cold_reset_keeps_tick :
    (after (.coldReset .pin) base).startup.phase = .reset ∧ (after (.coldReset .pin) base).tick = 1000100 := by decide +kernel

theorem test_release_needs_both :
    (after (.resetRelease .pin) held).startup.phase = .reset ∧
      (after (.resetRelease .supply) (after (.resetRelease .pin) held)).startup.phase = .configLoad := by decide +kernel

/-- 12.6: the read of a block with P_nom 54,000 leads to SAFE with reason PERIOD. -/
theorem test_config_read_bad :
    (after (.configReadEnd 16448 0) (reading .configLoad badBlock)).startup.phase = .safe ∧
      (after (.configReadEnd 16448 0) (reading .configLoad badBlock)).startup.lastLoadFault = some .period := by
  rw [after_bad_read (by decide +kernel) ((judgeRead_of (by decide +kernel)).trans bad_block_fails)]
  decide +kernel

/-- 12.6: the corrected block brings the SAFE node to RUNNING with cause RELOAD and frame 0. -/
theorem test_config_read_good :
    (after (.configReadEnd 16448 0) (reading .safe fixedBlock)).startup.cause = some .reload ∧
      ((after (.configReadEnd 16448 0) (reading .safe fixedBlock)).timer.run.map fun r => (r.frame, r.length)) =
        some (0, 540000) := by
  rw [after_good_read (by decide +kernel) ((judgeRead_of (by decide +kernel)).trans fixed_block_passes)]
  decide +kernel

theorem test_restart_for_another_number : (after (.restartReceived (from40 [13])) base).startup.phase = .running := by
  decide +kernel

/-- R114, R138: the bindings, the group set and the follow slews are held through the restart. -/
theorem test_restart_holds_bindings :
    (after (.restartReceived (from40 [12])) base).lanes.bindings = cfg.bindings ∧
      (after (.restartReceived (from40 [12])) base).config = some cfg := by decide +kernel

theorem test_restart_for_own_number : (after (.restartReceived (from40 [12])) base).startup.phase = .configLoad := by
  decide +kernel

/-! ## The link controller -/

theorem test_link_join : (after .linkJoin (linked Link.initial)).link.joined = true := by decide +kernel

/-- Table 2-3: the arbitration values of node 5, with a CLAIM for candidate 12. -/
theorem test_arbitration_values :
    [envelope .sync 5 [], envelope .claim 12 [], envelope .go 5 [], envelope .hold 5 [], envelope .release 5 [],
        envelope .tally 5 [], envelope .answer 5 [], envelope .status 5 []].map Envelope.arbitration =
      [5, 76, 1029, 1093, 1157, 1221, 2117, 3077] := by decide +kernel

/-- R16, Table 2-3: a TALLY (1221) goes before a STATUS (3077). -/
def tallyAndStatus : State :=
  linked
    { joined with
      tally := ⟨some ⟨8, 8⟩, none, false⟩
      status := ⟨some ⟨0, 0, 0, 0, 0, 0, 0, 0, 0⟩, none, false⟩ }

theorem test_attempt_lowest_value :
    (after (.attemptStart 1000200) tallyAndStatus).link.attempt.map (fun a => (a.source, a.message.arbitration)) =
      some (.tally, 1228) := by decide +kernel

theorem test_arbitration_loss_keeps_message :
    (after .arbitrationLoss (after (.attemptStart 1000200) tallyAndStatus)).link = tallyAndStatus.link := by decide +kernel

/-- 3.7.1: node S, claiming 10 with 8 and 9 present, loses to T in the serial and chooses 11. -/
def claiming10 : State :=
  let s := withPeer (withPeer (numbered (.claiming 10 none)) 8 (peer none)) 9 (peer none)
  { s with
    link :=
      { joined with
        claim := ⟨some ⟨10, s.serial⟩, none, false⟩
        attempt := some (attempt .claim (envelope .claim 10 [0, 0, 0x41, 0])) } }

theorem test_claim_loss_chooses_again :
    (after .claimLoss claiming10).number.numbering = .claiming 11 none ∧ (after .claimLoss claiming10).number.taken = [10] := by
  decide +kernel

/-- 3.7.2, R30: a defending CLAIM that is lost makes the node yield. -/
def holding10 : State := { claiming10 with number := { claiming10.number with numbering := .holding 10 } }

theorem test_claim_loss_yields :
    (after .claimLoss holding10).number.numbering = .claiming 11 none ∧ (after .claimLoss holding10).number.counters.yield = 1 := by
  decide +kernel

/-- Table 2-7: TEC and link state after successive level faults: 6, 66, 96, 102 and 204 held at 200. -/
def faulted (tec : Nat) : Link :=
  (after (.linkFault .level .past)
    (linked { joined with tecCount := tec, attempt := some (attempt .tally (envelope .tally 12 [8, 8])) })).link

theorem test_level_faults :
    ((faulted 0).tecCount, (faulted 60).state, (faulted 90).state, (faulted 96).state, (faulted 198).tecCount,
        (faulted 198).state) = (6, .caution, .caution, .quiet, 200, .detached) := by decide +kernel

theorem test_no_ack_alone_is_free :
    (after (.linkFault .noAck .past)
        (linked { joined with attempt := some (attempt .tally (envelope .tally 12 [8, 8])) })).link.tecCount = 0 := by
  decide +kernel

/-- R14: 896 recessive bits end DETACHED; a dominant bit after 895 costs one sequence only. -/
def detachedLink : State := linked { joined with state := .detached, tecCount := 200 }

theorem test_detached_recovery :
    (after (.detachedRecovery idleLink) detachedLink).link.counters.detach = 1 ∧
      (after (.detachedRecovery idleLink.tail) detachedLink).link.idle = ⟨13, 63⟩ := by
  decide +kernel

theorem test_dominant_restarts_sequence :
    (after (.detachedRecovery (idleLink.tail ++ false :: List.replicate 13 true)) detachedLink).link.state = .detached ∧
      (after (.detachedRecovery (idleLink.tail ++ false :: List.replicate 14 true)) detachedLink).link.state = .active := by
  decide +kernel

/-- R10: a CHECK fault found by a receiver in ACTIVE: 9 dominant bits after the acknowledge delimiter. -/
theorem test_check_fault_signal :
    ((after (.linkFault .check .past) base).link.signal.map fun e => (e.start, e.driven true)) =
      some (.afterAckDelimiter, List.replicate 4 true ++ List.replicate 9 false) := by decide +kernel

/-- R3, R7: an inserted dominant bit sampled recessive. -/
theorem test_inserted_mismatch : txFinding .inserted false true = .fault .coding := by decide

/-- R15: a STATUS sent leaves the code UNCHANGED. -/
theorem test_status_sent :
    (after .messageSent
        (linked
          { joined with
            lastFault := .level
            attempt := some (attempt .status (envelope .status 12 [])) })).link.lastFault = .unchanged := by decide +kernel

/-- R58: the lateness of the SYNC sent is recorded. -/
theorem test_sync_sent :
    ((after .messageSent (linked { joined with attempt := some (attempt .sync (envelope .sync 12 [])) })).timer.run.map
        fun r => r.lastLateness) = some 77 := by decide +kernel

/-- R3: a SYNC from node 5 begins with the start bit and six dominant bits of the arbitration field 000000000101, the
inserted recessive bit, the rest of the field and the first bit of the length. -/
theorem test_wire_starts :
    (envelope .sync 5 []).wireBits.take 15 =
      [false, false, false, false, false, false, false, true, false, false, false, true, false, true, false] := by
  decide +kernel

/-! ## Messages received -/

/-- 4.2.1: the SYNC of a leader 60 m away gives e = +109. -/
def following : TimerRun := { run with role := .following 40 Lock.fresh false }

theorem test_sync_measured :
    ((after (.syncReceived (from40 (syncOf .leading))) (timed following)).timer.run.bind fun r => r.held.map fun m => m.e) =
      some 109 := by decide +kernel

theorem test_sync_too_late :
    (after (.syncReceived (from40 (syncPayload ⟨2000, 810000, .leading, 60⟩))) base).timer.counters.beaconRefused = 1 := by
  decide +kernel

/-- 3.7.2: U's CLAIM for 11 with a higher serial is defended; one with a lower serial makes S yield. -/
theorem test_claim_defended :
    (after (.claimReceived ⟨11, [0, 0, 0x50, 0], 1003512⟩) (numbered (.holding 11))).number.counters.defence = 1 := by
  decide +kernel

theorem test_claim_yields :
    (after (.claimReceived ⟨11, [0, 0, 0x40, 0], 1003512⟩) (numbered (.holding 11))).number.numbering = .claiming 9 none := by
  decide +kernel

theorem test_go_pends :
    ((after (.goReceived (goTo 25 2003)) base).lane 0).pending = some (pendingGo .asked) ∧
      (after (.goReceived (goTo 25 2003)) base).fetch.port = .fetch := by decide +kernel

theorem test_go_out_of_window : (after (.goReceived (goTo 25 1700)) base).lanes.counts.windowRefused = 1 := by decide +kernel

/-- 8.8.1: a HOLD for a frame 4 frames past takes the cue from q = 14 to q = 10. -/
theorem test_hold_late :
    (((after (.holdReceived (controlTo 1996)) (playing (current 14 .run))).lane 0).current.map fun c => (c.position, c.running)) =
      some (10, .paused 4 1996) := by decide +kernel

/-- 8.8.1: a RELEASE 3 frames past, pause age 23, resumes with q = 13. -/
theorem test_release_late :
    (((after (.releaseReceived (controlTo 1997)) (playing (current 10 (.paused 23 1977)))).lane 0).current.map
        fun c => (c.position, c.running)) = some (13, .run) := by decide +kernel

theorem test_tally_mask :
    (after (.tallyReceived (from40 [8, 8])) base).triggers.cameras.get 3 = ⟨true, some 40⟩ ∧
      (after (.tallyReceived (from40 [8, 8])) base).triggers.cameras.get 2 = ⟨false, none⟩ := by decide +kernel

/-- R175, Table 13-8: serial, mode FIXED, numbering state FIXED, number 12, no duplicate, first counter. -/
theorem test_query_answered :
    ((after (.queryReceived (from40 [12, 0, 0])) base).link.answer.pending.map fun a => a.data) =
      some [0, 0, 0x41, 0, 0, 0, 12, 0, 0, 0] := by decide +kernel

theorem test_answer_marks_present : (after (.answerReceived (from40 (List.replicate 12 0))) base).peers.get 40 ≠ none := by
  decide +kernel

theorem test_status_role :
    ((after (.statusReceived (from40 [2, 0, 255, 0, 0, 0, 255, 0, 0, 0])) base).peers.get 40).bind (fun p => p.role) =
      some .leading := by decide +kernel

theorem test_unknown_message_marks_present : (after (.unknownMessageReceived 3 1 (from40 [])) base).peers.get 40 ≠ none := by
  decide +kernel

/-! ## Numbers and peers -/

/-- 3.7.1: at the edge of frame 32, with 8 and 9 present, the candidate is 10. -/
theorem test_candidate_choice :
    (after .candidateChoice (withPeer (withPeer (numbered (.listen 31)) 8 (peer none)) 9 (peer none))).number.numbering =
      .claiming 10 none := by decide +kernel

/-- 3.8.1: at a retry the listen count stays 0 at the edge of the retry, and is 1 at the next. -/
theorem test_retry_counts_from_next_edge :
    let s := after (.peerAgeOut 8) (withPeer (numbered .numberless) 8 { peer none with silence := 15 })
    (s.number.numbering, (after (.frameEdge 0) s).number.numbering,
        (after (.frameEdge 0) (after (.frameEdge 0) s)).number.numbering) = (.listen 0, .listen 0, .listen 1) := by
  decide +kernel

theorem test_claim_window_end : (after .claimWindowEnd (numbered (.claiming 11 (some 7)))).number.numbering = .holding 11 := by
  decide +kernel

theorem test_duplicate_clears :
    (after .duplicateClear
        { base with number := { base.number with duplicate := true, duplicateQuiet := 255 } }).number.duplicate = false := by
  decide +kernel

theorem test_peer_ages_out :
    (after (.peerAgeOut 40) (withPeer base 40 { peer none with silence := 15 })).peers.get 40 = none := by decide +kernel

/-! ## The frame timer -/

/-- 4.2.1: at the edge with e = +109, Pf becomes 138,240,109 and L 540,013. -/
theorem test_edge_slews :
    ((after (.frameEdge 0) (timed { following with held := some ⟨109, none⟩ })).timer.run.map
        fun r => (r.pf, r.fraction, r.length, r.lastEdge)) = some (138240109, 109, 540013, 1540000) := by decide +kernel

/-- 4.2.1: the third row: accumulator 71 with a carry, L 540,014. -/
theorem test_edge_carries :
    ((after (.frameEdge 0)
          (timed { following with pf := 138240109, fraction := 109, length := 540013, held := some ⟨109, none⟩ })).timer.run.map
        fun r => (r.pf, r.fraction, r.length)) = some (138240218, 71, 540014) := by decide +kernel

theorem test_start_end_leads : ((after .startEnd (timed { run with role := .start 11 })).timer.run.map fun r => r.role) = some .leading := by
  decide +kernel

theorem test_lock_quiet_loss :
    (after .lockQuietLoss (timed { run with role := .following 40 ⟨.locked, 8, 0, 5⟩ false })).timer.counters.lockLoss = 1 := by
  decide +kernel

/-- R55: the fourth good interval makes the capture valid. -/
theorem test_reference_pulse :
    ((after (.referencePulse 1540000) (timed { run with capture := ⟨some 1000000, 3, false⟩ })).timer.run.map
        fun r => r.capture) = some ⟨some 1540000, 4, true⟩ := by decide +kernel

theorem test_reference_timeout :
    (after .referenceTimeout (timed { run with capture := ⟨some 1000000, 4, true⟩ })).timer.counters.referenceLoss = 1 := by
  decide +kernel

theorem test_stale_beacon :
    (after .staleBeacon (linked { joined with sync := ⟨some ⟨2000, 1000000, .leading, 0⟩, none, false⟩ })).link.counters.stale = 1 := by
  decide +kernel

/-- R19: at the edge of frame 2001 a message for 1993 is 8 frames past, one for 1994 is not. -/
theorem test_trigger_expired :
    (after .triggerExpired
        (linked { joined with triggers := [⟨.hold, 2, 1, 1993⟩, ⟨.hold, 2, 1, 1994⟩] })).link.triggers =
      [⟨.hold, 2, 1, 1994⟩] := by decide +kernel

/-! ## Pictures -/

theorem test_row_taken : (after (.rowArrival greyLevels) (fed 500 dry)).ingest.writer = some (greyRow 502 0 3) := by
  decide +kernel

theorem test_row_broken : (after (.rowArrival brokenLevels) base).ingest.counts.bad = 1 := by decide +kernel

/-- 5.7.2: row (503, 0, 0) supersedes the buffer OPEN(502). -/
theorem test_commit_supersedes :
    (after .rowCommit (writing (buffer (.opened 502) [3]) (some (greyRow 503 0 0)) [])).ingest.back.state = .opened 503 ∧
      (after .rowCommit (writing (buffer (.opened 502) [3]) (some (greyRow 503 0 0)) [])).ingest.counts.superseded = 1 := by
  decide +kernel

/-- 5.7.2: row (501, 0, 4) is stale against OPEN(502). -/
theorem test_commit_stale :
    (after .rowCommit (writing (buffer (.opened 502) [3]) (some (greyRow 501 0 4)) [])).ingest.counts.stale = 1 := by
  decide +kernel

theorem test_wall_held : (after .wallHeld { base with wall := { base.wall with repeatRun := 1 } }).wall.held = true := by
  decide +kernel

/-- 6.6.1: one pixel through the chain. -/
theorem test_pixel_chain :
    let d := ScanDrive.form ⟨8, 200⟩ 540013 ((Vector.replicate 36 65535).set 33 49151) 61439
    (gained 3000 1100, d.q4 3222 0, d.slotLength, d.lastLength, d.lit, d.onTime 3222 0) =
      (3222, 2265, 67501, 67506, 67301, 37225) := by decide +kernel

/-! ## Show memory, lanes and outputs -/

theorem test_fetch_done : ((after .fetchComplete { fetching with showMemory := show25 }).lane 0).pending = some (pendingGo (.ready cue25)) := by
  decide +kernel

theorem test_fetch_not_found : (after .fetchComplete fetching).fetch.counters.notFound = 1 := by decide +kernel

theorem test_fetch_timeout : (after (.fetchTimeout 0) (queuedFor 24)).fetch.counters.timeout = 1 := by decide +kernel

theorem test_loader_request : (after .loaderRequest base).fetch.grant = true := by decide +kernel

theorem test_loader_release :
    readShow (after (.loaderRelease ⟨[(5, 7), (5, 0xff)], false⟩) (queuedFor 0)).showMemory 5 = 0xff ∧
      (after (.loaderRelease ⟨[(5, 7)], false⟩) (queuedFor 0)).showMemory = [(5, 7)] := by decide +kernel

/-- R186: the request of a SAFE node's loader has risen again: the read waits for the end of the second grant. -/
theorem test_loader_rises_again :
    let s := { queuedFor 0 with startup := { base.startup with phase := .safe } }
    let t := after (.loaderRelease ⟨[], true⟩) s
    t.fetch.port = .loader ∧ t.fetch.counters.grant = 1 ∧ t.startup.readAsked = true ∧
      (after (.loaderRelease ⟨[], false⟩) t).fetch.port = .configRead ∧
      (after (.loaderRelease ⟨[], false⟩) s).fetch.port = .configRead := by decide +kernel

/-- 8.6.1: one step of a fade. -/
theorem test_fade_step :
    (fadeLevel 10000 50000 (Curve.weight .linear 20 50), fadeLevel 10000 50000 (Curve.weight .square 20 50),
        fadeLevel 10000 50000 (Curve.weight .step 20 50), fadeLevel 50000 10000 (Curve.weight .linear 20 50)) =
      (25999, 16399, 10000, 34001) := by decide +kernel

/-- 8.8.1: paused at q = 10, channel 4 stands at 17,999 from the next edge on. -/
theorem test_edge_forms_levels :
    let l : Lane :=
      { Lane.initial (some 2) with
        current := some (current 10 (.paused 4 1996))
        levels := (Vector.replicate 36 none).set 4 (some ⟨21199, .fixed 50000⟩) }
    ((after (.frameEdge 0) (laned l)).output.merged.last.get 4) = 17999 := by decide +kernel

/-- R132: after a renumbering to 1210 an entry for 1010 is due though one for 33847 stands before it. -/
theorem test_due_entry_behind_later :
    (({ Lane.initial (some 2) with
          current := some (current 10 .run), control := [⟨.hold, 33847⟩, ⟨.hold, 1010⟩] } : Lane).takeControl 1210).control =
        [⟨.hold, 33847⟩] ∧
      (({ Lane.initial (some 2) with
            current := some (current 10 .run), control := [⟨.hold, 33847⟩, ⟨.hold, 1010⟩] } : Lane).takeControl 1210).condition =
        .paused := by decide +kernel

/-- Table 9-4. -/
theorem test_duties :
    (dutyOf 24374 540013 0, dutyOf 24374 135003 0, dutyOf 24374 4218 0, dutyOf 100 135003 0, dutyOf 100 135003 400,
        dutyOf 100 4218 4095) = (200840, 50210, 1568, 205, 400, 4095) := by decide +kernel

/-! ## Budget and triggers -/

theorem test_rail_sag : (after (.railSample 65536 32767 false) base).budget.counts = ⟨0, 1, 0, 0⟩ := by decide +kernel

/-- 10.3.1: after four clean frames the limit rises from 24,000 to 25,000. -/
theorem test_limit_step_up :
    (after .limitStepUp { base with budget := { base.budget with effectiveLimit := 24000, recoveryRun := 3 } }).budget.effectiveLimit =
      25000 := by decide +kernel

/-- R160: with a recovery length of 1 the limit rises once at an edge, LIMIT_STEP_UP sent twice and FRAME_EDGE together. -/
theorem test_limit_steps_once :
    let one : State :=
      { base with
        config := some { cfg with budget := { cfg.budget with recoveryLength := 1 } }
        budget := { base.budget with effectiveLimit := 24000 } }
    (after (.frameEdge 0) (after .limitStepUp (after .limitStepUp one))).budget.effectiveLimit = 25000 := by
  decide +kernel

/-- 10.3.1, 10.5, 10.5.1: target scales. -/
theorem test_target_scales :
    (targetScale 30000 28000 4095, targetScale 30000 24000 4095, targetScale 32000 30000 4095, targetScale 32000 2000 4095,
        targetScale 32000 1750 4095, newScale 65535 61439) = (61165, 52427, 61439, 4095, 4095, 62463) := by decide +kernel

/-- 11.1.1: pin 2, step 1, on cue 12 of the lane bound to playback 6: GO for cue 13. -/
def buttonState : State :=
  { base with
    lanes :=
      { base.lanes with
        lanes :=
          base.lanes.lanes.set 1
            { Lane.initial (some 6) with
              current := some { current 50 .run with record := { cue25 with number := 12 } } } }
    triggers := { base.triggers with pins := base.triggers.pins.set 2 ⟨some false, 2⟩ } }

theorem test_trigger_qualified :
    (after (.triggerQualified ⟨2, 4⟩) buttonState).link.triggers = [⟨.go 13, 6, 1, 2004⟩] := by decide +kernel

/-! ## Witnesses: the step, reset, start and restart -/

theorem witness_IdleStepIsATick :
    held.pending = [] ∧ held.startup.phase = .reset ∧ base.pending = [] ∧ base.startup.phase ≠ .reset := by decide +kernel

theorem witness_QueueSerialAndMemoryKept :
    exec .linkJoin base = .next (after .linkJoin base) ∧ ∀ w, Instr.linkJoin ≠ .loaderRelease w :=
  ⟨rfl, fun _ h => by cases h⟩

theorem witness_AbsentEventsChangeNothing :
    held.startup.phase ≠ .running ∧ held.timer.run = none ∧ held.link.attempt = none ∧ held.link.state ≠ .detached ∧
      held.fetch.flight = none := by decide +kernel

theorem witness_ReleaseEntersConfigLoad :
    held.startup.phase = .reset ∧
      ((held.startup.pinHolds && decide (ResetReleaser.pin = .supply)) ||
        (held.startup.supplyHolds && decide (ResetReleaser.pin = .pin))) = true ∧
      ((held.startup.pinHolds && decide (ResetReleaser.both = .supply)) ||
        (held.startup.supplyHolds && decide (ResetReleaser.both = .pin))) = false := by decide +kernel

theorem witness_FailedBlockLeadsToSafe :
    (reading .configLoad badBlock).reading = true ∧ (reading .configLoad badBlock).judgeRead = .error .period ∧
      (reading .configLoad badBlock).fetch.loaderRequest = false ∧ (reading .configLoad badBlock).fetch.queue = [] ∧
      (let s := { reading .configLoad badBlock with fetch := { held.fetch with port := .configRead, loaderRequest := true } }
       s.reading = true ∧ s.fetch.loaderRequest = true) :=
  ⟨by decide +kernel, (judgeRead_of rfl).trans bad_block_fails, by decide +kernel, by decide +kernel, by decide +kernel⟩

theorem witness_PassedBlockStartsThePart :
    ((reading .safe fixedBlock).reading = true ∧ (reading .safe fixedBlock).startup.phase = .safe ∧
      (reading .safe fixedBlock).timer.run = none ∧
      ∃ c, (reading .safe fixedBlock).judgeRead = .ok c ∧ c.mode = .fixed 12) ∧
      (reading .configLoad claimBlock).reading = true ∧ (reading .configLoad claimBlock).timer.run = none ∧
        (reading .configLoad claimBlock).number.kept = none ∧
        ∃ c, (reading .configLoad claimBlock).judgeRead = .ok c ∧ c.mode = .claim 8 11 9 := by
  refine ⟨⟨by decide +kernel, by decide +kernel, by decide +kernel, ?_⟩, by decide +kernel, by decide +kernel, by decide +kernel, ?_⟩
  · exact ⟨fixedCfg, (judgeRead_of rfl).trans fixed_block_passes, rfl⟩
  · obtain ⟨c, h, m⟩ := claim_block_passes
    exact ⟨c, (judgeRead_of rfl).trans h, m.1⟩

/-- The part reading its block after a warm restart, its frame timer running, number `n` kept. -/
def restarting (n : Station) : State :=
  { reading .configLoad claimBlock with
    timer := ⟨some run, TimerCounters.zero, 7⟩
    number := { NumberUnit.initial with kept := some n } }

/-- The frame timer of the part before the restart, with another P_nom than the new block's. -/
def slowRun : TimerRun := { run with config := { run.config with pNom := 600000 } }

theorem witness_RestartKeepsNumberAndTimer :
    (∃ c, (restarting 8).judgeRead = .ok c ∧ (restarting 11).judgeRead = .ok c ∧ (restarting 12).judgeRead = .ok c ∧
      c.mode = .claim 8 11 9 ∧ c.timer.pNom = run.config.pNom ∧ c.timer.pNom ≠ slowRun.config.pNom) ∧
      ((restarting 8).reading = true ∧ (restarting 8).startup.phase = .configLoad ∧
        (restarting 8).timer.run = some run ∧ (restarting 8).number.kept = some 8 ∧ (8 : Station) ≤ 8 ∧
        (11 : Station) ≤ 11 ∧ (restarting 12).number.kept = some 12 ∧ (11 : Station) < 12 ∧
        (restarting 7).number.kept = some 7 ∧ (7 : Station) < 8) ∧
      (let s : State := { restarting 8 with timer := ⟨some slowRun, TimerCounters.zero, 7⟩ }
       s.reading = true ∧ s.judgeRead = (restarting 8).judgeRead ∧ s.timer.run = some slowRun) ∧
      (let s : State := { restarting 8 with number := NumberUnit.initial }
       s.reading = true ∧ s.judgeRead = (restarting 8).judgeRead ∧ s.number.kept = none) ∧
      let s : State := { restarting 8 with showMemory := fixedBlock }
      s.reading = true ∧ s.judgeRead = .ok fixedCfg ∧ fixedCfg.mode = .fixed 12 ∧ s.startup.phase = .configLoad ∧
        s.timer.run = some run := by
  obtain ⟨c, h, m⟩ := claim_block_passes
  refine ⟨⟨c, (judgeRead_of rfl).trans h, (judgeRead_of rfl).trans h, (judgeRead_of rfl).trans h, m.1,
      m.2.trans (by decide +kernel), ?_⟩,
    by decide +kernel, ⟨by decide +kernel, rfl, rfl⟩, ⟨by decide +kernel, rfl, rfl⟩, by decide +kernel,
    (judgeRead_of rfl).trans fixed_block_passes, rfl, rfl, rfl⟩
  rw [m.2]
  decide +kernel

theorem witness_RestartJudged :
    base.receives = true ∧ base.heldNumber = some 12 ∧ (from40 [12]).origin ≠ 12 ∧ (12 : Byte).toNat = (12 : Station).val ∧
      (13 : Byte).toNat ≠ (12 : Station).val ∧ base.startup.restartPermission = some true ∧
      ({ base with startup := { base.startup with restartPermission := some false } } : State).receives = true ∧
      ({ base with startup := { base.startup with restartPermission := some false } } : State).startup.restartPermission ≠
        some true := by decide +kernel

/-! ## Witnesses: the link controller -/

/-- A link with every slot filled. -/
def fullLink : Link :=
  { joined with
    sync := ⟨some ⟨2000, 1000000, .leading, 0⟩, none, false⟩
    claim := ⟨some ⟨12, 0x4100⟩, none, false⟩
    tally := ⟨some ⟨8, 8⟩, none, false⟩
    status := ⟨some ⟨0, 0, 0, 0, 0, 0, 0, 0, 0⟩, none, false⟩
    answer := ⟨some ⟨40, 0, 0, List.replicate 10 0⟩, none, false⟩
    triggers := [⟨.hold, 2, 1, 2003⟩] }

theorem witness_AttemptTakesLowestValue :
    (let s := linked { joined with sync := fullLink.sync }
     s.mayContend = true ∧ s.heldNumber = some 12 ∧ s.link.sync.pending = some ⟨2000, 1000000, .leading, 0⟩ ∧
       s.link.claim.pending = none ∧ s.link.tally.pending = none ∧ s.link.status.pending = none ∧
       s.link.answer.pending = none ∧ s.link.triggers = []) ∧
      tallyAndStatus.mayContend = true ∧ (tallyAndStatus.advanceTo 1000200).eligible 1000200 ≠ [] ∧
      base.startup.phase = .running := by decide +kernel

theorem witness_NumberingGatesTheSlots :
    (linked fullLink).number.numbering = .fixed 12 ∧ ((linked fullLink).eligible 1000200).length = 6 ∧
      (({ numbered (.claiming 12 none) with link := fullLink } : State).eligible 1000200).map Prod.fst = [.claim] ∧
      fullLink.claim.pending = some ⟨12, 0x4100⟩ := by
  decide +kernel

/-- A TALLY of the node in transmission, with the other slots filled. -/
def sending (source : SlotName) : Link := { fullLink with attempt := some (attempt source (envelope .tally 12 [8, 8])) }

theorem fullLink_settled (source : SlotName) : (sending source).Settled := ⟨⟨rfl, rfl⟩, ⟨rfl, rfl⟩, ⟨rfl, rfl⟩, ⟨rfl, rfl⟩, rfl, rfl⟩

theorem witness_ArbitrationLossKeepsTheMessage :
    (linked (sending .tally)).link.attempt = some (attempt .tally (envelope .tally 12 [8, 8])) ∧
      (attempt .tally (envelope .tally 12 [8, 8])).fate = .stays ∧ (linked (sending .tally)).link.Settled ∧
      (linked { sending .status with status := ⟨none, some ⟨1, 0, 0, 0, 0, 0, 0, 0, 0⟩, false⟩ }).link.status.deferred =
        some ⟨1, 0, 0, 0, 0, 0, 0, 0, 0⟩ := by
  refine ⟨by decide +kernel, by decide +kernel, fullLink_settled _, by decide +kernel⟩

/-- Node S as above, with no number left once 10 is taken. -/
def lastClaim : State := withPeer claiming10 11 (peer none)

theorem witness_ClaimLossChoosesAgain :
    (claiming10.config = some claimCfg ∧ claimCfg.mode = .claim 8 11 9 ∧
      claiming10.link.attempt = some (attempt .claim (envelope .claim 10 [0, 0, 0x41, 0])) ∧
      claiming10.number.numbering = .claiming 10 none ∧ claiming10.number.taken = []) ∧
      (claiming10.withTaken 10).Chosen 8 11 9 11 ∧ (∀ n, ¬ (lastClaim.withTaken 10).FreeIn 8 11 n) ∧
      lastClaim.number.numbering = .claiming 10 none ∧ lastClaim.link.attempt = claiming10.link.attempt ∧
      holding10.number.numbering = .holding 10 ∧ holding10.config = some claimCfg ∧
      holding10.link.attempt = claiming10.link.attempt := by
  unfold State.Chosen State.FreeIn
  decide +kernel

/-- A receiver that has found a CHECK fault, its signal to come after the acknowledge delimiter. -/
def checkFailed : State := after (.linkFault .check .past) base

theorem witness_FaultRaisesItsCount :
    (base.startup.phase = .running ∧ base.link.joined = true ∧ base.link.attempt = none ∧ base.link.signal = none ∧
      base.link.state ≠ .detached ∧ LinkFaultKind.check ≠ .level ∧ LinkFaultKind.check ≠ .noAck) ∧
      (let s := withPeer (linked { sending .tally with tecCount := 193 }) 40 (peer none)
       s.startup.phase = .running ∧ s.link.joined = true ∧ s.link.attempt = (sending .tally).attempt ∧ s.link.signal = none ∧
         s.link.state ≠ .detached ∧ s.link.tecCount < 194 ∧ s.presentCount ≠ 0) ∧
      (let s := linked (sending .tally)
       s.link.attempt = (sending .tally).attempt ∧ s.presentCount = 0) ∧
      (checkFailed.startup.phase = .running ∧ checkFailed.link.joined = true ∧ checkFailed.link.attempt = none ∧
        checkFailed.link.signal = some ⟨.afterAckDelimiter, false⟩ ∧ checkFailed.link.state ≠ .detached ∧
        LinkFaultKind.form ≠ .level ∧ LinkFaultKind.form ≠ .noAck) ∧
      (after (.linkFault .form .past) base).link.signal = some ⟨.nextBit, false⟩ ∧
      (detachedLink.startup.phase = .running ∧ detachedLink.link.joined = true ∧ detachedLink.link.attempt = none ∧
        detachedLink.link.signal = none ∧ detachedLink.link.state = .detached) ∧ (sending .tally).Settled :=
  ⟨by decide +kernel, by decide +kernel, by decide +kernel, by decide +kernel, by decide +kernel, by decide +kernel,
    fullLink_settled _⟩

/-- R10: a dominant delimiter before the signal of a CHECK fault is a form fault, counted; one during a signal is not. -/
theorem test_form_fault_before_check_signal :
    checkFailed.link.recCount = 1 ∧ (after (.linkFault .form .coming) checkFailed).link.recCount = 2 ∧
      (after (.linkFault .form .coming) checkFailed).link.signal = some ⟨.nextBit, false⟩ ∧
      (after (.linkFault .form .sending) checkFailed).link.recCount = 1 ∧
      (after (.linkFault .form .coming) (after (.linkFault .form .past) base)).link.recCount = 1 := by decide +kernel

theorem witness_TwoHundredDetaches :
    (detachedLink.link.state = .detached ∧ 64 ≤ (idleLink.foldl IdleCount.take detachedLink.link.idle).done ∧
      (idleLink.tail.foldl IdleCount.take detachedLink.link.idle).done < 64 ∧ (⟨13, 63⟩ : IdleCount).bits < 14) ∧
      (let s := withPeer (linked { sending .trigger with tecCount := 194, state := .quiet }) 40 (peer none)
       s.startup.phase = .running ∧ s.link.joined = true ∧ s.link.attempt = (sending .trigger).attempt ∧
         s.link.signal = none ∧ s.link.state ≠ .detached ∧ 194 ≤ s.link.tecCount ∧ s.presentCount ≠ 0 ∧
         s.link.triggers ≠ []) ∧
      (let s := linked { sending .trigger with tecCount := 200, triggers := [] }
       194 ≤ s.link.tecCount ∧ s.link.triggers = [] ∧ LinkFaultKind.level ≠ .check ∧ LinkFaultKind.level ≠ .noAck) ∧
      (sending .trigger).Settled := ⟨by decide +kernel, by decide +kernel, by decide +kernel, fullLink_settled _⟩

theorem witness_SentMessageLeavesItsSlot :
    (∀ source ∈ [SlotName.tally, .status, .answer, .claim, .trigger],
      (linked (sending source)).link.attempt = some (attempt source (envelope .tally 12 [8, 8])) ∧
        (linked (sending source)).link.state ≠ .detached) ∧
      (let s : State := { numbered (.claiming 12 none) with link := sending .claim }
       s.number.numbering = .claiming 12 none ∧ s.link.attempt.map (fun a => a.message.origin) = some 12) ∧
      (∀ w, base.number.numbering ≠ .claiming 12 w) ∧ (linked (sending .trigger)).link.triggers = [⟨.hold, 2, 1, 2003⟩] := by
  refine ⟨by decide +kernel, by decide +kernel, fun w h => ?_, by decide +kernel⟩
  cases h

theorem witness_OwnSyncCounted :
    (linked (sending .sync)).link.attempt = some (attempt .sync (envelope .tally 12 [8, 8])) ∧
      (linked (sending .sync)).timer.run = some run ∧ (linked (sending .sync)).link.state ≠ .detached := by decide +kernel

theorem witness_WireRoundTrip :
    (envelope .answer 12 (List.replicate 12 255)).payload.length ≤ 12 ∧ (envelope .sync 5 []).payload.length ≤ 12 ∧
      Rx.run (envelope .sync 5 []).wireBits = .received (envelope .sync 5 []) := by decide +kernel

/-- 2.5.1: the SYNC of node 5 beats that of node 9; 2.5.2: the serials of nodes B and A. -/
theorem witness_LowerValueWinsArbitration :
    (envelope .sync 5 []).arbitration < (envelope .sync 9 []).arbitration ∧ (0x00003A08#32) < 0x00003A10#32 := by decide +kernel

/-! ## Witnesses: messages received -/

theorem base_indifferent : base.Indifferent 40 := by
  unfold State.Indifferent
  decide +kernel

theorem witness_FirstDeliveryStep : base.Indifferent (from40 []).origin := base_indifferent

theorem witness_FirstStepAndNoFurther :
    base.receives = true ∧ (from40 (List.replicate 12 0)).payload.length = 12 ∧ (from40 []).payload.length ≠ 8 ∧
      (from40 []).payload.length ≠ 4 ∧ (from40 []).payload.length ≠ 7 ∧ (from40 []).payload.length ≠ 5 ∧
      (from40 []).payload.length ≠ 2 ∧ (from40 []).payload.length ≠ 3 ∧ (from40 []).payload.length ≠ 12 ∧
      (from40 []).payload.length ≠ 10 ∧ (from40 []).payload.length ≠ 1 := by decide +kernel

/-- A message from a station of number 11. -/
def from11 (payload : List Byte) : LinkMessage := ⟨11, payload, 1003512⟩

theorem witness_NumberContested :
    (let s : State := { base with number := { base.number with numbering := .fixed 11 } }
     s.receives = true ∧ s.number.numbering = .fixed (from11 []).origin ∧ (List.replicate 12 (0 : Byte)).length = 12 ∧
       (from11 [0, 0, 0x41, 0]).payload.length = 4) ∧
      (let s := numbered (.holding 11)
       s.receives = true ∧ s.number.numbering = .holding (from11 []).origin ∧ s.link.attempt = none ∧
         s.config = some claimCfg ∧ claimCfg.mode = .claim 8 11 9 ∧ s.serial < readClaim [0, 0, 0x41, 1] ∧
         readClaim [0, 0, 0x41, 0] = s.serial ∧ readClaim [0, 0, 0x40, 255] < s.serial) ∧
      (let s := numbered (.claiming 11 (some 7))
       s.receives = true ∧ s.number.numbering = .claiming (from11 []).origin (some 7) ∧ s.link.attempt = none ∧
         s.config = some claimCfg ∧ readClaim [0, 0, 0x41, 0] = s.serial ∧ readClaim [0, 0, 0x41, 1] ≠ s.serial) := by
  decide +kernel

/-- R31, R20: a node that yields 11 gives the two messages of its queue to its own lanes, counted, and does not enter the
sender; a node whose claim on 11 ends enters it. -/
theorem test_yield_empties_queue :
    (let s := { numbered (.holding 11) with link := { joined with triggers := [⟨.hold, 2, 1, 2003⟩, ⟨.release, 2, 1, 2002⟩] } }
     let t := after (.answerReceived (from11 (List.replicate 12 0))) s
     ((t.lane 0).control, t.link.triggers, t.link.counters.unsentTrigger, t.peers.get 11, t.number.numbering)) =
        ([⟨.release, 2002⟩, ⟨.hold, 2003⟩], [], 2, none, .claiming 9 none) ∧
      (after (.claimReceived (from11 [0, 0, 0x41, 1])) (numbered (.claiming 11 none))).peers.get 11 = some ⟨0, none, none, none⟩ := by
  decide +kernel

/-- After a CLAIM for 11 from another serial, 9 is chosen; with 8, 9 and 10 present nothing is free. -/
theorem witness_NumberContested_choice :
    (let u := ((numbered (.claiming 11 none)).firstStep (from11 [0, 0, 0x41, 1]) none true).withTaken 11
     u.Chosen 8 11 9 9) ∧
      let s := withPeer (withPeer (withPeer (numbered (.claiming 11 none)) 8 (peer none)) 9 (peer none)) 10 (peer none)
      let u := (s.firstStep (from11 [0, 0, 0x41, 1]) none true).withTaken 11
      ∀ q, ¬ u.FreeIn 8 11 q := by
  unfold State.Chosen State.FreeIn
  decide +kernel

theorem witness_SyncTakenByRole :
    (∀ r ∈ [run, { run with role := .start 3 }, following, { run with role := .leading },
        { run with role := .anchored Lock.fresh }, { run with role := .following 41 Lock.fresh false }],
      (timed r).receives = true ∧ (timed r).timer.run = some r ∧ 0 < r.config.tLost) ∧
      ((withPeer base 41 (peer (some .leading))).peers.get 41 = some (peer (some .leading)) ∧
        (peer (some .leading)).candidateRole 6 = some .leading ∧ (peer (some .anchored)).candidateRole 6 = some .anchored ∧
        (withPeer base 39 (peer (some .anchored))).peers.get 39 = some (peer (some .anchored)) ∧ (40 : Station) < 41 ∧
        ¬ (40 : Station) < 39 ∧ base.heldNumber = some 12 ∧ ¬ (40 : Station) < 12 ∧ (12 : Station) < 40 ∧
        (numbered .numberless).heldNumber = none) ∧
      (syncOf .anchored).length = 8 ∧ (readSync (syncOf .anchored)).role = .anchored ∧
      (readSync (syncOf .leading)).role = .leading ∧ (readSync (syncOf .free)).role = .free ∧
      (readSync (syncPayload ⟨2000, 809999, .leading, 60⟩)).lateness < 3 * run.config.pNom / 2 ∧
      3 * run.config.pNom / 2 ≤ (readSync (syncPayload ⟨2000, 810000, .leading, 60⟩)).lateness ∧
      following.role = .following (from40 []).origin Lock.fresh false := by decide +kernel

theorem witness_GoBecomesPending :
    (base.receives = true ∧ (goTo 25 2003).payload.length = 7 ∧ base.addressedLanes (readGo (goTo 25 2003).payload) = [0] ∧
      (base.lane 0).binding = some 2 ∧ base.addressedLanes (readGo [3, 0, 1, 0, 25, 7, 211]) = []) ∧
      (let cue (m : LinkMessage) : BitVec 16 := BitVec.ofNat 16 (fieldAt m.payload 3 2)
       cue (goTo 0 2003) = 0 ∧ cue (goTo 65535 2003) = 65535 ∧ cue (goTo 25 2003) = 25) ∧
      (inWindow (readGo (goTo 25 1745).payload).execute base.frame = true ∧
        inWindow (readGo (goTo 25 1744).payload).execute base.frame = false ∧
        inWindow (readGo (goTo 25 2255).payload).execute base.frame = true ∧
        inWindow (readGo (goTo 25 2256).payload).execute base.frame = false) ∧
      ((base.lane 0).current = none ∧ (base.lane 0).pending = none ∧ base.fetch.flight = none ∧ base.fetch.queue = [] ∧
        base.fetch.port = .none ∧ (queuedFor 0).fetch.port ≠ .none) ∧
      ((fetching.lane 0).pending = some (pendingGo .asked) ∧ later 2003 (pendingGo .asked).execute = false ∧
        (pendingGo .asked).origin ≤ (40 : Station).castSucc ∧ later 2002 (pendingGo .asked).execute = false ∧
        later 2004 (pendingGo .asked).execute = true) ∧
      (fetching.fetch.flight.map (fun fl => fl.request.lane) = some 0 ∧ fetching.fetch.queue = [] ∧
        (queuedFor 0).fetch.flight = none ∧ request 0 ∈ (queuedFor 0).fetch.queue ∧ (request 0).lane = 0) ∧
      (let s := laned { Lane.initial (some 2) with pending := some (pendingGo (.ready cue25)) }
       s.fetch.flight = none ∧ s.fetch.queue = []) ∧
      (let s : State := { base with fetch := { base.fetch with port := .fetch, flight := some ⟨⟨1, 6, 7, 2004, 0⟩, 1000000⟩ } }
       (s.lane 0).pending = none ∧ s.fetch.flight.map (fun fl => fl.request.lane) = some 1 ∧ s.fetch.port ≠ .none) ∧
      (((playing (current 10 .run)).lane 0).current = some (current 10 .run) ∧ moreLater 255 2000 1990 = false ∧
        later 1990 1989 = true ∧ later 1990 2003 = false ∧ (2003 : FrameNo) ≠ 1990 ∧
        (current 10 .run).origin ≤ (40 : Station).castSucc) := by
  decide +kernel

theorem witness_ControlTaken :
    (base.receives = true ∧ (controlTo 2003).payload.length = 5 ∧ base.config = some cfg ∧ (base.lane 0).binding = some 2 ∧
      (base.lane 1).binding ≠ some 2 ∧ fieldAt (controlTo 2003).payload 0 1 = 2 ∧
      BitVec.ofNat 16 (fieldAt (controlTo 2003).payload 1 2) &&& cfg.groups ≠ 0 ∧
      BitVec.ofNat 16 (fieldAt (from40 [2, 0, 0, 0, 0]).payload 1 2) &&& cfg.groups = 0 ∧ (base.lane 0).control = [] ∧
      (base.lane 0).current = none) ∧
      ((2255 - base.frame).toNat = 255 ∧ (2256 - base.frame).toNat = 256 ∧ (1744 - base.frame).toNat = 65280 ∧
        (1745 - base.frame).toNat = 65281 ∧ (base.frame - 1745).toNat = 255 ∧ (2000 - base.frame).toNat = 0 ∧
        (2001 - base.frame).toNat = 1) ∧
      (⟨.hold, 2003⟩ : ControlEntry) ∈ [(⟨.hold, 2003⟩ : ControlEntry), ⟨.release, 2003⟩] ∧
      (⟨.hold, 2003⟩ : ControlEntry) ∉ [(⟨.release, 2003⟩ : ControlEntry), ⟨.hold, 2004⟩] ∧
      ((playing (current 14 .run)).lane 0).current = some (current 14 .run) ∧ (base.frame - 1986).toNat = 14 ∧
      14 ≤ (current 14 .run).position - (current 14 .run).runBase ∧ (current 14 .run).position - 14 < 0 + 50 ∧
      (current 13 .run).position - (current 13 .run).runBase < 14 ∧ 0 + 50 ≤ (current 64 .run).position - 14 ∧
      ((playing (current 10 (.paused 14 1986))).lane 0).current = some (current 10 (.paused 14 1986)) ∧ 13 < 14 := by
  decide +kernel

/-- R131: a HOLD goes before the RELEASE of its frame and behind an earlier entry; a list of four takes no fifth. R134, R135:
late ones that come before the run, past the end, or before the pause are ignored. R116: 255 frames either way is the window. -/
theorem test_control_taken_or_ignored :
    (let got (c : Instr) (l : Lane) : List ControlEntry × Nat :=
       let l := (after c (laned l)).lane 0
       (l.control, l.counts.ignored)
     let listed (q : List ControlEntry) : Lane := { Lane.initial (some 2) with control := q }
     let running (c : CurrentCue) : Lane := { Lane.initial (some 2) with current := some c }
     got (.holdReceived (controlTo 2003)) (listed [⟨.release, 2002⟩, ⟨.release, 2003⟩]) =
         ([⟨.release, 2002⟩, ⟨.hold, 2003⟩, ⟨.release, 2003⟩], 0) ∧
       got (.holdReceived (controlTo 2003)) (listed (List.replicate 4 ⟨.release, 2002⟩)) = (List.replicate 4 ⟨.release, 2002⟩, 1) ∧
       got (.holdReceived (controlTo 1986)) (running (current 13 .run)) = ([], 1) ∧
       got (.holdReceived (controlTo 1986)) (running (current 64 .run)) = ([], 1) ∧
       got (.releaseReceived (controlTo 1986)) (running (current 10 (.paused 13 1987))) = ([], 1)) ∧
      (after (.holdReceived (controlTo 2255)) base).lanes.counts.windowRefused = 0 ∧
      (after (.holdReceived (controlTo 2256)) base).lanes.counts.windowRefused = 1 ∧
      (after (.releaseReceived (controlTo 1745)) base).lanes.counts.windowRefused = 0 ∧
      (after (.releaseReceived (controlTo 1744)) base).lanes.counts.windowRefused = 1 := by decide +kernel

theorem witness_TallyAndStatusTaken :
    base.receives = true ∧ (from40 [8, 8]).payload = [8, 8] ∧ (8 : Byte).getLsbD 3 = true ∧ (8 : Byte).getLsbD 2 = false ∧
      (from40 (4 :: List.replicate 9 0)).payload = 4 :: List.replicate 9 0 ∧ (List.replicate 9 (0 : Byte)).length = 9 ∧
      (4 : Byte).toNat ≤ 4 ∧ 4 < (5 : Byte).toNat := by decide +kernel

theorem witness_QueryAnswered :
    base.receives = true ∧ (from40 [12, 9, 3]).payload = [12, 9, 3] ∧ base.heldNumber = some 12 ∧
      (12 : Byte).toNat = (12 : Station).val ∧ (13 : Byte).toNat ≠ (12 : Station).val ∧ 9 < (10 : Byte).toNat ∧
      (numbered .numberless).heldNumber = none := by decide +kernel

/-! ## Witnesses: numbers, peers and the frame timer -/

theorem witness_NumberUnitAtEdges :
    (let s := numbered (.listen 31)
     s.config = some claimCfg ∧ s.number.numbering = .listen 31 ∧ (s.agePeers claimCfg).Chosen 8 11 9 9) ∧
      (let s := withPeer (withPeer (withPeer (withPeer (numbered (.listen 31)) 8 (peer none)) 9 (peer none)) 10 (peer none)) 11
         (peer none)
       (∀ n, ¬ (s.agePeers claimCfg).FreeIn 8 11 n) ∧
         ∀ n, (8 : Station) ≤ n → n ≤ 11 → (s.agePeers claimCfg).peers.get n ≠ none) ∧
      (((numbered .numberless).agePeers claimCfg).peers.get 8 = none ∧ (numbered .numberless).ahead.number = false) ∧
      ({ Ahead.none with number := true } : Ahead).number = true ∧
      (numbered (.claiming 11 (some 7))).number.numbering = .claiming 11 (some 7) ∧
      (let s : State := { base with number := { base.number with duplicate := true, duplicateQuiet := 255 } }
       s.number.duplicate = true ∧ 255 ≤ s.number.duplicateQuiet ∧ s.number.numbering = .fixed 12) ∧
      (∀ n ∈ [Numbering.listen 30, .claiming 11 none, .claiming 11 (some 6), .claiming 11 (some 7), .holding 11],
        (numbered n).startup.phase = .running ∧ (numbered n).timer.run = some run ∧ (numbered n).config = some claimCfg ∧
          (numbered n).number.numbering = n) ∧
      base.number.numbering = .fixed 12 ∧ base.number.duplicate = false := by
  unfold State.Chosen State.FreeIn
  decide +kernel

/-- The edge to come starts the timer anew with another P_nom; it would lose lock and age the leader out. -/
def restartDue : State :=
  withPeer
    (timed
      { run with
        role := .following 40 ⟨.locked, 8, 0, 5⟩ false, restart := some { cfg.timer with pNom := 600000 } })
    40 { peer (some .leading) with silence := 15 }

theorem witness_PeersAge :
    (let s := withPeer base 40 { peer none with silence := 15 }
     s.config = some cfg ∧ s.timer.run = some run ∧ s.peers.get 40 = some { peer none with silence := 15 } ∧
       cfg.ageLimit ≤ 15 + 1 ∧ s.number.numbering ≠ .numberless) ∧
      (∀ lock j, run.role ≠ .following 40 lock j) ∧ (∀ q w, base.number.numbering ≠ .claiming q w) ∧
      (let s := withPeer (numbered .numberless) 8 { peer none with silence := 15 }
       s.number.numbering = .numberless ∧ claimCfg.mode = .claim 8 11 9 ∧ (8 : Station) ≤ 8 ∧ (8 : Station) ≤ 11) ∧
      (let r : TimerRun := { run with role := .following 40 ⟨.unlocked, 0, 0, 9⟩ false }
       let s := withPeer (timed r) 40 { peer (some .leading) with silence := 15 }
       s.timer.run = some r ∧ s.peers.get 40 = some { peer (some .leading) with silence := 15 } ∧
         r.capture.valid = false ∧ (∀ k, k ≠ 40 → s.peers.get k = none) ∧ s.ahead = Ahead.none ∧ r.restart = none) ∧
      (restartDue.timer.run.map fun r => (r.role, r.restart.isSome)) = some (.following 40 ⟨.locked, 8, 0, 5⟩ false, true) ∧
      restartDue.peers.get 40 = some { peer (some .leading) with silence := 15 } ∧
      (let s := withPeer base 40 { peer none with silence := 14 }
       s.peers.get 40 = some { peer none with silence := 14 } ∧ 14 + 1 < cfg.ageLimit ∧ s.peers.get 41 = none) := by
  refine ⟨by decide +kernel, fun lock j h => ?_, fun q w h => ?_, by decide +kernel, by decide +kernel, by decide +kernel,
    by decide +kernel, by decide +kernel⟩
  · cases h
  · cases h

/-- R65: the edge that starts the timer anew accounts no lock and evaluates no role, whatever parts of it are sent first. -/
theorem test_parts_before_restart_edge :
    ∀ c ∈ [Instr.lockQuietLoss, .startEnd, .peerAgeOut 40],
      (after c restartDue).timer = restartDue.timer ∧
        (after (.frameEdge 0) (after c restartDue)).timer = (after (.frameEdge 0) restartDue).timer := by decide +kernel

/-- A FOLLOWING timer with the allowance set and a measurement one tick beyond the lock window: it jumps. -/
def jumping : TimerRun := { run with role := .following 40 Lock.fresh true, held := some ⟨55, some ⟨2010, 2000⟩⟩ }

/-- The running part with a timer in a role, holding a measurement of error `e` or none, and a candidate station 5. -/
def inRole (role : TimerRole) (e : Option Int) : State :=
  withPeer (timed { run with role := role, held := e.map fun x => ⟨x, none⟩ }) 5 (peer (some .leading))

theorem witness_TimerAtEdge :
    (∀ r ∈ [run, jumping, { run with role := .anchored Lock.fresh, numbering := some ⟨2010, 2000⟩ }],
      (timed r).timer.run = some r ∧ (timed r).config = some cfg ∧ r.restart = none) ∧
      jumping.role.jumpSet = true ∧ jumping.config.window < (55 : Int).natAbs ∧ ¬ jumping.config.window < (54 : Int).natAbs ∧
      run.held = none ∧ run.numbering = none ∧
      (let r : TimerRun := { run with restart := some { cfg.timer with pNom := 600000 } }
       (timed r).timer.run = some r ∧ r.restart.isSome = true) ∧
      (∀ role ∈ [TimerRole.start 10, .start 11, .anchored ⟨.locked, 0, 2, 5⟩, .leading, .free,
          .following 5 ⟨.locked, 0, 2, 5⟩ true, .following 40 ⟨.acquiring, 7, 0, 5⟩ false],
        ∀ e ∈ [none, some 54, some (-55)],
          (inRole role e).ahead = Ahead.none ∧ (inRole role e).config = some cfg ∧ (inRole role e).link.attempt = none ∧
            (inRole role e).timer.run.map (fun r => (r.role, r.restart)) = some (role, none)) := by decide +kernel

/-- The role and the lock loss count after an edge taken in a role with a measurement of error `e` or none. -/
def roleAfter (role : TimerRole) (e : Option Int) : Option TimerRole × Nat :=
  let t := after (.frameEdge 0) (inRole role e)
  (t.timer.run.map fun r => r.role, t.timer.counters.lockLoss)

/-- R52 to R54, W = 54, T_lost = 6, own number 12, station 5 LEADING: a third measurement outside the window loses lock and
a sixth quiet edge does; the eighth inside gives it; LEADING yields to the lower number; START counts and ends. -/
theorem test_role_and_lock_at_edge :
    roleAfter (.following 5 ⟨.locked, 8, 2, 0⟩ true) (some (-55)) = (some (.following 5 ⟨.unlocked, 0, 3, 0⟩ false), 1) ∧
      roleAfter (.following 5 ⟨.locked, 8, 1, 5⟩ false) none = (some (.following 5 ⟨.unlocked, 0, 1, 6⟩ false), 1) ∧
      roleAfter (.following 5 ⟨.acquiring, 7, 0, 3⟩ false) (some 54) = (some (.following 5 ⟨.locked, 8, 0, 0⟩ false), 0) ∧
      roleAfter .leading none = (some (.following 5 Lock.fresh false), 0) ∧
      roleAfter (.anchored Lock.fresh) none = (some (.following 5 Lock.fresh false), 0) ∧
      roleAfter (.start 10) none = (some (.start 11), 0) ∧
      roleAfter (.start 11) none = (some (.following 5 Lock.fresh true), 0) := by decide +kernel

theorem witness_BestCandidateAndNearestEdge :
    base.bestCandidate 6 = none ∧
      (withPeer (withPeer base 5 (peer (some .leading))) 40 (peer (some .anchored))).bestCandidate 6 = some 40 ∧
      (withPeer (withPeer base 5 (peer (some .leading))) 40 (peer (some .leading))).bestCandidate 6 = some 5 ∧
      (⟨0, some .leading, some 0, some (2000, 5)⟩ : Peer).candidateRole 6 = some .leading ∧
      (⟨0, some .leading, some 0, some (2000, 6)⟩ : Peer).candidateRole 6 = none := by
  decide +kernel

/-- R60: midway between the edge before the last, at 460,000, and the last, at 1,000,000, the earlier is taken; from one tick
on the last; past half the frame the next scheduled edge, at 1,540,000. -/
theorem test_nearest_edge :
    (run.pairEdge 730000, run.pairEdge 730001, run.pairEdge 1270001) =
      ((460000, 1999), (1000000, 2000), (1540000, 2001)) := by decide +kernel

theorem witness_EndOfStartAndQuietLoss :
    (let r : TimerRun := { run with role := .start 11 }
     (timed r).timer.run = some r ∧ 2 * r.config.tLost ≤ 11 + 1 ∧ r.capture.valid = false ∧
       ((timed r).agePeers cfg).bestCandidate r.config.tLost = none ∧ (timed r).ahead.number = false ∧
       ((withPeer (timed r) 5 (peer (some .leading))).agePeers cfg).bestCandidate r.config.tLost = some 5 ∧
       ((withPeer (timed r) 40 (peer (some .leading))).agePeers cfg).bestCandidate r.config.tLost = some 40 ∧
       (timed r).heldNumber = some 12 ∧ (r.config.leadPermission && (timed r).heldNumber.isSome) = true) ∧
      (let r : TimerRun := { run with role := .start 11, capture := ⟨some 1000000, 4, true⟩ }
       (timed r).timer.run = some r ∧ r.capture.valid = true) ∧
      (let r : TimerRun := { run with role := .start 11, config := { run.config with leadPermission := false } }
       (timed r).timer.run = some r ∧ (r.config.leadPermission && (timed r).heldNumber.isSome) = false ∧
         ((withPeer (timed r) 5 (peer (some .leading))).agePeers cfg).bestCandidate r.config.tLost = some 5) ∧
      (let r : TimerRun := { run with role := .following 40 ⟨.locked, 8, 0, 5⟩ false }
       (timed r).timer.run = some r ∧ r.role.lock = some ⟨.locked, 8, 0, 5⟩ ∧ r.held = none ∧ r.config.tLost ≤ 5 + 1 ∧
         r.restart = none ∧ run.restart = none) ∧
      (restartDue.timer.run.bind fun r => r.restart).isSome = true := by
  decide +kernel

theorem witness_ReferenceCapture :
    base.timer.run = some run ∧ run.capture.lastPulse = none ∧
      let r : TimerRun := { run with capture := ⟨some 1000000, 3, false⟩ }
      let low := r.config.pNom - r.config.pNom / 100
      let high := r.config.pNom + r.config.pNom / 100
      (timed r).timer.run = some r ∧ r.capture.lastPulse = some 1000000 ∧ low ≤ (1534600#32 - 1000000).toNat ∧
        (1545400#32 - 1000000).toNat ≤ high ∧ (1534599#32 - 1000000).toNat < low ∧ high < (1545401#32 - 1000000).toNat := by
  decide +kernel

/-- The running part with a timer in a role, its capture valid or not, holding number 12 or FIXED, a SYNC of the edge before
still pending. -/
def beaconing (role : TimerRole) (valid : Bool) (n : Numbering) : State :=
  { timed { run with role := role, frame := 2011, capture := ⟨none, 0, valid⟩ } with
    number := { base.number with numbering := n }
    link := { joined with sync := fullLink.sync } }

theorem witness_BeaconAndStatusAtEdge :
    (∀ role ∈ [TimerRole.start 0, .anchored Lock.fresh, .leading, .following 40 Lock.fresh false, .free],
      ∀ n ∈ [Numbering.fixed 12, .holding 12, .holding 11, .listen 0],
        (beaconing role false n).config = some cfg ∧ (beaconing role false n).link.attempt = none ∧
          (beaconing role false n).timer.run.map (fun r => (r.role, r.restart)) = some (role, none) ∧
          (beaconing role false n).number.numbering = n ∧ (beaconing role false n).ahead.number = false ∧
          (beaconing role false n).startup.phase = .running ∧ ∀ k : Station, (beaconing role false n).peers.get k = none) ∧
      run.config.leadPermission = true ∧
      (2012 : FrameNo).toNat % cfg.statusPeriod = (12 : Station).val % cfg.statusPeriod ∧
      (2012 : FrameNo).toNat % cfg.statusPeriod ≠ (11 : Station).val % cfg.statusPeriod ∧
      ((beaconing .leading true (.fixed 12)).timer.run.map fun r => r.capture.valid) = some true := by
  decide +kernel

/-- R57, R53, R174: what an edge leaves in the SYNC slot, by role and number, the stale beacon count, and the numbering byte
of the STATUS written. -/
def beaconAfter (role : TimerRole) (valid : Bool) (n : Numbering) : Option Role × Nat × Option Byte :=
  let l := (after (.frameEdge 0) (beaconing role valid n)).link
  (l.sync.pending.map fun b => b.role, l.counters.stale, l.status.pending.map fun b => b.numbering)

theorem test_beacon_by_role :
    beaconAfter .leading false (.fixed 12) = (some .leading, 1, some 0) ∧
      beaconAfter (.anchored Lock.fresh) true (.holding 12) = (some .anchored, 1, some 3) ∧
      beaconAfter .leading true (.holding 11) = (some .anchored, 0, none) ∧
      beaconAfter (.start 0) false (.fixed 12) = (none, 1, some 0) ∧
      beaconAfter .leading false (.listen 0) = (none, 0, none) := by decide +kernel

/-! ## Witnesses: pictures -/

/-- The receiver before the last data bit of a packet. -/
def nearlyWhole (bytes : List Byte) : PixelPort :=
  .char (bytes.take 292).reverse ((bitsOf 8 (bytes.getD 292 0).toNat).take 7).reverse

/-- The last data bit of a packet and the stop bit after it. -/
def lastLevels (bytes : List Byte) : List Bool := (bitsOf 8 (bytes.getD 292 0).toNat).drop 7 ++ [true]

theorem witness_RowArrivalJudged :
    (base.startup.phase = .running ∧ base.config = some cfg ∧ readRow (List.replicate 293 0) = none ∧
      (∀ bytes ∈ [greyPacket, List.replicate 293 0],
        (nearlyWhole bytes).run (lastLevels bytes) = (.tail 0 true 0 false, [.whole bytes])) ∧
      base.pixelPort.run brokenLevels = (.idle 0, [.broken]) ∧ base.pixelPort.run [true] = (.idle 20, []) ∧
      greyPacket.length = 293 ∧ greyPacket.tail.length = 292 ∧ (greyPacket.take 291).length < 292 ∧ greyPacket ≠ []) ∧
      (readRow greyPacket = some (greyRow 502 0 3) ∧ cfg.tiles ≤ (greyRow 502 2 3).tile ∧ (greyRow 502 0 3).tile < cfg.tiles) ∧
      (∀ x ∈ [((502 : FrameNo), 0), (33270, 32768), (246, 256), (33271, 32767), (501, 1), (247, 255)],
        ((502 : FrameNo) - (fed x.1 dry).frame).toNat = x.2) ∧
      ((fed 500 dry).ingest.queue = [] ∧ (fed 500 dry).ingest.writer = none) ∧
      (let u : Ingest := { dry with writer := some (greyRow 502 0 3), queue := List.replicate 7 (greyRow 502 0 4) }
       u.writer ≠ none ∧ u.queue.length < 8) ∧
      (let u : Ingest := { dry with writer := some (greyRow 502 0 3), queue := List.replicate 8 (greyRow 502 0 4) }
       8 ≤ u.queue.length) := by decide +kernel

theorem witness_RowCommitted :
    (let s := writing (buffer (.opened 502) [3]) (some (greyRow 502 0 3)) []
     s.startup.phase = .running ∧ s.config = some cfg ∧ s.ingest.writer = some (greyRow 502 0 3) ∧ s.ingest.queue = [] ∧
       s.ingest.back.state.tag = some 502 ∧ 3 ∈ s.ingest.back.received.get 0 ∧ 4 ∉ s.ingest.back.received.get 0 ∧
       PixelStore.wf s.ingest.back.store = true) ∧
      (writing (buffer (.opened 502) [3]) (some (greyRow 502 0 3)) [greyRow 502 0 4]).ingest.queue = [greyRow 502 0 4] ∧
      (∀ x ∈ [((500 : FrameNo), 0), (33268, 32768), (756, 256), (33267, 32767), (501, 1), (755, 255)],
        (x.1 - (writing (buffer .empty []) none []).frame).toNat = x.2) ∧
      (later 501 502 = false ∧ moreLater 255 502 500 = false ∧ later 503 502 = true ∧ later 502 756 = false ∧
        moreLater 255 756 500 = true ∧ moreLater 255 755 500 = false) ∧
      (cfg.zones[(0 : Fin 8).val]? = some ⟨0, 10, 13, 5, 6⟩ ∧ 5 ≤ (greyRow 502 0 5).row ∧ (greyRow 502 0 6).row ≤ 6 ∧
        ¬ 5 ≤ (greyRow 502 0 4).row) ∧
      (writing (buffer .empty []) (some (greyRow 502 0 3)) []).ingest.back.state = .empty := by decide +kernel

theorem witness_FlipAtEdge :
    (∀ b ∈ [BackState.empty, .opened 502, .complete 501, .opened 501],
      (writing (buffer b []) none []).startup.phase = .running ∧ (writing (buffer b []) none []).config = some cfg ∧
        (writing (buffer b []) none []).timer.run = some { run with frame := 500 } ∧
        (writing (buffer b []) none []).ingest.back.state = b) ∧
      ({ run with frame := 500 } : TimerRun).nextNumber = 501 ∧ later 502 501 = true ∧ later 501 501 = false ∧
      (let s : State := { base with wall := { base.wall with repeatRun := 1 } }
       s.ingest.back.state ≠ .complete run.nextNumber ∧ cfg.holdLimit < min 65535 (s.wall.repeatRun + 1)) := by decide +kernel

theorem witness_ProfileSlotsClamped :
    (∃ c, judgeBlock (readShowBytes claimBlock 0 1024) = .ok c) ∧ fieldAt (readShowBytes claimBlock 0 1024) 90 1 = 0 ∧
      fieldAt (readShowBytes claimBlock 0 1024) 93 1 ≠ 0 := by
  refine ⟨?_, by decide +kernel, by decide +kernel⟩
  obtain ⟨c, h, _⟩ := claim_block_passes
  exact ⟨c, h⟩

theorem witness_ScanStaysInItsWindow :
    (let off : Vector Camera 8 := Vector.replicate 8 ⟨false, none⟩
     let on := off.set 7 ⟨true, some 40⟩
     (∀ i : Fin 8, (off.get i).onAir = false) ∧ (on.get 7).onAir = true ∧ ∀ j : Fin 8, j < 7 → (on.get j).onAir = false) ∧
      (let p : ScanProfile := ⟨1, 0⟩
       0 < p.slots) ∧
      let d := ScanDrive.form ⟨8, 200⟩ 540013 (Vector.replicate 36 65535) 65535
      base.LabelsSound ∧ base.startup.phase = .running ∧ base.timer.run = some run ∧ base.config = some cfg ∧
        d.master ≤ 65535 ∧ (∀ i, d.trims.component i ≤ 65535) ∧ d.scale ≤ 65535 ∧ d.master = 65535 ∧
        (∀ i, d.trims.component i = 65535) ∧ d.scale = 65535 ∧ (4095 : Nat) ≤ 4095 := by
  unfold State.LabelsSound
  decide +kernel

/-! ## Witnesses: show memory, lanes and outputs -/

/-- Cue 25's record with a flipped check. -/
def showBad : List Host.Cell := writeShow show25 [(8203, 0)]

theorem witness_FailedFetchDropsPendingGo :
    ((queuedFor 24).lane 0).pending = some (pendingGo .asked) ∧ (pendingGo .asked).fetch = .asked ∧
      (queuedFor 24).dueTimeout 0 = some (request 24) ∧ (queuedFor 23).dueTimeout 0 = none ∧ (request 24).cue = 25 ∧
      (request 24).execute = (pendingGo .asked).execute ∧ (fetching.lane 0).pending = some (pendingGo .asked) ∧
      fetching.fetch.flight = some ⟨request 0, 1000000⟩ ∧ (request 0).lane = 0 ∧
      fetchOutcome fetching.showMemory 2 25 = .notFound ∧ fetchOutcome showBad 2 25 = .badRecord .check := by decide +kernel

/-- Cue 25 with a follow cue `next`, wait `w`. -/
def cueThen (next : BitVec 16) (w : Nat) : CueRecord := { cue25 with follow := some { wait := w, next := next } }

/-- The same part with no pin that forms anything. -/
def quiet (s : State) : State :=
  { s with config := some { cfg with pins := Vector.replicate 8 ⟨.none, .both, 0, 1, 3, 1, 1⟩ } }

theorem quiet_pins (s : State) : ∃ c, (quiet s).config = some c ∧ ∀ k, (c.pins.get k).function = .none :=
  ⟨_, rfl, by decide +kernel⟩

/-- Lane 0 waits for the fetch in flight at the edge of frame `f`, whose successor comes. -/
def late (f : FrameNo) : State :=
  quiet { fetching with timer := { base.timer with run := some { run with frame := f } } }

/-- At the edge of frame 2001 one request stands one short of T_f = 25 and times out, another one edge shorter stays. -/
theorem witness_FailedFetchDropsPendingGo_edge :
    ∀ w ∈ [23, 24], (quiet (queuedFor w)).startup.phase = .running ∧ (quiet (queuedFor w)).timer.run = some run ∧
      (quiet (queuedFor w)).PortSound ∧ request w ∈ (quiet (queuedFor w)).fetch.queue ∧
      ((quiet (queuedFor w)).lane 0).pending = some (pendingGo .asked) ∧
      (∀ k : Fin 4, k ≠ 0 → ((quiet (queuedFor w)).lane k).pending = none) ∧ (pendingGo .asked).fetch = .asked ∧
      tooOld (pendingGo .asked).execute run.nextNumber = false := by
  unfold State.PortSound Fetch.Sound
  decide +kernel

/-- The edge of frame 2259: a GO for frame 2003 is 256 frames back and outside the window; at the edge before, 255. -/
theorem witness_FailedFetchDropsPendingGo_window :
    (let s := late 2258
     s.startup.phase = .running ∧ s.timer.run = some { run with frame := 2258 } ∧ s.PortSound ∧
       (s.lane 0).pending = some (pendingGo .asked)) ∧
      tooOld (pendingGo .asked).execute ({ run with frame := 2258 } : TimerRun).nextNumber = true ∧
      tooOld (pendingGo .asked).execute ({ run with frame := 2257 } : TimerRun).nextNumber = false := by
  unfold State.PortSound Fetch.Sound
  decide +kernel

/-- R121, R107, R105: lane 3 drops its GO and frees the port before lanes 0 and 1 start, so that the follow GO of lane 0,
though for a later frame than that of lane 1, takes the port. -/
theorem test_drop_before_start :
    let go (w : Nat) : Lane :=
      { Lane.initial (some 2) with pending := some { pendingGo (.ready (cueThen 26 w)) with execute := 2259 } }
    let s := late 2258
    let t :=
      after (.frameEdge 0)
        { s with
          lanes := { s.lanes with lanes := #v[go 90, go 10, Lane.initial none, s.lane 0] }
          fetch := { s.fetch with flight := some ⟨{ request 0 with lane := 3 }, 1000000⟩ } }
    t.fetch.counters.abort = 1 ∧ (t.fetch.flight.map fun f => f.request.lane) = some 0 ∧
      (t.fetch.queue.map fun r => r.lane) = [1] ∧ (t.lane 3).counts.failure = 1 := by decide +kernel

theorem witness_RecordFetchedAndPortGiven :
    fetching.fetch.flight = some ⟨request 0, 1000000⟩ ∧ fetchOutcome show25 2 25 = .done cue25 ∧
      (fetching.lane 0).pending = some (pendingGo .asked) ∧ fetching.fetch.loaderRequest = false ∧
      fetching.startup.readAsked = false ∧ fetching.fetch.queue = [] ∧
      (let u : Fetch := { fetching.fetch with queue := [⟨1, 6, 7, 2004, 3⟩] }
       u.loaderRequest = false ∧ u.queue ≠ []) ∧
      ({ fetching.fetch with loaderRequest := true } : Fetch).flight = fetching.fetch.flight ∧
      ({ fetching.startup with readAsked := true } : Startup).readAsked = true := by decide +kernel

theorem witness_LoaderGrant :
    (base.startup.phase ≠ .reset ∧ base.fetch.port = .none ∧ fetching.startup.phase ≠ .reset ∧ fetching.fetch.port ≠ .none ∧
      held.startup.phase = .reset ∧ base.fetch.grant = false) ∧
      ((queuedFor 0).fetch.grant = true ∧ Memory.wf (queuedFor 0).showMemory = true ∧ (queuedFor 0).startup.phase ≠ .safe) ∧
      (let s : State := { queuedFor 0 with startup := { base.startup with phase := .safe } }
       s.fetch.grant = true ∧ s.startup.phase = .safe) ∧
      (let s := after .loaderRequest held
       s.fetch.grant = true ∧ s.startup.phase = .reset ∧ Memory.wf s.showMemory = true) ∧
      (∀ w ∈ [((5 : Nat), (7 : Byte))], w.1 % 1048576 ≠ 6 % 1048576) := by decide +kernel

theorem witness_CueStarts :
    (∀ g ∈ [GoFetch.ready cue25, .waitEdge cue25, .ready (cueThen 26 32717), .ready (cueThen 26 32718), .ready (cueThen 0 9)],
      (let s := laned { Lane.initial (some 2) with pending := some (pendingGo g) }
       (s.lane 0).pending = some (pendingGo g) ∧ (s.lane 0).binding = some 2 ∧ s.fetch.queue = [] ∧ s.fetch.flight = none ∧
         s.fetch.port = .none ∧ ({ s.fetch with port := .loader, grant := true } : Fetch).queue = [])) ∧
      (later 2003 2003 = false ∧ tooOld 2003 2003 = false ∧ later 2003 2258 = false ∧ tooOld 2003 2258 = false) ∧
      (cue25.delay + cue25.fade + 32717 ≤ 32767 ∧ 32767 < cue25.delay + cue25.fade + 32718) ∧
      cue25.follow = none ∧ (∃ e ∈ cue25.entries, e.channel = 4) ∧ ∀ e ∈ cue25.entries, e.channel ≠ 5 := by decide +kernel

/-- The edge of frame 2003, for which the pending GO of lane 0 is READY. -/
def starting : State :=
  quiet
    { laned { Lane.initial (some 2) with pending := some (pendingGo (.ready cue25)) } with
      timer := { base.timer with run := some { run with frame := 2002 } } }

/-- The same edge, with another record or with lane 1 READY for cue 25 too. -/
def startingWith (record : CueRecord) (both : Bool) : State :=
  let go (rec : CueRecord) (playback : Fin 16) : Lane :=
    { Lane.initial (some playback) with pending := some (pendingGo (.ready rec)) }
  { starting with
    lanes :=
      { starting.lanes with
        lanes :=
          #v[go record 2, if both then go cue25 6 else Lane.initial (some 6), Lane.initial none, Lane.initial none] } }

theorem witness_CueStarts_edge :
    (starting.startup.phase = .running ∧ starting.timer.run = some { run with frame := 2002 } ∧ starting.LabelsSound ∧
      (starting.lane 0).pending = some (pendingGo (.ready cue25)) ∧
      (∀ k : Fin 4, k ≠ 0 → (starting.lane k).pending = none) ∧ (starting.lane 0).control = [] ∧ cue25.follow = none ∧
      (cue25.entries.map fun e => e.channel).Nodup ∧
      later (pendingGo .asked).execute ({ run with frame := 2002 } : TimerRun).nextNumber = false ∧
      tooOld (pendingGo .asked).execute ({ run with frame := 2002 } : TimerRun).nextNumber = false) ∧
      (let s := startingWith (cueThen 26 10) false
       (s.lane 0).pending = some (pendingGo (.ready (cueThen 26 10))) ∧ (s.lane 0).binding = some 2 ∧
         (∀ k : Fin 4, k ≠ 0 → (s.lane k).pending = none) ∧ s.fetch.queue = [] ∧ s.fetch.flight = none ∧
         s.fetch.port = .none ∧ cue25.delay + cue25.fade + 10 ≤ 32767) ∧
      (let s := startingWith cue25 true
       (∀ i ∈ [(0 : Fin 4), 1], (s.lane i).pending = some (pendingGo (.ready cue25))) ∧
         (s.config.map fun c => decide (∀ k, (c.pins.get k).function = .none)) = some true) := by
  unfold State.LabelsSound
  decide +kernel

/-- R124, R130: of two lanes that start at one edge the higher owns the channel; a follow GO is for frame 2003 + 50 + 10
and its fetch begins. -/
theorem test_two_starts_and_follow :
    (after (.frameEdge 0) (startingWith cue25 true)).lanes.owners.get 4 = some 1 ∧
      ((after (.frameEdge 0) (startingWith (cueThen 26 10) false)).lane 0).pending.map (fun p => (p.cue, p.execute)) =
        some (26, 2063) ∧
      (after (.frameEdge 0) (startingWith (cueThen 26 10) false)).fetch.flight.map (fun f => f.request) =
        some ⟨0, 2, 26, 2063, 0⟩ := by decide +kernel

/-- Lane 0 at position 10 of 50, running or paused, with an empty control list, or a HOLD or a RELEASE for frame 2001; and
at positions 48 and 49, of which the next is 49 or the end. -/
theorem witness_FadeBetweenStartAndTarget_edge :
    (∀ x ∈ [((10 : Nat), Running.run), (48, .run), (49, .run), (10, .paused 3 1990)],
      ∀ control ∈ [[], [(⟨.hold, 2001⟩ : ControlEntry)], [⟨.release, 2001⟩]],
      let s := quiet (laned { Lane.initial (some 2) with current := some (current x.1 x.2), control := control })
      s.startup.phase = .running ∧ s.timer.run = some run ∧ (s.lane 0).pending = none ∧
        (s.lane 0).current = some (current x.1 x.2) ∧ (s.lane 0).control = control) ∧
      run.nextNumber = 2001 ∧ later 2001 2001 = false ∧ tooOld 2001 2001 = false ∧ 48 + 1 < 0 + 50 ∧
      0 + 50 ≤ min (49 + 1) (0 + 50 + 255) := by decide +kernel

theorem witness_FadeBetweenStartAndTarget :
    (50 : Nat) ≤ 50 ∧ (20 : Nat) ≤ 21 ∧ (4095 : Nat) ≤ 4095 ∧ ((100 : Nat) ≤ 99 + 1 ∧ (99 : Nat) ≤ 100 + 1) ∧
      (98 : Nat) + 1 < 100 ∧ (98 : Nat) + 1 < 100 := by decide

theorem witness_ChannelsMerge :
    let ltp : Config := { cfg with channels := Vector.replicate 36 ⟨.ltp, 5000, 4, 0, .normal, 1⟩ }
    (cfg.channels.get 4).merge = .htp ∧ (ltp.channels.get 4).merge = .ltp ∧ base.lanes.owners.get 4 = none ∧
      ({ base.lanes with owners := base.lanes.owners.set 4 (some 0) } : LaneEngine).owners.get 4 = some 0 := by decide +kernel

theorem witness_DutyOfFixture :
    (base.startup.phase = .running ∧ base.timer.run = some run ∧ base.config = some cfg ∧
      base.LabelsSound) ∧
      (0 < 24374 ∧ 0 ≤ 24374 * 135003 / 65536 ∧ 24374 * 135003 / 65536 ≤ 135003) ∧
      (100 * 135003 / 65536 < 400 ∧ 400 ≤ 135003) ∧ (100 : Nat) < 4095 ∧ (65535 : Nat) ≤ 65535 := by
  unfold State.LabelsSound
  decide +kernel

/-! ## Witnesses: budget and triggers -/

theorem witness_SagEvents :
    base.startup.phase = .running ∧ base.config = some cfg ∧ (reading .safe fixedBlock).reading = true ∧
      ∃ c, (reading .safe fixedBlock).judgeRead = .ok c := by
  refine ⟨by decide +kernel, by decide +kernel, by decide +kernel, ?_⟩
  exact ⟨fixedCfg, (judgeRead_of rfl).trans fixed_block_passes⟩

theorem witness_TargetScale :
    4095 ≤ 65535 ∧ 30000 ≤ 30000 ∧ 28000 < 30000 ∧ base.startup.phase = .running ∧ base.timer.run = some run ∧
      base.config = some cfg ∧ base.LabelsSound := by
  unfold State.LabelsSound
  decide +kernel

theorem witness_ScaleKeepsTheLimit :
    (let s : State := { base with budget := { base.budget with effectiveLimit := 24000, recoveryRun := 3 } }
     s.startup.phase = .running ∧ s.config = some cfg ∧ s.budget.observed = true ∧ s.budget.frameBelow = false ∧
       cfg.budget.recoveryLength ≤ s.budget.recoveryRun + 1 ∧ s.timer.run = some run ∧
       s.LabelsSound ∧ s.ahead.limit = false ∧ cfg.budget.floor ≤ s.budget.scale.last ∧ s.budget.scale.last ≤ 65535) ∧
      base.budget.recoveryRun + 1 < cfg.budget.recoveryLength ∧
      ({ base.budget with observed := false } : Budget).observed = false ∧
      ({ base.budget with frameBelow := true } : Budget).frameBelow = true ∧
      ({ base with ahead := { Ahead.none with limit := true } } : State).ahead.limit = true := by
  unfold State.LabelsSound
  decide +kernel

/-- The running part with every pin stable LOW, its run at the debounce count. -/
def pinsReady (l : Link) (stable : Bool) : State :=
  { buttonState with
    link := l
    triggers := { base.triggers with pins := Vector.replicate 8 ⟨some stable, 2⟩ } }

/-- R116, R171: at an edge that renumbers the node to 31208 a HOLD delivered locally is later than that edge, and joins the
control list. -/
theorem test_trigger_delivered_at_its_edge :
    (let s := pinsReady { joined with state := .detached } false
     let r : TimerRun := { run with role := .following 40 Lock.fresh false, held := some ⟨0, some ⟨31207, 2000⟩⟩ }
     let t := after (.triggerQualified ⟨0, 1⟩) { s with timer := { s.timer with run := some r } }
     ((t.lane 0).control, t.lanes.counts.windowRefused, t.frame)) = ([⟨.hold, 31208 + 3⟩], 0, 2000) := by decide +kernel

theorem witness_PinQualified :
    (let s := pinsReady joined false
     s.startup.phase = .running ∧ s.config = some cfg ∧ s.timer.run = some run ∧ s.link.attempt = none ∧
       s.number.numbering = .fixed 12 ∧ s.ahead.pins = 0 ∧ (∀ i, (s.triggers.pins.get i).stable = some false) ∧
       (∀ i, (cfg.pins.get i).debounce ≤ (s.triggers.pins.get i).run) ∧ s.heldNumber.isSome = true ∧
       s.link.state ≠ .detached ∧ s.link.triggers.length < 4 ∧
       ∀ i j : Fin 8, (1 <<< i.val : BitVec 8).getLsbD j.val = decide (j = i)) ∧
      ((cfg.pins.get 0).function = .hold 2 ∧ (cfg.pins.get 0).edge = .both ∧ (cfg.pins.get 1).function = .release 2 ∧
        (cfg.pins.get 1).edge = .fall ∧ (cfg.pins.get 2).function = .goNext 6 ∧ (cfg.pins.get 2).edge = .rise ∧
        (cfg.pins.get 3).function = .tally 3 ∧ (cfg.pins.get 4).function = .goNext 9 ∧ (cfg.pins.get 5).function = .none ∧
        (cfg.pins.get 6).function = .goNext 2) ∧
      ((∀ k, ((pinsReady joined false).lane k).binding ≠ some 9) ∧ ((pinsReady joined false).lane 0).binding = some 2 ∧
        ((pinsReady joined false).lane 0).current = none ∧ ((pinsReady joined false).lane 1).binding = some 6 ∧
        ((pinsReady joined false).lane 0).binding ≠ some 6 ∧
        (((pinsReady joined false).lane 1).current.map fun c => c.record.number) = some 12 ∧ 12 + 1 ≤ 65534) ∧
      4 ≤ (pinsReady { joined with triggers := List.replicate 4 ⟨.hold, 2, 1, 2003⟩ } false).link.triggers.length ∧
      (pinsReady { joined with state := .detached } false).link.state = .detached ∧
      65534 < (65534 : BitVec 16).toNat + (cfg.pins.get 2).step := by decide +kernel

/-- R169: pins 0, 2 and 6 qualify at one edge. Pin 6 named first, they are offered lowest first; pin 2 named later, or the
edge itself, adds nothing; and the edge alone offers the same. -/
theorem test_pins_offered_lowest_first :
    (let s := pinsReady joined false
     let six := after (.triggerQualified ⟨6, 0x45⟩) s
     [six, after (.triggerQualified ⟨2, 0x45⟩) six, after (.frameEdge 0x45) six, after (.frameEdge 0x45) s].map fun t =>
         (t.link.triggers, t.triggers.formed)) =
      List.replicate 4 ([⟨.hold, 2, 1, 2004⟩, ⟨.go 13, 6, 1, 2004⟩, ⟨.go 7, 2, 1, 2004⟩], 3) := by decide +kernel

/-- R19, R20: with two messages queued the third offered is refused; in DETACHED the three reach the own lanes. -/
theorem test_pins_refused_or_unsent :
    (let t := after (.triggerQualified ⟨6, 0x45⟩) (pinsReady { joined with triggers := List.replicate 2 ⟨.hold, 2, 1, 2003⟩ } false)
     (t.link.triggers.map fun m => m.kind, t.link.counters.triggerRefused)) = ([.hold, .hold, .hold, .go 13], 1) ∧
      (let t := after (.triggerQualified ⟨6, 0x45⟩) (pinsReady { joined with state := .detached } false)
       ((t.lane 0).control, (t.lane 1).pending.map fun p => p.cue, (t.lane 0).pending.map fun p => p.cue,
         t.link.counters.unsentTrigger)) = ([⟨.hold, 2004⟩], some 13, some 7, 3) := by decide +kernel

/-- A pin never sampled, and one with a run one short of its debounce count. -/
theorem witness_PinQualified_edge :
    (base.triggers.pins.get 0).stable = none ∧ (buttonState.triggers.pins.get 2).stable = some (!true) ∧
      (let t : Triggers := { base.triggers with pins := base.triggers.pins.set 2 ⟨some false, 1⟩ }
       (t.pins.get 2).run < (cfg.pins.get 2).debounce) ∧ (cfg.pins.get 2).debounce ≤ (buttonState.triggers.pins.get 2).run ∧
      (0 : Fin 8).val < ({ Ahead.none with pins := 1 } : Ahead).pins := by decide +kernel

theorem witness_LifetimesEndAtEdges_edge :
    (quiet (linked fullLink)).startup.phase = .running ∧ (quiet (linked fullLink)).timer.run = some run ∧
      (quiet (linked fullLink)).link.attempt = none := by decide +kernel

theorem witness_LifetimesEndAtEdges :
    (linked fullLink).timer.run = some run ∧ (linked fullLink).link.attempt = none ∧
      (linked fullLink).link.sync = ⟨some ⟨2000, 1000000, .leading, 0⟩, none, false⟩ := by decide +kernel

/-! ## Witnesses: what every step keeps -/

/-- The running part with a frame edge waiting. -/
def waiting : State := { base with pending := [.frameEdge 0] }

/-- The part held in RESET with a loader request waiting. -/
def heldWaiting : State := { held with pending := [.loaderRequest] }

theorem steps_on (s : State) (c : Instr) (rest : List Instr) (h : s.pending = c :: rest) :
    ∃ t, step s = .next t := by
  unfold step
  rw [h]
  cases c <;> exact ⟨_, rfl⟩

theorem witness_kept_steps : (∃ t, step waiting = .next t) ∧ ∃ t, step heldWaiting = .next t :=
  ⟨steps_on waiting _ _ rfl, steps_on heldWaiting _ _ rfl⟩

theorem witness_FormsAndBoundsKept : waiting.MemorySound ∧ waiting.IngestSound ∧ waiting.LinkSound ∧ waiting.LabelsSound := by
  unfold State.MemorySound State.IngestSound State.LinkSound State.LabelsSound
  decide +kernel

theorem witness_HeldOutsideRunning : heldWaiting.HeldSound ∧ heldWaiting.startup.phase ≠ .running ∧ waiting.HeldSound := by
  unfold State.HeldSound Link.AtRest
  decide +kernel

theorem witness_OwnEntryStaysAbsent : waiting.OwnEntryAbsent ∧ waiting.heldNumber = some 12 := by
  unfold State.OwnEntryAbsent
  decide +kernel

theorem witness_PortHasOneUser : waiting.PortSound ∧ fetching.PortSound ∧ (queuedFor 0).PortSound := by
  unfold State.PortSound Fetch.Sound
  decide +kernel

theorem witness_FramesKeepTheirLength : waiting.TimerSound := by
  unfold State.TimerSound
  intro r h
  cases h
  unfold TimerRun.Sound TimerValuesSound
  refine ⟨by decide +kernel, fun c h => ?_, by decide +kernel⟩
  cases h

theorem witness_BudgetStaysInRange : waiting.BudgetSound := by
  unfold State.BudgetSound
  intro c h
  cases h
  decide +kernel

end Sys2Proof.Tests
end

section
/-! SUPPORT. The shared operations once more, now with what the statements of the set link ask of them: which blocks a cue
message reads (so that it can be moved past a change of the link controller or the number unit), what the frame timer does to
the SYNC slot, and that an operation keeps the stores, the published sets and the bounds of the link controller. -/

namespace Sys2Proof.Machine

set_option Elab.async false

open Sys2Proof

/-! ## A cue message does not read the link controller, the number unit or the conditions handed -/

/-- The state with another link controller, number unit and set of lane conditions. -/
def State.aside (s : State) (l : Link) (u : NumberUnit) (p : Published (Vector Condition 4)) : State :=
  { s with link := l, number := u, lanes := { s.lanes with conditions := p } }

section Aside

variable (s : State) (l : Link) (u : NumberUnit) (p : Published (Vector Condition 4))

theorem aside_fetch : (s.aside l u p).fetch = s.fetch := rfl

theorem aside_frame : (s.aside l u p).frame = s.frame := rfl

theorem aside_lane (i : Fin 4) : (s.aside l u p).lane i = s.lane i := rfl

theorem choosePort_aside : (s.aside l u p).choosePort = s.choosePort.aside l u p := by
  unfold State.choosePort
  dsimp only
  rw [aside_fetch, aside_frame, show (s.aside l u p).startup = s.startup from rfl]
  split
  · rfl
  · split
    · rfl
    · split <;> rfl

theorem withdrawRequest_aside (i : Fin 4) :
    (s.aside l u p).withdrawRequest i = (s.withdrawRequest i).aside l u p := by
  unfold State.withdrawRequest
  dsimp only
  rw [aside_fetch]
  split
  · exact choosePort_aside (s.setFetch _) l u p
  · split <;> rfl

theorem handRequest_aside (i : Fin 4) (q : Fin 16) (cue : BitVec 16) (e : FrameNo) :
    (s.aside l u p).handRequest i q cue e = (s.handRequest i q cue e).aside l u p := by
  unfold State.handRequest
  dsimp only
  rw [withdrawRequest_aside]
  generalize s.withdrawRequest i = t
  rw [aside_fetch]
  split <;> rfl

theorem makePending_aside (i : Fin 4) (cue : BitVec 16) (e : FrameNo) (o : Origin) (k : GoKind) :
    (s.aside l u p).makePending i cue e o k = (s.makePending i cue e o k).aside l u p := by
  unfold State.makePending
  rw [aside_lane]
  split
  · rfl
  · exact handRequest_aside (s.setLane i _) l u p ..

theorem contestGo_aside (i : Fin 4) (cue : BitVec 16) (e : FrameNo) (o : Origin) (k : GoKind) :
    (s.aside l u p).contestGo i cue e o k = (s.contestGo i cue e o k).aside l u p := by
  unfold State.contestGo
  rw [aside_lane]
  split
  · exact makePending_aside ..
  · split
    · dsimp only
      rw [withdrawRequest_aside]
      exact makePending_aside ((s.withdrawRequest i).setLane i _) l u p ..
    · rfl

theorem laneGo_aside (i : Fin 4) (cue : BitVec 16) (e : FrameNo) (o : Origin) :
    (s.aside l u p).laneGo i cue e o = (s.laneGo i cue e o).aside l u p := by
  unfold State.laneGo
  rw [aside_lane, aside_frame]
  split
  · exact contestGo_aside ..
  · split
    · rfl
    · exact contestGo_aside ..

theorem laneTakes_aside (i : Fin 4) (m : CueMessage) (o : Origin) :
    (s.aside l u p).laneTakes i m o = (s.laneTakes i m o).aside l u p := by
  unfold State.laneTakes
  split
  · exact laneGo_aside ..
  · rfl
  · rfl

/-- R115, R116: a cue message taken with another link controller, number unit and set of conditions is the message taken,
with those in place of the old ones. -/
theorem deliverCue_aside (m : CueMessage) (o : Origin) :
    (s.aside l u p).deliverCue m o = (s.deliverCue m o).aside l u p := by
  have hf (is : List (Fin 4)) (t : State) :
      is.foldl (fun s i => s.laneTakes i m o) (t.aside l u p) =
        (is.foldl (fun s i => s.laneTakes i m o) t).aside l u p := by
    induction is generalizing t with
    | nil => rfl
    | cons i rest ih => rw [List.foldl_cons, List.foldl_cons, laneTakes_aside, ih]
  unfold State.deliverCue
  rw [show (s.aside l u p).isRunning = s.isRunning from rfl,
    show (s.aside l u p).addressedLanes m = s.addressedLanes m from rfl, aside_frame]
  split
  · rfl
  · split
    · rfl
    · split
      · rfl
      · split
        · rfl
        · exact hf _ s

end Aside

/-- A cue message hands no new conditions. -/
theorem deliverCue_conditions (s : State) (m : CueMessage) (o : Origin) :
    (s.deliverCue m o).lanes.conditions = s.lanes.conditions :=
  congrArg (fun t => t.lanes.conditions) (deliverCue_aside s s.link s.number s.lanes.conditions m o)

/-! ## What the frame timer does to the SYNC slot -/

/-- Of the link controller only the SYNC slot and the stale beacon count may differ; a SYNC comes into an empty slot only
outside the held condition (R1, R57); and no edge is uncounted. -/
structure TimerWork (s t : State) : Prop where
  startup : t.startup = s.startup
  edges : s.timer.edges ≤ t.timer.edges
  link : ∃ x n, t.link = { s.link with sync := x, counters := { s.link.counters with stale := n } }
  idle : s.linkHeld = true → s.link.attempt = none → s.link.sync = Slot.empty → t.link.sync = Slot.empty

theorem TimerWork.ofSame {s t : State} (hu : t.startup = s.startup) (he : s.timer.edges ≤ t.timer.edges)
    (hl : t.link = s.link) : TimerWork s t :=
  ⟨hu, he, ⟨s.link.sync, s.link.counters.stale, hl⟩, fun _ _ h => by rw [hl]; exact h⟩

theorem TimerWork.refl (s : State) : TimerWork s s := .ofSame rfl (Nat.le_refl _) rfl

theorem TimerWork.trans {a b c : State} (h : TimerWork a b) (k : TimerWork b c) : TimerWork a c := by
  obtain ⟨x, n, hx⟩ := h.link
  obtain ⟨y, m, hy⟩ := k.link
  refine ⟨k.startup.trans h.startup, h.edges.trans k.edges, ⟨y, m, by rw [hy, hx]⟩, fun hh ha hs => ?_⟩
  have hheld : b.linkHeld = a.linkHeld := by simp [State.linkHeld, State.isRunning, h.startup]
  exact k.idle (hheld ▸ hh) (by rw [hx]; exact ha) (h.idle hh ha hs)

theorem setRun_work (s : State) (r : TimerRun) : TimerWork s (s.setRun r) := .ofSame rfl (Nat.le_refl _) rfl

theorem setTimerCounters_work (s : State) (c : TimerCounters) : TimerWork s (s.setTimerCounters c) :=
  .ofSame rfl (Nat.le_refl _) rfl

theorem advanceTo_work (s : State) (now : Stamp) : TimerWork s (s.advanceTo now) :=
  .ofSame (by simp) (by simp) (by simp)

/-- R53 d: a withdrawal empties the SYNC slot or leaves it to the attempt in progress. -/
theorem withdrawSync_work (s : State) : TimerWork s (s.setLink s.link.withdrawSync) :=
  ⟨rfl, Nat.le_refl _, ⟨_, s.link.counters.stale, rfl⟩, fun _ ha _ => by
    simp [Link.withdrawSync, Slot.withdraw, Link.busy, ha]⟩

/-- R18: so does the end of a lifetime. -/
theorem cancelStale_work (s : State) : TimerWork s (s.setLink s.link.cancelStale) :=
  ⟨rfl, Nat.le_refl _, ⟨_, _, rfl⟩, fun _ ha _ => by simp [Link.cancelStale, Link.busy, ha]⟩

/-- R53: what leaving a role and entering another does, the frame number being that of the running timer. -/
structure RoleWork (s : State) (r : TimerRun) (t : State) : Prop extends TimerWork s t where
  frame : t.frame = r.frame

theorem setRun_role (s : State) {r r' : TimerRun} (h : r'.frame = r.frame) : RoleWork s r (s.setRun r') :=
  ⟨setRun_work s r', h⟩

theorem RoleWork.count {s t : State} {r : TimerRun} (h : RoleWork s r t) (c : TimerCounters) :
    RoleWork s r (t.setTimerCounters c) := ⟨h.toTimerWork.trans (setTimerCounters_work t c), h.frame⟩

theorem leaveRole_work (s : State) (r : TimerRun) :
    TimerWork s (s.leaveRole r).1 ∧ (s.leaveRole r).2.frame = r.frame := by
  unfold State.leaveRole
  split
  · exact ⟨withdrawSync_work s, rfl⟩
  · exact ⟨withdrawSync_work s, rfl⟩
  · exact ⟨.refl s, rfl⟩

/-- R53: the role left and another taken up. -/
theorem leaveRole_setRun (s : State) {r r' : TimerRun} (h : r'.frame = (s.leaveRole r).2.frame) :
    RoleWork s r ((s.leaveRole r).1.setRun r') :=
  ⟨(leaveRole_work s r).1.trans (setRun_work _ r'), h.trans (leaveRole_work s r).2⟩

theorem enterAnchored_role (s : State) (r : TimerRun) : RoleWork s r (s.enterAnchored r) := leaveRole_setRun s rfl

theorem enterLeading_role (s : State) (r : TimerRun) : RoleWork s r (s.enterLeading r) := leaveRole_setRun s rfl

theorem enterFree_role (s : State) (r : TimerRun) : RoleWork s r (s.enterFree r) := leaveRole_setRun s rfl

theorem follow_role (s : State) (r : TimerRun) (n : Station) : RoleWork s r (s.follow r n) :=
  RoleWork.count (leaveRole_setRun s (by rfl)) _

theorem chooseRole_role (s : State) (r : TimerRun) : RoleWork s r (s.chooseRole r) := by
  unfold State.chooseRole
  split
  · exact follow_role ..
  · split
    · exact enterLeading_role ..
    · exact enterFree_role ..

theorem endStart_role (s : State) (r : TimerRun) : RoleWork s r (s.endStart r) := by
  unfold State.endStart
  dsimp only
  split
  · exact enterAnchored_role ..
  · repeat' split
    · exact follow_role ..
    · exact enterLeading_role ..
    · exact follow_role ..
    · exact enterFree_role ..
    · exact enterLeading_role ..
    · exact enterFree_role ..

theorem tableRole_role (s : State) (r : TimerRun) : RoleWork s r (s.tableRole r) := by
  unfold State.tableRole
  repeat' split
  · exact setRun_role s rfl
  · exact setRun_role s rfl
  · exact chooseRole_role ..
  · exact enterAnchored_role ..
  · exact chooseRole_role ..
  · exact follow_role ..
  · exact setRun_role s rfl
  · exact setRun_role s rfl
  · exact enterAnchored_role ..
  · exact chooseRole_role ..
  · exact follow_role ..
  · exact setRun_role s rfl
  · exact setRun_role s rfl
  · exact enterAnchored_role ..
  · exact follow_role ..
  · exact enterLeading_role ..
  · exact setRun_role s rfl

theorem evaluateRole_role (s : State) (r : TimerRun) : RoleWork s r (s.evaluateRole r) := by
  unfold State.evaluateRole
  split
  · split
    · exact endStart_role ..
    · exact setRun_role s rfl
  · exact tableRole_role ..

theorem accountLock_role (s : State) (r : TimerRun) : RoleWork s r (s.accountLock r) := by
  unfold State.accountLock
  split
  · exact setRun_role s rfl
  · dsimp only
    split
    · exact RoleWork.count (setRun_role s (by rfl)) _
    · exact setRun_role s rfl

theorem lockEdge_role (s : State) (r : TimerRun) : RoleWork s r (s.lockEdge r) := by
  unfold State.lockEdge
  split
  · exact setRun_role s rfl
  · exact accountLock_role ..

/-- R44, R52: the role evaluated at an edge leaves the number of the frame. -/
theorem roleEdge_work (s : State) : TimerWork s s.roleEdge ∧ s.roleEdge.frame = s.frame := by
  unfold State.roleEdge
  split
  · exact ⟨.refl s, rfl⟩
  · rename_i r hr
    split
    · exact ⟨.refl s, rfl⟩
    · have h := evaluateRole_role s r
      exact ⟨h.toTimerWork, h.frame.trans (by simp [State.frame, hr])⟩

/-- R44: work of the edge now due on the aged entries is such work. -/
theorem onAged_work {s : State} {work : State → State} (h : ∀ t, TimerWork t (work t)) :
    TimerWork s (s.onAged work) := by
  unfold State.onAged
  split
  · exact h s
  · rename_i c _
    have hf := agePeers_frame s c
    have ha : TimerWork s (s.agePeers c) := .ofSame hf.startup (Nat.le_of_eq (by rw [hf.timer])) hf.link
    exact (ha.trans (h _)).trans (.ofSame rfl (Nat.le_refl _) rfl)

theorem followAndMeasure_work (s : State) (r : TimerRun) (o : Station) (f : SyncFields) (a : Stamp) :
    TimerWork s (s.followAndMeasure r o f a) := by
  unfold State.followAndMeasure
  dsimp only
  split
  · exact (follow_role s r o).toTimerWork.trans (setRun_work ..)
  · exact (follow_role s r o).toTimerWork

/-- R51: so is the taking of a SYNC. -/
theorem takeSync_work (s : State) (own : Option Station) (o : Station) (f : SyncFields) (a : Stamp) :
    TimerWork s (s.takeSync own o f a) := by
  unfold State.takeSync
  dsimp only
  repeat' split
  · exact .refl s
  · exact setTimerCounters_work ..
  · exact .refl s
  · exact .refl s
  · exact setRun_work ..
  · exact .refl s
  · exact followAndMeasure_work ..
  · exact .refl s
  · exact followAndMeasure_work ..
  · exact .refl s
  · exact setRun_work ..
  · exact followAndMeasure_work ..
  · exact .refl s

theorem ownSyncSent_work (s : State) (n : Nat) : TimerWork s (s.ownSyncSent n) := by
  unfold State.ownSyncSent
  split
  · exact .refl s
  · exact (setRun_work s _).trans (setTimerCounters_work ..)

/-- R57: the SYNC of an edge is written outside the held condition only. -/
theorem writeBeacon_work (s : State) : TimerWork s s.writeBeacon ∧ s.writeBeacon.frame = s.frame := by
  have written (v : SyncBody) (h : s.linkHeld = false) : TimerWork s (s.setLink (s.link.writeSync v)) :=
    ⟨rfl, Nat.le_refl _, ⟨_, s.link.counters.stale, rfl⟩, fun hh => by simp [h] at hh⟩
  unfold State.writeBeacon
  repeat' split
  · exact ⟨.refl s, rfl⟩
  · exact ⟨written _ (by simp_all), rfl⟩
  · exact ⟨.refl s, rfl⟩
  · exact ⟨written _ (by simp_all), rfl⟩
  · exact ⟨.refl s, rfl⟩
  · exact ⟨.refl s, rfl⟩

theorem clearHeld_work (s : State) : TimerWork s s.clearHeld ∧ s.clearHeld.frame = s.frame := by
  unfold State.clearHeld
  split
  · exact ⟨.refl s, rfl⟩
  · rename_i r hr
    exact ⟨setRun_work .., by simp [State.frame, State.setRun, hr]⟩

/-- R44: an edge of the frame timer begins the frame of the next number. -/
theorem runEdge_work (s : State) (r : TimerRun) :
    TimerWork s (s.runEdge r) ∧ (s.runEdge r).frame = r.nextNumber := by
  unfold State.runEdge
  dsimp only
  have hl := lockEdge_role (s.countEdge r) r.advance
  generalize (s.countEdge r).lockEdge r.advance = a at hl
  have hr := roleEdge_work a
  generalize a.roleEdge = b at hr
  have hb := writeBeacon_work (b.setLink b.link.cancelStale)
  have hc := clearHeld_work (b.setLink b.link.cancelStale).writeBeacon
  refine ⟨?_, (hc.2.trans hb.2).trans (hr.2.trans hl.frame)⟩
  exact (setTimerCounters_work s _).trans (hl.toTimerWork.trans (hr.1.trans ((cancelStale_work b).trans
    (hb.1.trans hc.1))))

/-- R44, R65: so does every edge, the frame timer starting anew at its number 0. -/
theorem timerEdge_work (s : State) : TimerWork s s.timerEdge ∧ s.timerEdge.frame = s.nextFrame := by
  have counted (t : State) : TimerWork t t.countOrder := .ofSame rfl (Nat.le_succ _) rfl
  unfold State.timerEdge
  split
  · rename_i h
    exact ⟨.refl s, by simp [State.frame, State.nextFrame, h]⟩
  · rename_i r h
    dsimp only
    rw [show s.nextFrame = r.nextNumber by simp [State.nextFrame, h]]
    have hs : TimerWork s (s.advanceTo r.nextEdge).countOrder := (advanceTo_work s _).trans (counted _)
    split
    · rename_i c hc
      have hn : r.nextNumber = 0 := by simp [TimerRun.nextNumber, hc]
      exact ⟨hs.trans ((setRun_work _ _).trans (cancelStale_work _)), hn.symm⟩
    · exact ⟨hs.trans (runEdge_work _ r).1, (runEdge_work _ r).2⟩

end Sys2Proof.Machine

end

section
/-! SUPPORT. What the shared operations keep: the canonical forms of the stores, the bounds of the waiting rows and of the
link controller, and the order of the labels. -/

namespace Sys2Proof.Machine

set_option Elab.async false

open Sys2Proof

/-- The canonical forms, the bounds and the order of labels are kept. An update that touches none of what they speak of keeps
them as they stand. -/
structure Kept (s t : State) : Prop where
  memory : s.MemorySound → t.MemorySound := by exact id
  rows : s.IngestSound → t.IngestSound := by exact id
  link : s.LinkSound → t.LinkSound := by exact id
  labels : s.LabelsSound → t.LabelsSound := by exact id

/-- They are kept, and the start-up controller is as it was. -/
structure Ordinary (s t : State) : Prop extends Kept s t where
  startup : t.startup = s.startup := by rfl

theorem Kept.trans {a b c : State} (h : Kept a b) (k : Kept b c) : Kept a c :=
  ⟨k.memory ∘ h.memory, k.rows ∘ h.rows, k.link ∘ h.link, k.labels ∘ h.labels⟩

theorem Ordinary.refl (s : State) : Ordinary s s := {}

theorem Ordinary.trans {a b c : State} (h : Ordinary a b) (k : Ordinary b c) : Ordinary a c :=
  ⟨h.toKept.trans k.toKept, k.startup.trans h.startup⟩

/-- A fold of operations that keep them keeps them. -/
theorem Ordinary.foldl {α : Type} {f : State → α → State} (h : ∀ s a, Ordinary s (f s a)) (l : List α) (s : State) :
    Ordinary s (l.foldl f s) :=
  foldl_frame Ordinary f .refl (fun _ _ _ => .trans) h l s

/-- R12, R19: a change of the link controller that keeps its bounds. -/
theorem setLink_ordinary {s : State} {x : Link} (h : s.LinkSound → (s.setLink x).LinkSound) : Ordinary s (s.setLink x) :=
  { link := h }

theorem Ordinary.ofLink {s t : State} (h : LinkAndLanes s t) (hc : t.lanes.conditions = s.lanes.conditions)
    (hl : s.LinkSound → t.LinkSound) : Ordinary s t where
  memory := by simp only [State.MemorySound, h.showMemory, h.wall, h.ingest]; exact id
  rows := by simp only [State.IngestSound, h.ingest]; exact id
  link := hl
  labels := by simp only [State.LabelsSound, h.wall, h.timer, h.output, h.budget, hc]; exact id
  startup := h.startup

theorem Ordinary.ofLanes {s t : State} (h : LanesAndFetch s t) (hc : t.lanes.conditions = s.lanes.conditions) :
    Ordinary s t :=
  .ofLink (.ofLanes h) hc (by simp only [State.LinkSound, h.link]; exact id)

theorem Ordinary.ofFetch {s t : State} (h : OnlyFetch s t) : Ordinary s t :=
  .ofLanes (.ofFetch h) (by simpa using congrArg (fun z : State => z.lanes.conditions) (h.same s.fetch))

theorem Ordinary.ofPeers {s t : State} (h : PeersAndTally s t) : Ordinary s t where
  memory := by simp only [State.MemorySound, h.showMemory, h.wall, h.ingest]; exact id
  rows := by simp only [State.IngestSound, h.ingest]; exact id
  link := by simp only [State.LinkSound, h.link]; exact id
  labels := by simp only [State.LabelsSound, h.wall, h.timer, h.lanes, h.output, h.budget]; exact id
  startup := h.startup

/-- R44: the frame timer's work keeps them. -/
theorem Ordinary.ofTimer {s t : State} (h : TimerAndLink s t) (k : TimerWork s t) : Ordinary s t where
  memory := by simp only [State.MemorySound, h.showMemory, h.wall, h.ingest]; exact id
  rows := by simp only [State.IngestSound, h.ingest]; exact id
  link := by
    obtain ⟨x, n, hl⟩ := k.link
    simp only [State.LinkSound, hl]
    exact id
  labels := by
    have := k.edges
    simp only [State.LabelsSound, h.wall, h.lanes, h.output, h.budget]
    omega
  startup := k.startup

/-! ## Lanes and fetch unit -/

theorem deliverCue_ordinary (s : State) (m : CueMessage) (o : Origin) : Ordinary s (s.deliverCue m o) :=
  .ofLanes (deliverCue_frame s m o) (deliverCue_conditions s m o)

theorem handOutcome_ordinary (s : State) (r : FetchRequest) (o : FetchOutcome) : Ordinary s (s.handOutcome r o) := by
  refine .ofLanes (handOutcome_frame s r o) ?_
  unfold State.handOutcome
  split <;> rfl

theorem completeFetch_ordinary (s : State) : Ordinary s s.completeFetch := by
  unfold State.completeFetch
  split
  · exact .refl s
  · exact .trans {} (.trans (handOutcome_ordinary ..) (.ofFetch (choosePort_frame _)))

theorem timeOut_ordinary (s : State) (r : FetchRequest) : Ordinary s (s.timeOut r) := .ofLanes (timeOut_frame s r) rfl

theorem fetchEdge_ordinary (s : State) (c : Config) : Ordinary s (s.fetchEdge c) :=
  .trans {} (.foldl timeOut_ordinary _ _)

/-! ## Link controller -/

theorem applyUnsent_ordinary (s : State) (m : CueMessage) : Ordinary s (s.applyUnsent m) :=
  .trans {} (deliverCue_ordinary ..)

theorem sendingTrigger_length (l : Link) : l.sendingTrigger.length ≤ 1 := by
  unfold Link.sendingTrigger
  split <;> simp

/-- R19: the messages of the queue are those in transmission and those not. -/
theorem sending_idle_length (l : Link) : l.sendingTrigger.length + l.idleTriggers.length = l.triggers.length := by
  unfold Link.sendingTrigger Link.idleTriggers
  split
  · cases l.triggers <;> simp
    omega
  · simp

/-- With no attempt in progress no slot is busy, and every message of the queue waits. -/
theorem busy_of_no_attempt {l : Link} (h : l.attempt = none) (n : SlotName) : l.busy n = false := by
  simp [Link.busy, h]

theorem idleTriggers_of_no_attempt {l : Link} (h : l.attempt = none) : l.idleTriggers = l.triggers := by
  simp [Link.idleTriggers, busy_of_no_attempt h]

theorem sendingTrigger_of_no_attempt {l : Link} (h : l.attempt = none) : l.sendingTrigger = [] := by
  simp [Link.sendingTrigger, busy_of_no_attempt h]

/-- R19: then the expired messages are dropped and counted, and the others keep their order. -/
theorem expireTriggers_of_no_attempt {l : Link} (h : l.attempt = none) (f : FrameNo) :
    l.expireTriggers f =
      { l with
        triggers := l.triggers.filter fun m => !m.expiredAt f
        counters :=
          { l.counters with
            triggerExpired :=
              raise16By (l.triggers.filter (·.expiredAt f)).length l.counters.triggerExpired } } := by
  unfold Link.expireTriggers
  simp [idleTriggers_of_no_attempt h, sendingTrigger_of_no_attempt h]

theorem flushTriggers_ordinary (s : State) : Ordinary s s.flushTriggers := by
  have emptied : Ordinary s
      (s.setLink { s.link.fateTrigger .delivered with triggers := (s.link.fateTrigger .delivered).sendingTrigger }) :=
    setLink_ordinary fun ⟨ht, hr, _⟩ => ⟨ht, hr, Nat.le_trans (sendingTrigger_length _) (by decide)⟩
  exact emptied.trans (.foldl applyUnsent_ordinary _ _)

theorem triggerFailed_ordinary (s : State) (fate : TriggerFate) : Ordinary s (s.triggerFailed fate) := by
  have taken {m : CueMessage} {rest : List CueMessage} (h : s.link.triggers = m :: rest) (x : LinkCounters) :
      Ordinary s (s.setLink { s.link with triggers := rest, counters := x }) := by
    refine setLink_ordinary fun ⟨ht, hr, hq⟩ => ⟨ht, hr, ?_⟩
    rw [h, List.length_cons] at hq
    exact Nat.le_of_succ_le hq
  unfold State.triggerFailed
  dsimp only
  split
  · exact .refl s
  · exact .refl s
  · exact taken ‹_› _
  · exact (taken ‹_› s.link.counters).trans (applyUnsent_ordinary ..)

theorem slotFailed_ordinary (s : State) (slot : SlotName) :
    Ordinary s (s.setLink { s.link.slotFailed slot with attempt := none }) :=
  setLink_ordinary fun h => by cases slot <;> exact h

theorem attemptFailed_ordinary (s : State) : Ordinary s s.attemptFailed := by
  unfold State.attemptFailed
  split
  · exact .refl s
  · dsimp only
    split
    · exact .trans (slotFailed_ordinary ..) (triggerFailed_ordinary ..)
    · exact slotFailed_ordinary ..

theorem detach_ordinary (s : State) : Ordinary s s.detach := .trans {} (flushTriggers_ordinary _)

theorem raiseTec_le (n : Nat) : raiseTec n ≤ 200 := Nat.min_le_left _ _

theorem raiseRec_le (n : Nat) : raiseRec n ≤ 120 := Nat.min_le_left _ _

/-- R13: the state that follows the counts leaves the counts and the trigger queue. -/
theorem followCounts_sound {s : State} {l : Link} (h : (s.setLink l).LinkSound) : (s.setLink l.followCounts).LinkSound := by
  unfold Link.followCounts
  split <;> exact h

theorem countFault_ordinary (s : State) (tx : Bool) (k : LinkFaultKind) : Ordinary s (s.countFault tx k) := by
  have raised : Ordinary s (s.setLink { s.link with tecCount := raiseTec s.link.tecCount }) :=
    setLink_ordinary fun h => ⟨raiseTec_le _, h.2⟩
  unfold State.countFault
  dsimp only
  split
  · exact .refl s
  · split
    · split
      · exact .refl s
      · split
        · exact raised.trans (detach_ordinary _)
        · exact raised.trans (setLink_ordinary followCounts_sound)
    · exact setLink_ordinary fun h => followCounts_sound ⟨h.1, raiseRec_le _, h.2.2⟩

/-! ## Number unit -/

theorem chooseCandidate_ordinary (s : State) : Ordinary s s.chooseCandidate := by
  unfold State.chooseCandidate
  split <;> exact {}

theorem endClaim_ordinary (s : State) (c : Station) : Ordinary s (s.endClaim c) :=
  .trans {} (chooseCandidate_ordinary _)

theorem yieldNumber_ordinary (s : State) (n : Station) : Ordinary s (s.yieldNumber n) :=
  .trans {} (.trans (chooseCandidate_ordinary _) (flushTriggers_ordinary _))

theorem defend_ordinary (s : State) (n : Station) : Ordinary s (s.defend n) := by
  unfold State.defend
  dsimp only
  split <;> exact {}

theorem hearOrigin_ordinary (s : State) (o : Station) (isClaim : Bool) : Ordinary s (s.hearOrigin o isClaim) := by
  unfold State.hearOrigin
  repeat' split
  · exact {}
  · exact .refl s
  · exact yieldNumber_ordinary ..
  · exact .refl s
  · exact endClaim_ordinary ..
  · exact .refl s
  · exact .refl s

theorem hearClaim_ordinary (s : State) (o : Station) (x : BitVec 32) : Ordinary s (s.hearClaim o x) := by
  unfold State.hearClaim
  repeat' split
  · exact endClaim_ordinary ..
  · exact .refl s
  · exact yieldNumber_ordinary ..
  · exact defend_ordinary ..
  · exact .refl s
  · exact .refl s
  · exact .refl s

theorem claimLost_ordinary (s : State) (n : Station) : Ordinary s (s.claimLost n) := by
  unfold State.claimLost
  repeat' split
  · exact endClaim_ordinary ..
  · exact .refl s
  · exact yieldNumber_ordinary ..
  · exact .refl s
  · exact .refl s

theorem ownClaimSent_ordinary (s : State) (n : Station) : Ordinary s (s.ownClaimSent n) := by
  unfold State.ownClaimSent
  repeat' split
  all_goals exact {}

theorem numberEdge_ordinary (s : State) : Ordinary s s.numberEdge := by
  unfold State.numberEdge
  repeat' split
  · exact {}
  · exact {}
  · exact {}
  · exact {}
  · exact {}
  · exact chooseCandidate_ordinary ..
  · exact {}
  · exact {}
  · exact {}
  · exact {}
  · exact {}
  · exact {}
  · exact {}

theorem startNumber_ordinary (s : State) (c : Config) : Ordinary s (s.startNumber c) := by
  unfold State.startNumber
  dsimp only
  repeat' split
  all_goals exact {}

/-! ## Peer table -/

theorem hearPeer_ordinary (s : State) (o : Station) (f : Option SyncFields) : Ordinary s (s.hearPeer o f) := by
  unfold State.hearPeer
  split <;> exact {}

theorem hearStatusRole_ordinary (s : State) (o : Station) (r : Role) : Ordinary s (s.hearStatusRole o r) := by
  unfold State.hearStatusRole
  split <;> exact {}

theorem advanceTo_ordinary (s : State) (now : Stamp) : Ordinary s (s.advanceTo now) := by
  unfold State.advanceTo
  split <;> exact {}

/-- R44: work on the aged entries keeps them where the work does. -/
theorem onAged_ordinary {s : State} {work : State → State} (h : ∀ t, Ordinary t (work t)) :
    Ordinary s (s.onAged work) := by
  unfold State.onAged
  split
  · exact h s
  · exact .trans (.ofPeers (agePeers_frame ..)) (.trans (h _) {})

/-! ## Trigger pins -/

theorem applyUnsentAt_ordinary (s : State) (f : FrameNo) (m : CueMessage) : Ordinary s (s.applyUnsentAt f m) := by
  have hl : (s.applyUnsentAt f m).link = _ := applyUnsent_link (s.atFrame f) m
  have hs : (s.atFrame f).link = s.link ∧ (s.atFrame f).lanes = s.lanes := by
    unfold State.atFrame
    split <;> exact ⟨rfl, rfl⟩
  refine .ofLink (applyUnsentAt_frame s f m) ?_ ?_
  · exact (deliverCue_conditions ..).trans (congrArg LaneEngine.conditions hs.2)
  · simp only [State.LinkSound, hl, hs.1]
    exact id

theorem offerTrigger_ordinary (s : State) (m : CueMessage) : Ordinary s (s.setLink (s.link.offerTrigger m)) := by
  refine setLink_ordinary fun ⟨ht, hr, hq⟩ => ?_
  unfold Link.offerTrigger
  split
  · refine ⟨ht, hr, ?_⟩
    simp only [setLink_link, List.length_append, List.length_singleton]
    omega
  · exact ⟨ht, hr, hq⟩

theorem formTrigger_ordinary (s : State) (f : FrameNo) (m : CueMessage) : Ordinary s (s.formTrigger f m) := by
  unfold State.formTrigger
  dsimp only
  split
  · exact .trans {} (offerTrigger_ordinary ..)
  · exact .trans {} (applyUnsentAt_ordinary ..)

theorem pinActs_ordinary (s : State) (pin : PinConfig) (level : Bool) (f : FrameNo) :
    Ordinary s (s.pinActs pin level f) := by
  unfold State.pinActs State.goNextPin State.tallyPin
  dsimp only
  repeat' split
  · exact {}
  · exact formTrigger_ordinary ..
  · exact {}
  · exact formTrigger_ordinary ..
  · exact formTrigger_ordinary ..
  · exact {}
  · exact {}

theorem samplePin_ordinary (s : State) (c : Config) (i : Fin 8) (level : Bool) (f : FrameNo) :
    Ordinary s (s.samplePin c i level f) := by
  unfold State.samplePin State.qualify
  dsimp only
  repeat' split
  · exact {}
  · exact {}
  · exact .trans {} (pinActs_ordinary ..)
  · exact {}

theorem samplePins_ordinary (s : State) (c : Config) (pins : BitVec 8) (f : FrameNo) (upTo : Nat) :
    Ordinary s (s.samplePins c pins f upTo) :=
  .foldl (fun t i => samplePin_ordinary t c i _ f) _ s

/-! ## Delivery -/

/-- R12, R13: REC falls and the link state follows, but in DETACHED. -/
theorem countReceived_eq (l : Link) :
    l.countReceived =
      { l with
        recCount := if l.state = .detached then l.recCount else l.recCount - 1
        state := if l.state = .detached then .detached else LinkState.ofCounts l.tecCount (l.recCount - 1)
        signal := none
        waitQuiet := false } := by
  unfold Link.countReceived Link.followCounts
  by_cases h : l.state = .detached <;> simp [h]

theorem countReceived_ordinary (s : State) : Ordinary s (s.setLink s.link.countReceived) := by
  refine setLink_ordinary fun ⟨ht, hr, hq⟩ => ?_
  rw [countReceived_eq]
  refine ⟨ht, ?_, hq⟩
  simp only [setLink_link]
  split <;> omega

theorem firstStep_ordinary (s : State) (m : LinkMessage) (sync : Option SyncFields) (isClaim : Bool) :
    Ordinary s (s.firstStep m sync isClaim) :=
  .trans (advanceTo_ordinary ..)
    (.trans (countReceived_ordinary _) (.trans (hearPeer_ordinary ..) (hearOrigin_ordinary ..)))

/-- R23: a message is taken no further than the first step, or its consumer takes it after that step. -/
theorem receive_spec (s : State) (k : MessageKind) (m : LinkMessage) (consumer : State → Option Station → State) :
    Ordinary s (s.receive k m consumer) ∨
      ∃ t, Ordinary s t ∧ s.receive k m consumer = consumer t s.heldNumber := by
  unfold State.receive
  dsimp only
  split
  · by_cases hl : m.payload.length = k.length
    · rw [if_pos (decide_eq_true hl)]
      exact .inr ⟨_, firstStep_ordinary .., rfl⟩
    · rw [if_neg (by simpa using hl)]
      exact .inl (.trans (firstStep_ordinary s m _ _) {})
  · exact .inl (.refl s)

theorem receive_ordinary (s : State) (k : MessageKind) (m : LinkMessage) {consumer : State → Option Station → State}
    (h : ∀ t own, Ordinary t (consumer t own)) : Ordinary s (s.receive k m consumer) := by
  rcases receive_spec s k m consumer with ho | ⟨t, ht, he⟩
  · exact ho
  · rw [he]
    exact ht.trans (h ..)

theorem takeQuery_ordinary (s : State) (own : Option Station) (o : Station) (q : QueryFields) :
    Ordinary s (s.takeQuery own o q) := by
  unfold State.takeQuery
  dsimp only
  repeat' split
  all_goals exact {}

/-- R12, R13, R16: TEC falls and the link state follows, but in DETACHED, and the message leaves its slot. -/
theorem countSent_eq (l : Link) (slot : SlotName) :
    l.countSent slot =
      (if l.state = .detached then { l with attempt := none, signal := none, waitQuiet := false }
       else l.afterSent).slotSent slot := by
  unfold Link.countSent Link.followCounts
  by_cases h : l.state = .detached <;> cases slot <;> simp [h, Link.slotSent, Link.afterSent]

theorem slotSent_ordinary (s : State) (slot : SlotName) : Ordinary s (s.setLink (s.link.slotSent slot)) := by
  refine setLink_ordinary fun ⟨ht, hr, hq⟩ => ?_
  have tail : s.link.triggers.tail.length ≤ 4 := by
    rw [List.length_tail]
    omega
  cases slot
  case trigger => exact ⟨ht, hr, tail⟩
  all_goals exact ⟨ht, hr, hq⟩

theorem countSent_ordinary (s : State) (slot : SlotName) : Ordinary s (s.setLink (s.link.countSent slot)) := by
  have sent {x : Link} (h : Ordinary s (s.setLink x)) : Ordinary s (s.setLink (x.slotSent slot)) :=
    h.trans (slotSent_ordinary (s.setLink x) slot)
  rw [countSent_eq]
  split
  · exact sent {}
  · exact sent (setLink_ordinary fun h => ⟨Nat.le_trans (Nat.sub_le ..) h.1, h.2⟩)

theorem selfReceive_ordinary (s : State) (a : Attempt) (head : Option CueMessage) : Ordinary s (s.selfReceive a head) := by
  unfold State.selfReceive
  repeat' split
  · exact .ofTimer (ownSyncSent_frame ..) (ownSyncSent_work ..)
  · exact ownClaimSent_ordinary ..
  · exact {}
  · exact {}
  · exact {}
  · exact deliverCue_ordinary ..
  · exact {}

end Sys2Proof.Machine

end

section
/-! SUPPORT. What the blocks do at an edge, at a start and at a reset keeps the canonical forms, the bounds and the order of
labels, and so does every command. -/

namespace Sys2Proof.Machine

set_option Elab.async false

open Sys2Proof

/-! ## Pixel ingest -/

/-- R69, R73: at most 8 rows wait, and none while the writer is idle. -/
def Ingest.RowsSound (u : Ingest) : Prop := u.queue.length ≤ 8 ∧ (u.writer = none → u.queue = [])

theorem ingestSound_iff (s : State) : s.IngestSound ↔ s.ingest.RowsSound := Iff.rfl

/-- R69: an offered row is taken by the idle writer, joins a queue with room, or is not taken. -/
theorem offer_spec (u : Ingest) (trigger : Nat) (r : Row) :
    (u.offer trigger r).back = u.back ∧ (u.RowsSound → (u.offer trigger r).RowsSound) := by
  unfold Ingest.offer
  split
  · rename_i h
    exact ⟨rfl, fun _ => ⟨by simp [h.1], fun hw => by cases hw⟩⟩
  · rename_i h
    split
    · have joined (v : Ingest) (hq : v.queue = u.queue ++ [r]) (hw : v.writer = u.writer) :
          u.RowsSound → v.RowsSound := fun ⟨_, hidle⟩ =>
        ⟨by rw [hq, List.length_append, List.length_singleton]; omega, fun hn => absurd ⟨hidle (hw ▸ hn), hw ▸ hn⟩ h⟩
      unfold Ingest.paceUp
      split <;> exact ⟨rfl, joined _ rfl rfl⟩
    · exact ⟨rfl, id⟩

theorem arrive_spec (u : Ingest) (c : Config) (f : FrameNo) (r : Row) :
    (u.arrive c f r).back = u.back ∧ (u.RowsSound → (u.arrive c f r).RowsSound) := by
  unfold Ingest.arrive
  split
  · exact ⟨rfl, id⟩
  · split
    · exact offer_spec ..
    · exact ⟨rfl, id⟩

/-- R70: the pace line falling changes nothing else. -/
theorem paceDown_eq (u : Ingest) : ∃ x, u.paceDown = { u with pace := x } := by
  unfold Ingest.paceDown
  split
  · exact ⟨.go, rfl⟩
  · exact ⟨u.pace, rfl⟩

theorem flush_spec (u : Ingest) (f : FrameNo) :
    (u.flush f).back = u.back ∧ (u.RowsSound → (u.flush f).RowsSound) := by
  unfold Ingest.flush
  split
  · exact ⟨rfl, id⟩
  · obtain ⟨x, hx⟩ := paceDown_eq
      { u with
        queue := u.queue.filter fun r => decide (judgeTag r.tag f = .ahead)
        counts :=
          { u.counts with
            stale := raise8By (u.queue.countP fun r => decide (judgeTag r.tag f = .stale)) u.counts.stale
            outOfWindow :=
              raise8By (u.queue.countP fun r => decide (judgeTag r.tag f = .outOfWindow)) u.counts.outOfWindow } }
    rw [hx]
    exact ⟨rfl, fun ⟨hq, hidle⟩ =>
      ⟨Nat.le_trans (List.length_filter_le ..) hq, fun hw => by simp [hidle hw]⟩⟩

/-- R73: an idle writer that takes the next row leaves no row waiting behind it. -/
theorem takeNext_spec (u : Ingest) : u.takeNext.back = u.back ∧ (u.queue.length ≤ 8 → u.takeNext.RowsSound) := by
  unfold Ingest.takeNext
  split
  · rename_i h
    exact ⟨rfl, fun hq => ⟨hq, fun _ => h⟩⟩
  · rename_i r rest h
    obtain ⟨x, hx⟩ := paceDown_eq { u with queue := rest, writer := some r }
    rw [hx]
    refine ⟨rfl, fun hq => ⟨?_, fun hw => by cases hw⟩⟩
    rw [h, List.length_cons] at hq
    exact Nat.le_of_succ_le hq

/-- R76: a row written keeps the canonical form of the back store. -/
theorem writeRow_wf (b : BackBuffer) (c : Config) (r : Row) (h : PixelStore.wf b.store = true) :
    PixelStore.wf (b.writeRow c r).store = true := canonical_write _ _ _ _ h

theorem commitTo_spec (u : Ingest) (c : Config) (f : FrameNo) (r : Row) :
    (u.commitTo c f r).queue = u.queue ∧
      (PixelStore.wf u.back.store = true → PixelStore.wf (u.commitTo c f r).back.store = true) := by
  unfold Ingest.commitTo
  split
  · exact ⟨rfl, writeRow_wf _ c r⟩
  · exact ⟨rfl, id⟩
  · exact ⟨rfl, writeRow_wf (BackBuffer.cleared _) c r⟩
  · exact ⟨rfl, id⟩

/-- R74: a commit keeps the canonical form of the back store and the bounds of the waiting rows. -/
theorem commit_spec (u : Ingest) (c : Config) (f : FrameNo) :
    (PixelStore.wf u.back.store = true → PixelStore.wf (u.commit c f).back.store = true) ∧
      (u.RowsSound → (u.commit c f).RowsSound) := by
  unfold Ingest.commit
  split
  · exact ⟨id, id⟩
  · rename_i r _
    dsimp only
    split
    · have hc := commitTo_spec { u with writer := none } c f r
      have hn := takeNext_spec (Ingest.commitTo { u with writer := none } c f r)
      exact ⟨fun h => by rw [hn.1]; exact hc.2 h, fun h => hn.2 (by rw [hc.1]; exact h.1)⟩
    · have hn := takeNext_spec { u with writer := none, counts := u.counts.ofTag (judgeTag r.tag f) }
      exact ⟨fun h => by rw [hn.1]; exact h, fun h => hn.2 h.1⟩

theorem setIngest_ordinary {s : State} {u : Ingest}
    (hb : PixelStore.wf s.ingest.back.store = true → PixelStore.wf u.back.store = true)
    (hr : s.ingest.RowsSound → u.RowsSound) : Ordinary s (s.setIngest u) :=
  { memory := fun ⟨hm, hf, hs⟩ => ⟨hm, hf, hb hs⟩, rows := hr }

theorem takePacket_ordinary (s : State) (p : RowPacket) : Ordinary s (s.takePacket p) := by
  unfold State.takePacket
  repeat' split
  · exact {}
  · have h := arrive_spec s.ingest ‹Config› s.frame ‹Row›
    exact setIngest_ordinary (by rw [h.1]; exact id) h.2
  · exact .refl s

theorem flushEdge_ordinary (s : State) : Ordinary s s.flushEdge := by
  have h := flush_spec s.ingest s.frame
  exact setIngest_ordinary (by rw [h.1]; exact id) h.2

/-! ## The blocks that publish at an edge -/

theorem setAhead_ordinary (s : State) (x : Ahead) : Ordinary s (s.setAhead x) := {}

/-- A change of the wall buffers that leaves the front store and publishes at most at the last edge. -/
theorem setWall_ordinary {s : State} {w : Wall} (hf : w.front = s.wall.front)
    (hl : s.LabelsSound → w.figures.label ≤ s.timer.edges ∧ w.repeatHanded.label ≤ s.timer.edges) :
    Ordinary s (s.setWall w) where
  memory := fun ⟨hm, hs, hb⟩ => ⟨hm, hf.symm ▸ hs, hb⟩
  labels := fun h => ⟨(hl h).1, (hl h).2, h.2.2⟩

/-- R84, R89: the flip publishes figures and repeat run at the edge, and a swap exchanges two stores in canonical form. -/
theorem flip_ordinary (s : State) (c : Config) : Ordinary s (s.flip c) := by
  have now : s.timer.edges ≤ s.timer.edges := Nat.le_refl _
  unfold State.flip
  dsimp only
  split
  · exact
      { memory := fun ⟨hm, hf, hb⟩ => ⟨hm, hb, hf⟩
        labels := fun h => ⟨now, now, h.2.2⟩ }
  · exact setWall_ordinary rfl fun _ => ⟨now, now⟩
  · exact { labels := fun h => ⟨now, now, h.2.2⟩ }

theorem wallEdge_ordinary (s : State) (c : Config) : Ordinary s (s.wallEdge c) :=
  .trans (flip_ordinary s c) (setWall_ordinary rfl fun h => ⟨h.1, h.2.1⟩)

theorem lanesEdge_ordinary (s : State) (c : Config) : Ordinary s (s.lanesEdge c) := by
  have h := lanesEdge_frame s c
  have hc : (s.lanesEdge c).lanes.conditions.label = s.timer.edges := rfl
  generalize s.lanesEdge c = t at h hc
  constructor
  · constructor
    · simp only [State.MemorySound, h.showMemory, h.wall, h.ingest]; exact id
    · simp only [State.IngestSound, h.ingest]; exact id
    · simp only [State.LinkSound, h.link]; exact id
    · simp only [State.LabelsSound, h.wall, h.timer, h.output, h.budget, hc]
      exact fun ⟨h1, h2, _, h4⟩ => ⟨h1, h2, Nat.le_refl _, h4⟩
  · exact h.startup

theorem setOutput_ordinary {s : State} {x : OutputStage} (h : x.merged.label ≤ s.timer.edges) :
    Ordinary s (s.setOutput x) :=
  { labels := fun ⟨h1, h2, h3, _, h5⟩ => ⟨h1, h2, h3, h, h5⟩ }

theorem outputEdge_ordinary (s : State) (c : Config) : Ordinary s (s.outputEdge c) := setOutput_ordinary (Nat.le_refl _)

theorem setBudget_ordinary {s : State} {x : Budget} (h : s.budget.scale.label ≤ s.timer.edges → x.scale.label ≤ s.timer.edges) :
    Ordinary s (s.setBudget x) :=
  { labels := fun ⟨h1, h2, h3, h4, h5⟩ => ⟨h1, h2, h3, h4, h h5⟩ }

theorem budgetEdge_ordinary (s : State) (c : Config) : Ordinary s (s.budgetEdge c) :=
  setBudget_ordinary fun _ => Nat.le_refl _

theorem reportEdge_ordinary (s : State) (c : Config) (own : Option Station) : Ordinary s (s.reportEdge c own) := by
  unfold State.reportEdge
  split <;> exact {}

/-! ## The trigger queue at an edge -/

/-- R19: the fate of a message in transmission changes neither the queue nor which message is in transmission. -/
theorem fateTrigger_spec (l : Link) (fate : TriggerFate) :
    (l.fateTrigger fate).sendingTrigger = l.sendingTrigger ∧ (l.fateTrigger fate).idleTriggers = l.idleTriggers := by
  have hb : (l.fateTrigger fate).busy .trigger = l.busy .trigger := by
    unfold Link.busy Link.fateTrigger
    cases l.attempt with
    | none => rfl
    | some a =>
      dsimp only [Option.map]
      split <;> rfl
  unfold Link.sendingTrigger Link.idleTriggers
  rw [hb]
  exact ⟨rfl, rfl⟩

/-- R19: the queue at an edge: the message in transmission and the others that have not expired. -/
theorem expireTriggers_triggers (l : Link) (f : FrameNo) :
    (l.expireTriggers f).triggers = l.sendingTrigger ++ l.idleTriggers.filter fun m => !m.expiredAt f := by
  unfold Link.expireTriggers
  dsimp only
  split
  · rw [(fateTrigger_spec l .expires).1, (fateTrigger_spec l .expires).2]
  · rfl

theorem expireTriggers_ordinary (s : State) (f : FrameNo) : Ordinary s (s.setLink (s.link.expireTriggers f)) := by
  refine setLink_ordinary fun ⟨ht, hr, hq⟩ => ⟨?_, ?_, ?_⟩
  · unfold Link.expireTriggers
    dsimp only
    split <;> exact ht
  · unfold Link.expireTriggers
    dsimp only
    split <;> exact hr
  · have hs := sending_idle_length s.link
    have hf := List.length_filter_le (fun m : CueMessage => !m.expiredAt f) s.link.idleTriggers
    simp only [setLink_link, expireTriggers_triggers, List.length_append]
    omega

/-! ## The edge -/

theorem timerEdge_ordinary (s : State) : Ordinary s s.timerEdge := .ofTimer (timerEdge_frame s) (timerEdge_work s).1

theorem agePeers_ordinary (s : State) (c : Config) : Ordinary s (s.agePeers c) := .ofPeers (agePeers_frame s c)

/-- R44: the edge taken by every block. -/
theorem blocksEdge_ordinary (s : State) (c : Config) (pins : BitVec 8) (first : Bool) :
    Ordinary s (s.blocksEdge c pins first) := by
  have numbered (t : State) : Ordinary t (if first = true then t else t.numberEdge) := by
    split
    · exact .refl t
    · exact numberEdge_ordinary t
  unfold State.blocksEdge
  dsimp only
  refine .trans ?_ (reportEdge_ordinary _ c _)
  refine .trans ?_ (samplePins_ordinary _ c pins _ 8)
  refine .trans ?_ (budgetEdge_ordinary _ c)
  refine .trans ?_ (outputEdge_ordinary _ c)
  refine .trans ?_ (lanesEdge_ordinary _ c)
  refine .trans ?_ (fetchEdge_ordinary _ c)
  refine .trans ?_ (wallEdge_ordinary _ c)
  refine .trans ?_ (flushEdge_ordinary _)
  exact .trans (expireTriggers_ordinary s s.frame) (numbered _)

theorem edge_ordinary (s : State) (c : Config) (pins : BitVec 8) : Ordinary s (s.edge c pins) := by
  have handed (t : State) : Ordinary t (if t.isRunning = true then t.blocksEdge c pins false else t) := by
    split
    · exact blocksEdge_ordinary ..
    · exact .refl t
  unfold State.edge
  dsimp only
  refine .trans ?_ (setAhead_ordinary _ _)
  exact .trans (agePeers_ordinary s c) (.trans (timerEdge_ordinary _) (handed _))

/-! ## Start and reset -/

/-- R180: a part in RESET has its stores and nothing else of what they speak of. -/
theorem toReset_kept (s : State) (pin supply : Bool) : Kept s (s.toReset pin supply) where
  memory := fun ⟨hm, _, hb⟩ => ⟨hm, rfl, hb⟩
  rows := fun _ => ⟨Nat.zero_le _, fun _ => rfl⟩
  link := fun _ => ⟨Nat.zero_le _, Nat.zero_le _, Nat.zero_le _⟩
  labels := fun _ => ⟨Nat.le_refl _, Nat.le_refl _, Nat.le_refl _, Nat.le_refl _, Nat.le_refl _⟩

theorem choosePort_ordinary (s : State) : Ordinary s s.choosePort := .ofFetch (choosePort_frame s)

theorem askRead_kept (s : State) : Kept s s.askRead := by
  unfold State.askRead
  dsimp only
  split <;> exact {}

/-- R184: the blocks that start are empty, their published sets labelled with the last edge. -/
theorem startBlocks_kept (s : State) (c : Config) : Kept s (s.startBlocks c) where
  memory := fun ⟨hm, _, hb⟩ => ⟨hm, rfl, hb⟩
  rows := fun _ => ⟨Nat.zero_le _, fun _ => rfl⟩
  link := fun _ => ⟨Nat.zero_le _, Nat.zero_le _, Nat.zero_le _⟩
  labels := fun _ => ⟨Nat.le_refl _, Nat.le_refl _, Nat.le_refl _, Nat.le_refl _, Nat.le_refl _⟩

theorem warmRestart_kept (s : State) : Kept s s.warmRestart :=
  .trans (b := { s with
      ahead := s.ahead.timerOnly
      startup := s.startup.atRestart
      link := Link.initial
      number := s.number.atRestart
      timer := { s.timer with counters := TimerCounters.zero }
      ingest := Ingest.initial s.ingest.back.store
      wall := Wall.initial s.timer.edges
      fetch := s.fetch.atRestart
      lanes := LaneEngine.initial s.lanes.bindings s.timer.edges
      output := OutputStage.initial s.output.driven s.timer.edges
      budget := Budget.initial 0 s.timer.edges
      triggers := Triggers.initial
      report := ⟨0, 0⟩ })
    { memory := fun ⟨hm, _, hb⟩ => ⟨hm, rfl, hb⟩
      rows := fun _ => ⟨Nat.zero_le _, fun _ => rfl⟩
      link := fun _ => ⟨Nat.zero_le _, Nat.zero_le _, Nat.zero_le _⟩
      labels := fun _ => ⟨Nat.le_refl _, Nat.le_refl _, Nat.le_refl _, Nat.le_refl _, Nat.le_refl _⟩ }
    (askRead_kept _)

theorem takeRestart_kept (s : State) (own : Option Station) (target : Nat) : Kept s (s.takeRestart own target) := by
  unfold State.takeRestart
  repeat' split
  · exact {}
  · exact warmRestart_kept s
  · exact {}
  · exact {}

theorem fail_kept (s : State) (e : LoadFault) : Kept s (s.fail e) :=
  { labels := fun ⟨h1, h2, h3, _, h5⟩ => ⟨h1, h2, h3, Nat.le_refl _, h5⟩ }

theorem startTimer_ordinary (s : State) (c : Config) (now : Stamp) (pins : BitVec 8) :
    Ordinary s (s.startTimer c now pins) := by
  have started (x : FrameTimer) (h : s.timer.edges ≤ x.edges) : Ordinary s (s.setTimer x) :=
    { labels := fun ⟨h1, h2, h3, h4, h5⟩ =>
        ⟨Nat.le_trans h1 h, Nat.le_trans h2 h, Nat.le_trans h3 h, Nat.le_trans h4 h, Nat.le_trans h5 h⟩ }
  unfold State.startTimer
  dsimp only
  refine .trans ?_ (setAhead_ordinary _ _)
  exact .trans (started _ (Nat.le_succ _)) (blocksEdge_ordinary _ c pins true)

/-- R184: what follows the start of the blocks leaves the start-up controller. -/
theorem pass_spec (s : State) (c : Config) (now : Stamp) (pins : BitVec 8) :
    Kept s (s.pass c now pins) ∧ (s.pass c now pins).startup = s.startup.pass c := by
  have emptied : Ordinary s s.peersAtPass := by
    unfold State.peersAtPass
    split <;> exact {}
  have begun : Kept s ((s.peersAtPass.setStartup (s.peersAtPass.startup.pass c)).startBlocks c) :=
    emptied.toKept.trans (.trans (b := s.peersAtPass.setStartup (s.peersAtPass.startup.pass c)) {} (startBlocks_kept _ c))
  have rest (t : State) : Ordinary t
      (match (t.startNumber c).timer.run with
       | some r => (t.startNumber c).continueTimer r c
       | none => (t.startNumber c).startTimer c now pins) := by
    refine .trans (startNumber_ordinary t c) ?_
    split
    · unfold State.continueTimer
      split <;> exact {}
    · exact startTimer_ordinary ..
  have h := rest ((s.peersAtPass.setStartup (s.peersAtPass.startup.pass c)).startBlocks c)
  exact ⟨begun.trans h.toKept, h.startup.trans (congrArg (fun u => Startup.pass u c) emptied.startup)⟩

theorem raiseRequest_ordinary (s : State) : Ordinary s s.raiseRequest := by
  have risen : Ordinary s (s.setFetch { s.fetch with loaderRequest := true }) := {}
  unfold State.raiseRequest
  dsimp only
  split
  · exact {}
  · split
    · exact risen.trans (choosePort_ordinary _)
    · exact risen

/-- R110: the bytes a loader leaves stand in show memory in canonical form. -/
theorem endGrant_kept (s : State) (writes : List (Nat × Byte)) : Kept s (s.endGrant writes) := by
  have stored : Kept s ((s.setShowMemory (writeShow s.showMemory writes)).setFetch
      { s.fetch with grant := false, port := .none }) :=
    { memory := fun ⟨hm, hf, hb⟩ => ⟨wf_writeShow writes _ hm, hf, hb⟩ }
  unfold State.endGrant
  dsimp only
  split
  · exact stored.trans {}
  · exact stored

/-! ## The commands -/

/-- The commands the start-up controller acts on: resets, the end of the configuration read, a restart, and a loader's
release, which may ask for the read. -/
def startsUp : Instr → Bool
  | .coldReset _ | .resetRelease _ | .configReadEnd _ _ | .restartReceived _ | .loaderRelease _ => true
  | _ => false

theorem execLinkFault_ordinary (k : LinkFaultKind) (phase : SignalPhase) (s : State) :
    ∃ t, execLinkFault k phase s = .next t ∧ Ordinary s t := by
  refine ⟨_, rfl, ?_⟩
  split
  · exact .trans (b := s.setLink { s.link with lastFault := FaultCode.ofKind k }) {} <|
      .trans (attemptFailed_ordinary _) <| .trans (countFault_ordinary ..) {}
  · exact .refl s

theorem execDetachedRecovery_ordinary (levels : List Bool) (s : State) :
    ∃ t, execDetachedRecovery s levels = .next t ∧ Ordinary s t := by
  refine ⟨_, rfl, ?_⟩
  dsimp only
  split
  · split
    · exact setLink_ordinary fun h => ⟨Nat.zero_le _, Nat.zero_le _, h.2.2⟩
    · exact {}
  · exact .refl s

theorem setRun_ordinary (s : State) (r : TimerRun) : Ordinary s (s.setRun r) := {}

theorem setTimerCounters_ordinary (s : State) (c : TimerCounters) : Ordinary s (s.setTimerCounters c) := {}

theorem execReferencePulse_ordinary (now : Stamp) (s : State) :
    ∃ t, execReferencePulse now s = .next t ∧ Ordinary s t := by
  refine ⟨_, rfl, .trans (advanceTo_ordinary s now) ?_⟩
  generalize s.advanceTo now = t
  split
  · exact .refl t
  · dsimp only
    repeat' split
    all_goals exact .trans (setTimerCounters_ordinary ..) (setRun_ordinary ..)

theorem execReferenceTimeout_ordinary (s : State) : ∃ t, execReferenceTimeout s = .next t ∧ Ordinary s t := by
  refine ⟨_, rfl, ?_⟩
  split
  · exact .refl s
  · split
    · exact .refl s
    · exact .trans (advanceTo_ordinary ..) (.trans (setTimerCounters_ordinary ..) (setRun_ordinary ..))

/-- R40: a lost leader, and a number to be looked for again, are work of the frame timer and of the number unit. -/
theorem execPeerAgeOut_ordinary (n : Station) (s : State) : ∃ t, execPeerAgeOut n s = .next t ∧ Ordinary s t := by
  have work (t : State) : Ordinary t t.roleEdge := .ofTimer (roleEdge_frame t) (roleEdge_work t).1
  have lost (t : State) : Ordinary t (t.loseLeader n) := by
    unfold State.loseLeader
    repeat' split
    · exact .refl t
    · exact .trans (.ofTimer (lockEdge_frame ..) (lockEdge_role ..).toTimerWork) <|
        .trans (onAged_ordinary work) (setAhead_ordinary ..)
    · exact .refl t
    · exact .refl t
  have retried (t : State) : Ordinary t (t.retryNumber n) := by
    unfold State.retryNumber
    split <;> exact {}
  refine ⟨_, rfl, ?_⟩
  split
  · exact .trans (.ofPeers (ageOut_frame s n)) <| .trans (lost _) (retried _)
  · exact .refl s

/-- Every command but those the start-up controller acts on leaves it, and keeps the forms, bounds and labels. -/
theorem exec_ordinary (c : Instr) (hc : startsUp c = false) (s : State) : ∃ t, exec c s = .next t ∧ Ordinary s t := by
  cases c with
  | coldReset | resetRelease | configReadEnd | restartReceived | loaderRelease => cases hc
  | linkJoin =>
    refine ⟨_, rfl, ?_⟩
    split <;> exact {}
  | attemptStart now =>
    refine ⟨_, rfl, .trans (advanceTo_ordinary s now) ?_⟩
    split <;> exact {}
  | arbitrationLoss => exact ⟨_, rfl, attemptFailed_ordinary s⟩
  | claimLoss =>
    refine ⟨_, rfl, ?_⟩
    repeat' split
    · exact .trans (attemptFailed_ordinary s) (claimLost_ordinary ..)
    · exact .refl s
    · exact .refl s
  | linkFault kind phase => exact execLinkFault_ordinary kind phase s
  | detachedRecovery levels => exact execDetachedRecovery_ordinary levels s
  | messageSent =>
    refine ⟨_, rfl, ?_⟩
    split
    · exact .refl s
    · exact .trans (countSent_ordinary ..) (selfReceive_ordinary ..)
  | syncReceived m =>
    exact ⟨_, rfl, receive_ordinary s _ m fun _ _ => .ofTimer (takeSync_frame ..) (takeSync_work ..)⟩
  | claimReceived m => exact ⟨_, rfl, receive_ordinary s _ m fun _ _ => hearClaim_ordinary ..⟩
  | goReceived m => exact ⟨_, rfl, receive_ordinary s _ m fun _ _ => deliverCue_ordinary ..⟩
  | holdReceived m => exact ⟨_, rfl, receive_ordinary s _ m fun _ _ => deliverCue_ordinary ..⟩
  | releaseReceived m => exact ⟨_, rfl, receive_ordinary s _ m fun _ _ => deliverCue_ordinary ..⟩
  | tallyReceived m => exact ⟨_, rfl, receive_ordinary s _ m fun _ _ => {}⟩
  | queryReceived m => exact ⟨_, rfl, receive_ordinary s _ m fun _ _ => takeQuery_ordinary ..⟩
  | answerReceived m => exact ⟨_, rfl, receive_ordinary s _ m fun t _ => .refl t⟩
  | statusReceived m =>
    refine ⟨_, rfl, receive_ordinary s _ m fun t _ => ?_⟩
    split
    · exact .refl t
    · exact hearStatusRole_ordinary ..
  | unknownMessageReceived cls kind m =>
    refine ⟨_, rfl, ?_⟩
    split
    · exact firstStep_ordinary ..
    · exact .refl s
  | frameEdge pins =>
    refine ⟨_, rfl, ?_⟩
    split
    · exact edge_ordinary ..
    · exact .refl s
  | staleBeacon =>
    refine ⟨_, rfl, ?_⟩
    split <;> exact {}
  | triggerExpired =>
    refine ⟨_, rfl, ?_⟩
    split
    · exact expireTriggers_ordinary ..
    · exact .refl s
  | startEnd =>
    refine ⟨_, rfl, ?_⟩
    repeat' split
    · exact .refl s
    · exact .trans (onAged_ordinary fun t => .ofTimer (endStart_frame t _) (endStart_role t _).toTimerWork)
        (setAhead_ordinary ..)
    · exact .refl s
    · exact .refl s
  | lockQuietLoss =>
    refine ⟨_, rfl, ?_⟩
    repeat' split
    all_goals exact {}
  | candidateChoice =>
    refine ⟨_, rfl, ?_⟩
    repeat' split
    · exact .trans (onAged_ordinary chooseCandidate_ordinary) (setAhead_ordinary ..)
    · exact .refl s
    · exact .refl s
  | claimWindowEnd =>
    refine ⟨_, rfl, ?_⟩
    repeat' split
    all_goals exact {}
  | duplicateClear =>
    refine ⟨_, rfl, ?_⟩
    split <;> exact {}
  | peerAgeOut n => exact execPeerAgeOut_ordinary n s
  | wallHeld =>
    refine ⟨_, rfl, ?_⟩
    repeat' split
    all_goals exact {}
  | limitStepUp =>
    refine ⟨_, rfl, ?_⟩
    repeat' split
    all_goals exact {}
  | triggerQualified e =>
    refine ⟨_, rfl, ?_⟩
    repeat' split
    · exact .trans (samplePins_ordinary ..) (setAhead_ordinary ..)
    · exact .refl s
    · exact .refl s
  | referencePulse now => exact execReferencePulse_ordinary now s
  | referenceTimeout => exact execReferenceTimeout_ordinary s
  | rowArrival levels => exact ⟨_, rfl, .trans (b := s.setPixelPort _) {} (.foldl takePacket_ordinary _ _)⟩
  | rowCommit =>
    refine ⟨_, rfl, ?_⟩
    split
    · exact setIngest_ordinary (commit_spec ..).1 (commit_spec ..).2
    · exact .refl s
  | railSample tile fixture ahead =>
    refine ⟨_, rfl, ?_⟩
    split <;> exact {}
  | fetchComplete => exact ⟨_, rfl, completeFetch_ordinary s⟩
  | fetchTimeout lane =>
    refine ⟨_, rfl, ?_⟩
    split
    · exact timeOut_ordinary ..
    · exact .refl s
  | loaderRequest => exact ⟨_, rfl, raiseRequest_ordinary s⟩

end Sys2Proof.Machine

end

section
/-! SUPPORT. The forms, bounds and labels that every step keeps, and the held condition outside RUNNING. -/

namespace Sys2Proof.Machine

set_option Elab.async false

open Sys2Proof

/-! ## Forms, bounds and labels -/

theorem execConfigReadEnd_kept (now : Stamp) (pins : BitVec 8) (s : State) :
    ∃ t, execConfigReadEnd now pins s = .next t ∧ Kept s t := by
  have ended (t : State) : Kept t t.endRead :=
    .trans (b := (t.setStartup { t.startup with readAsked := false }).setFetch { t.fetch with port := .none }) {}
      (choosePort_ordinary _).toKept
  refine ⟨_, rfl, ?_⟩
  dsimp only
  split
  · refine (advanceTo_ordinary s now).toKept.trans ?_
    split
    · exact (ended _).trans (pass_spec ..).1
    · exact (ended _).trans (fail_kept ..)
  · exact (Ordinary.refl s).toKept

theorem execLoaderRelease_kept (drop : LoaderDrop) (s : State) :
    ∃ t, execLoaderRelease drop s = .next t ∧ Kept s t := by
  have ended (t : State) (b : Bool) : Kept t (if b = true then t.endGrant drop.writes else t) := by
    split
    · exact endGrant_kept ..
    · exact (Ordinary.refl t).toKept
  have chosen (t : State) (b : Bool) : Kept t
      (if drop.risesAgain = true then t.raiseRequest else if b && decide (t.startup.phase ≠ .reset) then t.choosePort
       else t) := by
    repeat' split
    · exact (raiseRequest_ordinary t).toKept
    · exact (choosePort_ordinary t).toKept
    · exact (Ordinary.refl t).toKept
  exact ⟨_, rfl, .trans (b := s.setFetch { s.fetch with loaderRequest := false }) {}
    (.trans (ended _ s.fetch.grant) (chosen _ s.fetch.grant))⟩

theorem execRestartReceived_kept (m : LinkMessage) (s : State) :
    ∃ t, execRestartReceived m s = .next t ∧ Kept s t := by
  refine ⟨_, rfl, ?_⟩
  rcases receive_spec s .restart m fun s own => s.takeRestart own (fieldAt m.payload 0 1) with ho | ⟨t, ht, he⟩
  · exact ho.toKept
  · rw [he]
    exact ht.toKept.trans (takeRestart_kept ..)

/-- Every command answers a next state that keeps the forms, bounds and labels. -/
theorem exec_kept (c : Instr) (s : State) : ∃ t, exec c s = .next t ∧ Kept s t := by
  have ordinary (hc : startsUp c = false) : ∃ t, exec c s = .next t ∧ Kept s t :=
    let ⟨t, ht, h⟩ := exec_ordinary c hc s
    ⟨t, ht, h.toKept⟩
  cases c with
  | coldReset by_ => cases by_ <;> exact ⟨_, rfl, toReset_kept ..⟩
  | resetRelease by_ =>
    refine ⟨_, rfl, ?_⟩
    dsimp only
    repeat' split
    · exact {}
    · exact .trans (b := (State.setTick _ 0).setFetch _ |>.setStartup _) {} (askRead_kept _)
    · exact {}
  | configReadEnd now pins => exact execConfigReadEnd_kept now pins s
  | restartReceived m => exact execRestartReceived_kept m s
  | loaderRelease drop => exact execLoaderRelease_kept drop s
  | _ => exact ordinary rfl

/-- So does every step. -/
theorem step_kept {s t : State} (h : step s = .next t) : Kept s t := by
  unfold step at h
  split at h
  · cases h
    unfold State.idle
    split <;> exact {}
  · rename_i c rest _
    obtain ⟨u, hu, hk⟩ := exec_kept c (s.setPending rest)
    rw [hu] at h
    cases h
    exact .trans (b := s.setPending rest) {} hk

/-- Settles O55: the four properties are fields of what every step keeps. -/
theorem formsAndBoundsKept : Obligations.FormsAndBoundsKept :=
  ⟨fun _ _ hs h => (step_kept h).memory hs, fun _ _ hs h => (step_kept h).rows hs,
    fun _ _ hs h => (step_kept h).link hs, fun _ _ hs h => (step_kept h).labels hs⟩

/-! ## The held condition -/

/-- The phase, the number unit and the link controller are as they were. -/
structure HeldAlike (s t : State) : Prop where
  phase : t.startup.phase = s.startup.phase := by rfl
  number : t.number = s.number := by rfl
  link : t.link = s.link := by rfl

theorem HeldAlike.trans {a b c : State} (h : HeldAlike a b) (k : HeldAlike b c) : HeldAlike a c :=
  ⟨k.phase.trans h.phase, k.number.trans h.number, k.link.trans h.link⟩

theorem HeldAlike.heldSound {s t : State} (h : HeldAlike s t) (hs : s.HeldSound) : t.HeldSound := fun ht => by
  rw [h.number, h.link]
  exact hs (h.phase ▸ ht)

theorem LanesAndFetch.heldAlike {s t : State} (h : LanesAndFetch s t) : HeldAlike s t :=
  ⟨congrArg Startup.phase h.startup, h.number, h.link⟩

theorem choosePort_heldAlike (s : State) : HeldAlike s s.choosePort := (LanesAndFetch.ofFetch (choosePort_frame s)).heldAlike

theorem raiseRequest_heldAlike (s : State) : HeldAlike s s.raiseRequest := by
  have risen : HeldAlike s (s.setFetch { s.fetch with loaderRequest := true }) := {}
  unfold State.raiseRequest
  dsimp only
  repeat' split
  · exact {}
  · exact risen.trans (choosePort_heldAlike _)
  · exact risen

theorem endGrant_heldAlike (s : State) (writes : List (Nat × Byte)) : HeldAlike s (s.endGrant writes) := by
  unfold State.endGrant
  dsimp only
  split <;> exact {}

theorem endRead_heldAlike (s : State) : HeldAlike s s.endRead :=
  .trans (b := (s.setStartup { s.startup with readAsked := false }).setFetch { s.fetch with port := .none }) {}
    (choosePort_heldAlike _)

theorem askRead_heldAlike (s : State) : HeldAlike s s.askRead := by
  unfold State.askRead
  dsimp only
  split <;> exact {}

theorem advanceTo_heldAlike (s : State) (now : Stamp) : HeldAlike s (s.advanceTo now) := by
  constructor <;> simp

theorem takePacket_heldAlike (s : State) (p : RowPacket) : HeldAlike s (s.takePacket p) := by
  unfold State.takePacket
  repeat' split
  all_goals exact {}

/-- Nothing that the held condition speaks of has begun: the number unit is stopped and the link controller at rest. -/
structure Resting (s : State) : Prop where
  stopped : s.number.numbering = .stopped
  link : s.link.AtRest

theorem Resting.of_same {s t : State} (h : Resting s) (hn : t.number = s.number) (hl : t.link = s.link) : Resting t :=
  ⟨hn ▸ h.stopped, hl ▸ h.link⟩

theorem HeldAlike.resting {s t : State} (h : HeldAlike s t) (hs : Resting s) : Resting t := hs.of_same h.number h.link

theorem Resting.heldSound {s : State} (h : Resting s) : s.HeldSound := fun _ => ⟨h.stopped, h.link⟩

theorem resting_of_not_running {s : State} (hs : s.HeldSound) (h : s.startup.phase ≠ .running) : Resting s :=
  ⟨(hs h).1, (hs h).2⟩

theorem Resting.attempt {s : State} (h : Resting s) : s.link.attempt = none := h.link.2.2.2.1

theorem Resting.state {s : State} (h : Resting s) : s.link.state = .active := h.link.1

theorem heldSound_of_running {s : State} (h : s.startup.phase = .running) : s.HeldSound := fun hn => absurd h hn

/-- R1: while the link controller is held the frame timer brings nothing into its slots. -/
theorem Resting.timer {s t : State} (h : Resting s) (hh : s.linkHeld = true) (hf : TimerAndLink s t) (hw : TimerWork s t) :
    Resting t := by
  obtain ⟨hst, ht, hr, ha, hsy, hcl, hta, hss, han, htr, hj⟩ := h.link
  obtain ⟨x, n, hl⟩ := hw.link
  have hx : t.link.sync = Slot.empty := hw.idle hh ha hsy
  refine ⟨hf.number ▸ h.stopped, ?_⟩
  rw [hl] at hx ⊢
  exact ⟨hst, ht, hr, ha, hx, hcl, hta, hss, han, htr, hj⟩

theorem linkHeld_of_not_running {s : State} (h : s.startup.phase ≠ .running) : s.linkHeld = true := by
  simp [State.linkHeld, State.isRunning, h]

/-- R23, R1: no message is received while the link controller is held. -/
theorem receive_of_held {s : State} (h : s.linkHeld = true) (k : MessageKind) (m : LinkMessage)
    (consumer : State → Option Station → State) : s.receive k m consumer = s := by
  simp [State.receive, State.receives, h]

/-- R19: an empty queue has nothing to expire. -/
theorem expireTriggers_atRest {l : Link} (h : l.AtRest) (f : FrameNo) : (l.expireTriggers f).AtRest := by
  obtain ⟨hst, ht, hr, ha, hsy, hcl, hta, hss, han, htr, hj⟩ := h
  rw [expireTriggers_of_no_attempt ha, htr]
  exact ⟨hst, ht, hr, ha, hsy, hcl, hta, hss, han, rfl, hj⟩

/-! ### The commands while the link controller is held -/

theorem linkHeld_of_startup {s t : State} (h : t.startup = s.startup) : t.linkHeld = s.linkHeld := by
  simp [State.linkHeld, State.isRunning, h]

/-- R41: in CONFIG_LOAD an edge is that of the peer table and the frame timer. -/
theorem Resting.edge {s : State} (h : Resting s) (hh : s.linkHeld = true) (c : Config) (pins : BitVec 8) :
    Resting (s.edge c pins) := by
  have ha := agePeers_frame s c
  have hu : (s.agePeers c).timerEdge.startup = s.startup := (timerEdge_work _).1.startup.trans ha.startup
  have aged : Resting (s.agePeers c) := h.of_same ha.number ha.link
  have timed : Resting (s.agePeers c).timerEdge :=
    aged.timer ((linkHeld_of_startup ha.startup).trans hh) (timerEdge_frame _) (timerEdge_work _).1
  have hrun : (s.agePeers c).timerEdge.isRunning = false := by
    simpa [State.linkHeld] using (linkHeld_of_startup hu).trans hh
  unfold State.edge
  dsimp only
  generalize (s.agePeers c).timerEdge = t at timed hrun
  rw [if_neg (by simp [hrun])]
  exact timed.of_same rfl rfl

/-- R39, R33: a stopped number unit looks for no number. -/
theorem Resting.peerAgeOut {s : State} (h : Resting s) (hh : s.linkHeld = true) (n : Station) :
    ∃ t, execPeerAgeOut n s = .next t ∧ Resting t := by
  have lost {t : State} (k : Resting t) (ht : t.linkHeld = true) : Resting (t.loseLeader n) := by
    unfold State.loseLeader
    repeat' split
    · exact k
    · have hw := (lockEdge_role t ‹TimerRun›).toTimerWork
      have locked := k.timer ht (lockEdge_frame t _) hw
      exact (locked.timer ((linkHeld_of_startup hw.startup).trans ht) (onAged_timer _ _ roleEdge_frame)
        (onAged_work fun u => (roleEdge_work u).1)).of_same rfl rfl
    · exact k
    · exact k
  refine ⟨_, rfl, ?_⟩
  split
  · have aged : Resting ((s.ageOut n).loseLeader n) := lost (h.of_same rfl rfl) hh
    unfold State.retryNumber
    rwa [if_neg (by simp [aged.stopped])]
  · exact h

/-- The other commands find nothing to act on in the link controller and the number unit, or act as the frame timer, whose
SYNC is withdrawn and never written. -/
theorem exec_resting (c : Instr) (hc : startsUp c = false) {s : State} (hn : s.startup.phase ≠ .running)
    (h : Resting s) : ∃ t, exec c s = .next t ∧ Resting t := by
  have hh : s.linkHeld = true := linkHeld_of_not_running hn
  have hrun : s.isRunning = false := by simpa [State.linkHeld] using hh
  have received (k : MessageKind) (m : LinkMessage) (consumer : State → Option Station → State) :
      Resting (s.receive k m consumer) := by rwa [receive_of_held hh]
  cases c with
  | coldReset | resetRelease | configReadEnd | restartReceived | loaderRelease => cases hc
  | linkJoin => exact ⟨_, rfl, by rwa [if_pos hh]⟩
  | attemptStart now =>
    refine ⟨_, rfl, ?_⟩
    have hm : (s.advanceTo now).mayContend = false := by simp [State.mayContend, hh]
    rw [hm]
    exact (advanceTo_heldAlike s now).resting h
  | arbitrationLoss =>
    refine ⟨_, rfl, ?_⟩
    unfold State.attemptFailed
    rwa [h.attempt]
  | claimLoss =>
    refine ⟨_, rfl, ?_⟩
    rwa [h.attempt]
  | linkFault kind phase =>
    refine ⟨_, rfl, ?_⟩
    rwa [if_neg (by simp [State.findsFault, hh])]
  | detachedRecovery levels =>
    refine ⟨_, rfl, ?_⟩
    rwa [if_neg (by simp [h.state])]
  | messageSent =>
    refine ⟨_, rfl, ?_⟩
    rwa [h.attempt]
  | syncReceived m => exact ⟨_, rfl, received ..⟩
  | claimReceived m => exact ⟨_, rfl, received ..⟩
  | goReceived m => exact ⟨_, rfl, received ..⟩
  | holdReceived m => exact ⟨_, rfl, received ..⟩
  | releaseReceived m => exact ⟨_, rfl, received ..⟩
  | tallyReceived m => exact ⟨_, rfl, received ..⟩
  | queryReceived m => exact ⟨_, rfl, received ..⟩
  | answerReceived m => exact ⟨_, rfl, received ..⟩
  | statusReceived m => exact ⟨_, rfl, received ..⟩
  | unknownMessageReceived cls kind m =>
    refine ⟨_, rfl, ?_⟩
    rwa [if_neg (by simp [State.receives, hh])]
  | frameEdge pins =>
    refine ⟨_, rfl, ?_⟩
    split
    · exact h.edge hh ..
    · exact h
  | staleBeacon =>
    refine ⟨_, rfl, ?_⟩
    split
    · exact h.timer hh (.ofLink ..) (cancelStale_work s)
    · exact h
  | triggerExpired =>
    refine ⟨_, rfl, ?_⟩
    split
    · exact ⟨h.stopped, expireTriggers_atRest h.link _⟩
    · exact h
  | startEnd =>
    refine ⟨_, rfl, ?_⟩
    repeat' split
    · exact h
    · exact (h.timer hh (onAged_timer s _ fun t => endStart_frame t _)
        (onAged_work fun t => (endStart_role t _).toTimerWork)).of_same rfl rfl
    · exact h
    · exact h
  | lockQuietLoss =>
    refine ⟨_, rfl, ?_⟩
    repeat' split
    all_goals exact h.of_same rfl rfl
  | candidateChoice =>
    refine ⟨_, rfl, ?_⟩
    rwa [h.stopped]
  | claimWindowEnd =>
    refine ⟨_, rfl, ?_⟩
    rwa [h.stopped]
  | duplicateClear =>
    refine ⟨_, rfl, ?_⟩
    split
    · exact ⟨h.stopped, h.link⟩
    · exact h
  | peerAgeOut n => exact h.peerAgeOut hh n
  | wallHeld => exact ⟨_, rfl, by rwa [hrun]⟩
  | limitStepUp => exact ⟨_, rfl, by rwa [hrun]⟩
  | triggerQualified e => exact ⟨_, rfl, by rwa [hrun]⟩
  | referencePulse now =>
    refine ⟨_, rfl, ?_⟩
    have ha := (advanceTo_heldAlike s now).resting h
    generalize s.advanceTo now = t at ha
    split
    · exact ha
    · dsimp only
      repeat' split
      all_goals exact ⟨ha.stopped, ha.link⟩
  | referenceTimeout =>
    refine ⟨_, rfl, ?_⟩
    split
    · exact h
    · split
      · exact h
      · exact h.of_same (advanceTo_number ..) (advanceTo_link ..)
  | rowArrival levels =>
    have taken (t : State) (packets : List RowPacket) : HeldAlike t (packets.foldl State.takePacket t) :=
      foldl_frame HeldAlike _ (fun _ => {}) (fun _ _ _ => .trans) takePacket_heldAlike _ _
    exact ⟨_, rfl, (taken (s.setPixelPort (s.pixelPort.run levels).1) _).resting ⟨h.stopped, h.link⟩⟩
  | rowCommit => exact ⟨_, rfl, by rwa [hrun]⟩
  | railSample tile fixture ahead => exact ⟨_, rfl, by rwa [hrun]⟩
  | fetchComplete => exact ⟨_, rfl, (completeFetch_frame s).heldAlike.resting h⟩
  | fetchTimeout lane =>
    refine ⟨_, rfl, ?_⟩
    split
    · exact (timeOut_frame ..).heldAlike.resting h
    · exact h
  | loaderRequest => exact ⟨_, rfl, (raiseRequest_heldAlike s).resting h⟩

/-! ### The commands the start-up controller acts on -/

theorem execColdReset_held (by_ : ResetHolder) (s : State) : ∃ t, execColdReset by_ s = .next t ∧ t.HeldSound := by
  have initial (pin supply : Bool) : Resting (s.toReset pin supply) :=
    ⟨rfl, rfl, rfl, rfl, rfl, rfl, rfl, rfl, rfl, rfl, rfl, rfl⟩
  cases by_ <;> exact ⟨_, rfl, (initial ..).heldSound⟩

/-- R180: a part that leaves RESET stands outside RUNNING still. -/
theorem execResetRelease_held (by_ : ResetReleaser) {s : State} (hs : s.HeldSound) :
    ∃ t, execResetRelease by_ s = .next t ∧ t.HeldSound := by
  have left (t : State) (h : Resting t) : Resting t.leaveReset :=
    (askRead_heldAlike _).resting ⟨h.stopped, h.link⟩
  refine ⟨_, rfl, ?_⟩
  split
  · rename_i hp
    have h : Resting (s.setStartup (s.startup.letGo by_)) :=
      (resting_of_not_running hs (by simp [hp])).of_same rfl rfl
    dsimp only
    split
    · exact h.heldSound
    · exact (left _ h).heldSound
  · exact hs

/-- R184, R185: a block that passes brings the part to RUNNING; one that fails stops the number unit, and the link
controller was held before. -/
theorem execConfigReadEnd_held (now : Stamp) (pins : BitVec 8) {s : State} (hs : s.HeldSound) :
    ∃ t, execConfigReadEnd now pins s = .next t ∧ t.HeldSound := by
  refine ⟨_, rfl, ?_⟩
  dsimp only
  split
  · rename_i hr
    split
    · exact heldSound_of_running (by rw [(pass_spec ..).2]; rfl)
    · have hn : s.startup.phase ≠ .running := by
        simp only [State.reading, Bool.and_eq_true, Bool.or_eq_true, decide_eq_true_eq] at hr
        rcases hr.2 with h | h <;> simp [h]
      have h : Resting (s.advanceTo now).endRead :=
        ((advanceTo_heldAlike s now).trans (endRead_heldAlike _)).resting (resting_of_not_running hs hn)
      exact Resting.heldSound ⟨rfl, h.link⟩
  · exact hs

/-- R188: the acceptance of a warm restart puts the link controller and the number unit back. -/
theorem takeRestart_held {s : State} (hs : s.HeldSound) (own : Option Station) (target : Nat) :
    (s.takeRestart own target).HeldSound := by
  have initial : Resting s.warmRestart := by
    refine (askRead_heldAlike _).resting ⟨rfl, ?_⟩
    exact ⟨rfl, rfl, rfl, rfl, rfl, rfl, rfl, rfl, rfl, rfl, rfl⟩
  unfold State.takeRestart
  repeat' split
  · exact hs
  · exact initial.heldSound
  · exact hs
  · exact hs

theorem Ordinary.heldSound {s t : State} (h : Ordinary s t) (hr : s.startup.phase = .running) : t.HeldSound :=
  heldSound_of_running (by rw [h.startup, hr])

theorem execRestartReceived_held (m : LinkMessage) {s : State} (hs : s.HeldSound) :
    ∃ t, execRestartReceived m s = .next t ∧ t.HeldSound := by
  refine ⟨_, rfl, ?_⟩
  by_cases hr : s.startup.phase = .running
  · rcases receive_spec s .restart m fun s own => s.takeRestart own (fieldAt m.payload 0 1) with ho | ⟨t, ht, he⟩
    · exact ho.heldSound hr
    · rw [he]
      exact takeRestart_held (ht.heldSound hr) _ _
  · rwa [receive_of_held (linkHeld_of_not_running hr)]

/-- R110: a loader's release changes neither the phase, nor the link controller, nor the number unit. -/
theorem execLoaderRelease_held (drop : LoaderDrop) {s : State} (hs : s.HeldSound) :
    ∃ t, execLoaderRelease drop s = .next t ∧ t.HeldSound := by
  have ended (t : State) (b : Bool) : HeldAlike t (if b = true then t.endGrant drop.writes else t) := by
    split
    · exact endGrant_heldAlike ..
    · exact {}
  have chosen (t : State) (b : Bool) : HeldAlike t
      (if drop.risesAgain = true then t.raiseRequest else if b && decide (t.startup.phase ≠ .reset) then t.choosePort
       else t) := by
    repeat' split
    · exact raiseRequest_heldAlike t
    · exact choosePort_heldAlike t
    · exact {}
  exact ⟨_, rfl, HeldAlike.heldSound (.trans (b := s.setFetch { s.fetch with loaderRequest := false }) {}
    (.trans (ended _ s.fetch.grant) (chosen _ s.fetch.grant))) hs⟩

/-- Every command keeps the held condition. -/
theorem exec_held (c : Instr) {s : State} (hs : s.HeldSound) : ∃ t, exec c s = .next t ∧ t.HeldSound := by
  have other (hc : startsUp c = false) : ∃ t, exec c s = .next t ∧ t.HeldSound := by
    by_cases hr : s.startup.phase = .running
    · obtain ⟨t, ht, ho⟩ := exec_ordinary c hc s
      exact ⟨t, ht, ho.heldSound hr⟩
    · obtain ⟨t, ht, h⟩ := exec_resting c hc hr (resting_of_not_running hs hr)
      exact ⟨t, ht, h.heldSound⟩
  cases c with
  | coldReset by_ => exact execColdReset_held by_ s
  | resetRelease by_ => exact execResetRelease_held by_ hs
  | configReadEnd now pins => exact execConfigReadEnd_held (s := s) now pins hs
  | restartReceived m => exact execRestartReceived_held m hs
  | loaderRelease drop => exact execLoaderRelease_held drop hs
  | _ => exact other rfl

/-- Settles O56: in RUNNING the phase alone decides; outside it a part at rest has nothing to bring into a slot. -/
theorem heldOutsideRunning : Obligations.HeldOutsideRunning := by
  intro s t hs h
  unfold step at h
  split at h
  · cases h
    unfold State.idle
    split
    · exact hs
    · exact fun hp => hs hp
  · rename_i c rest _
    obtain ⟨u, hu, hk⟩ := exec_held c (s := s.setPending rest) fun hp => hs hp
    rw [hu] at h
    cases h
    exact hk

end Sys2Proof.Machine

end

section
/-! SUPPORT. Attempts: how one starts, what its loss, its fault and its success leave, and error confinement. -/

namespace Sys2Proof.Machine

set_option Elab.async false

open Sys2Proof

/-! ## The start of an attempt (R16, R17, R21) -/

theorem mayContend_advanceTo (s : State) (now : Stamp) : (s.advanceTo now).mayContend = s.mayContend := by
  simp [State.mayContend]

theorem execAttemptStart_of_lowest {s : State} {now : Stamp} {slot : SlotName} {m : Envelope} (hm : s.mayContend = true)
    (h : lowestOf ((s.advanceTo now).eligible now) = some (slot, m)) :
    execAttemptStart now s = .next
      { s.advanceTo now with
        link := { s.link with attempt := some (s.link.attemptOf slot m now), signal := none, waitQuiet := false } } := by
  unfold execAttemptStart
  simp only [mayContend_advanceTo, hm, h, advanceTo_link]
  rfl

/-- R16: with a number held, a SYNC that pends alone is the one eligible message. -/
theorem eligible_sync_alone {s : State} {n : Station} {b : SyncBody} (now : Stamp) (hn : s.heldNumber = some n)
    (hs : s.link.sync.pending = some b) (hc : s.link.claim.pending = none) (ht : s.link.tally.pending = none)
    (hst : s.link.status.pending = none) (ha : s.link.answer.pending = none) (htr : s.link.triggers = []) :
    s.eligible now =
      [(.sync, envelope .sync n (syncPayload ⟨b.frame, b.latenessAt now, b.role, b.position⟩))] := by
  have hl (slot : SlotName) : s.number.numbering.lets slot = true := by
    unfold State.heldNumber at hn
    split at hn
    · simp [Numbering.lets, *]
    · simp [Numbering.lets, *]
    · cases hn
  simp [State.eligible, hl, Link.filled, hn, hs, hc, ht, hst, ha, htr]

/-- Settles O13: a message chosen by `lowestOf` is an eligible one of lowest arbitration value. -/
theorem attemptTakesLowestValue : Obligations.AttemptTakesLowestValue := by
  refine ⟨fun s hs => ?_, fun s now n b hm hn hs hc ht hst ha htr => ?_, fun s now hm he => ?_⟩
  · have hh : s.linkHeld = false := by simp [State.linkHeld, State.isRunning, hs]
    exact congrArg Host.Outcome.next (if_neg (by simp [hh]))
  · have alone := eligible_sync_alone (s := s.advanceTo now) now (by simpa using hn) (by simpa using hs)
      (by simpa using hc) (by simpa using ht) (by simpa using hst) (by simpa using ha) (by simpa using htr)
    refine ⟨_, execAttemptStart_of_lowest hm (by rw [alone]; rfl), rfl, ?_, rfl, rfl, rfl, rfl⟩
    simp [Link.attemptOf, hs, SyncBody.latenessAt, ticksSince]
  · obtain ⟨⟨slot, m⟩, hx⟩ := Option.ne_none_iff_exists'.mp (mt lowestOf_eq_none.mp he)
    obtain ⟨mem, least⟩ := lowestOf_spec hx
    exact ⟨slot, m, _, mem, least, execAttemptStart_of_lowest hm hx, rfl, rfl, rfl, rfl, rfl⟩

/-! ## An attempt lost or failed (R11, R18) -/

theorem failed_of_settled {α : Type} {x : Slot α} (h : x.Settled) : x.failed = x := by
  obtain ⟨hd, he⟩ := h
  simp [Slot.failed, hd, he]

theorem slotFailed_of_settled {l : Link} (h : l.Settled) (slot : SlotName) : l.slotFailed slot = l := by
  obtain ⟨hs, hc, ht, hst, ha⟩ := h
  cases slot with
  | sync => simp [Link.slotFailed, failed_of_settled hs, hs.2]
  | claim => simp [Link.slotFailed, failed_of_settled hc]
  | tally => simp [Link.slotFailed, failed_of_settled ht]
  | status => simp [Link.slotFailed, failed_of_settled hst]
  | answer => simp [Link.slotFailed, failed_of_settled ha, ha.1]
  | trigger => rfl

/-- R11: the attempt is over; a trigger message that is to stay does so. -/
theorem attemptFailed_of_stays {s : State} {a : Attempt} (ha : s.link.attempt = some a) (hf : a.fate = .stays) :
    s.attemptFailed = s.setLink { s.link.slotFailed a.source with attempt := none } := by
  unfold State.attemptFailed
  rw [ha]
  dsimp only
  split
  · rw [hf]
    rfl
  · rfl

theorem attemptFailed_of_settled {s : State} {a : Attempt} (ha : s.link.attempt = some a) (hf : a.fate = .stays)
    (hs : s.link.Settled) : s.attemptFailed = s.setLink { s.link with attempt := none } := by
  rw [attemptFailed_of_stays ha hf, slotFailed_of_settled hs]

theorem attemptFailed_of_no_attempt {s : State} (h : s.link.attempt = none) : s.attemptFailed = s := by
  unfold State.attemptFailed
  rw [h]

/-- Settles O15: an attempt that ends in loss leaves a settled slot as it was; a deferred STATUS takes the lost one's place. -/
theorem arbitrationLossKeepsTheMessage : Obligations.ArbitrationLossKeepsTheMessage := by
  intro s a ha hf
  refine ⟨fun hs => congrArg Host.Outcome.next (attemptFailed_of_settled ha hf hs), fun hsrc b hb => ?_⟩
  refine congrArg Host.Outcome.next ((attemptFailed_of_stays ha hf).trans ?_)
  rw [hsrc, Link.slotFailed, Slot.failed, hb]
  rfl

/-! ## A message sent (R12, R16, R22) -/

/-- R12, R16: outside DETACHED the count falls and the message leaves its slot before it is self-received. -/
theorem exec_messageSent {s : State} {a : Attempt} (ha : s.link.attempt = some a) (hs : s.link.state ≠ .detached) :
    exec .messageSent s =
      .next ((s.setLink (s.link.afterSent.slotSent a.source)).selfReceive a s.link.triggers.head?) := by
  refine congrArg Host.Outcome.next ?_
  rw [ha]
  dsimp only
  rw [countSent_eq, if_neg hs]

/-- R22: of the own CLAIM the number unit makes nothing unless it is for the candidate. -/
theorem ownClaimSent_of_other {s : State} {n : Station} (h : ∀ w, s.number.numbering ≠ .claiming n w) :
    s.ownClaimSent n = s := by
  unfold State.ownClaimSent
  split
  · rename_i c w hc
    exact if_neg fun e => h w (by rw [hc, e])
  · rfl

theorem ownClaimSent_of_candidate {s : State} {n : Station} {w : Option Nat} (h : s.number.numbering = .claiming n w) :
    s.ownClaimSent n = s.setNumbering (.claiming n (some 0)) := by
  unfold State.ownClaimSent
  rw [h]
  exact if_pos rfl

/-- Settles O19, slot by slot. -/
theorem sentMessageLeavesItsSlot : Obligations.SentMessageLeavesItsSlot := by
  intro s a ha hs
  rw [exec_messageSent ha hs]
  unfold State.selfReceive
  refine ⟨fun hsrc => ?_, fun hsrc => ?_, fun hsrc => ?_, fun hsrc => ⟨fun c w hc hm => ?_, fun hc => ?_⟩,
    fun hsrc m rest hm => ?_⟩
  all_goals rw [hsrc]
  · rfl
  · rfl
  · rfl
  · subst hm
    exact congrArg Host.Outcome.next (ownClaimSent_of_candidate hc)
  · exact congrArg Host.Outcome.next (ownClaimSent_of_other hc)
  · rw [Link.slotSent, show s.link.afterSent.triggers = s.link.triggers from rfl, hm]
    rfl

/-! ## Queued messages taken by the own lanes (R20) -/

/-- The cue messages delivered to the own lanes, one after another, under the origin given. -/
def State.deliverAll (s : State) (ms : List CueMessage) (o : Origin) : State := ms.foldl (fun x m => x.deliverCue m o) s

theorem deliverAll_frame (s : State) (ms : List CueMessage) (o : Origin) : LanesAndFetch s (s.deliverAll ms o) :=
  foldl_frame LanesAndFetch _ .refl .trans (fun x m => deliverCue_frame x m o) _ _

theorem deliverCue_localOrigin (s : State) (m : CueMessage) (o : Origin) : (s.deliverCue m o).localOrigin = s.localOrigin := by
  unfold State.localOrigin
  rw [(deliverCue_frame s m o).heldNumber]

/-- R115: the number held, and with it the origin of a message applied locally, stays while the messages are taken. -/
theorem foldl_deliverCue_localOrigin (ms : List CueMessage) (s : State) :
    ms.foldl (fun x m => x.deliverCue m x.localOrigin) s = s.deliverAll ms s.localOrigin := by
  induction ms generalizing s with
  | nil => rfl
  | cons m rest ih =>
    rw [List.foldl_cons, ih, deliverCue_localOrigin]
    rfl

theorem deliverAll_aside (s : State) (l : Link) (u : NumberUnit) (p : Published (Vector Condition 4))
    (ms : List CueMessage) (o : Origin) : (s.aside l u p).deliverAll ms o = (s.deliverAll ms o).aside l u p := by
  induction ms generalizing s with
  | nil => rfl
  | cons m rest ih =>
    unfold State.deliverAll at ih ⊢
    rw [List.foldl_cons, List.foldl_cons, deliverCue_aside, ih]

theorem deliverAll_conditions (s : State) (ms : List CueMessage) (o : Origin) :
    (s.deliverAll ms o).lanes.conditions = s.lanes.conditions :=
  congrArg (fun t => t.lanes.conditions) (deliverAll_aside s s.link s.number s.lanes.conditions ms o)

theorem aside_own_conditions {s : State} {p : Published (Vector Condition 4)} (h : s.lanes.conditions = p) (l : Link)
    (u : NumberUnit) : s.aside l u p = (s.setLink l).setNumber u := by
  subst h
  rfl

theorem deliverAll_setLink (s : State) (l : Link) (ms : List CueMessage) (o : Origin) :
    (s.setLink l).deliverAll ms o = (s.deliverAll ms o).setLink l := by
  have h := deliverAll_aside s l s.number s.lanes.conditions ms o
  rw [aside_own_conditions rfl, aside_own_conditions (deliverAll_conditions ..)] at h
  exact h.trans (by rw [← (deliverAll_frame s ms o).number]; rfl)

/-- R20: the messages counted unsent. -/
def Link.countUnsent (l : Link) (ms : List CueMessage) : Link :=
  { l with
    counters :=
      { l.counters with
        unsentTrigger :=
          if ms = [] then l.counters.unsentTrigger else min 65535 (l.counters.unsentTrigger + ms.length) } }

theorem countUnsent_cons (l : Link) (m : CueMessage) (rest : List CueMessage) :
    l.countUnsent (m :: rest) = (l.countUnsent [m]).countUnsent rest := by
  cases rest with
  | nil => rfl
  | cons m' rest =>
    have h : min 65535 (l.counters.unsentTrigger + (m :: m' :: rest).length) =
        min 65535 (min 65535 (l.counters.unsentTrigger + 1) + (m' :: rest).length) := by
      simp only [List.length_cons]
      omega
    exact congrArg (fun n => { l with counters := { l.counters with unsentTrigger := n } }) h

/-- R20: messages taken by the own lanes one by one reach them in that order, each counted unsent. -/
theorem foldl_applyUnsent (ms : List CueMessage) (s : State) :
    ms.foldl State.applyUnsent s = (s.deliverAll ms s.localOrigin).setLink (s.link.countUnsent ms) := by
  induction ms generalizing s with
  | nil => rfl
  | cons m rest ih =>
    have first : s.applyUnsent m = (s.deliverCue m s.localOrigin).setLink (s.link.countUnsent [m]) :=
      deliverAll_setLink s _ [m] s.localOrigin
    have origin : ((s.deliverCue m s.localOrigin).setLink (s.link.countUnsent [m])).localOrigin = s.localOrigin :=
      deliverCue_localOrigin ..
    rw [List.foldl_cons, ih, first, origin, deliverAll_setLink, countUnsent_cons s.link m rest]
    rfl

/-- R20: with no attempt in progress the whole queue is emptied. -/
theorem flushTriggers_of_no_attempt {s : State} (h : s.link.attempt = none) :
    s.flushTriggers =
      (s.deliverAll s.link.triggers s.localOrigin).setLink
        ({ s.link with triggers := [] }.countUnsent s.link.triggers) := by
  have hf (l : Link) (hl : l.attempt = none) (f : TriggerFate) : l.fateTrigger f = l := by
    cases l
    simp_all [Link.fateTrigger]
  unfold State.flushTriggers
  dsimp only
  rw [hf _ h, idleTriggers_of_no_attempt h, sendingTrigger_of_no_attempt h, foldl_applyUnsent, deliverAll_setLink]
  rfl

/-! ## Error confinement (R12 to R15) -/

theorem countFault_of_detached {s : State} (h : s.link.state = .detached) (tx : Bool) (k : LinkFaultKind) :
    s.countFault tx k = s := by
  unfold State.countFault
  exact if_pos h

theorem countFault_receiving {s : State} (h : s.link.state ≠ .detached) (k : LinkFaultKind) :
    s.countFault false k =
      s.setLink
        { s.link with
          recCount := min 120 (s.link.recCount + 1)
          state := LinkState.ofCounts s.link.tecCount (min 120 (s.link.recCount + 1)) } := by
  simp [State.countFault, h, Link.followCounts, raiseRec]

theorem countFault_of_noAck_alone {s : State} (h : s.presentCount = 0) : s.countFault true .noAck = s := by
  simp [State.countFault, h]

theorem countFault_transmitting {s : State} {k : LinkFaultKind} (h : s.link.state ≠ .detached)
    (hk : k = .noAck → s.presentCount ≠ 0) (ht : s.link.tecCount < 194) :
    s.countFault true k =
      s.setLink
        { s.link with
          tecCount := s.link.tecCount + 6
          state := LinkState.ofCounts (s.link.tecCount + 6) s.link.recCount } := by
  have hr : raiseTec s.link.tecCount = s.link.tecCount + 6 := by
    unfold raiseTec
    omega
  have hn : s.link.tecCount + 6 ≠ 200 := by omega
  have hc : ¬ (k = .noAck ∧ s.presentCount = 0) := fun hc => hk hc.1 hc.2
  simp [State.countFault, h, hc, hr, hn, Link.followCounts]

theorem countFault_to_detached {s : State} {k : LinkFaultKind} (h : s.link.state ≠ .detached)
    (hk : k = .noAck → s.presentCount ≠ 0) (ht : 194 ≤ s.link.tecCount) :
    s.countFault true k = (s.setLink { s.link with tecCount := 200 }).detach := by
  have hr : raiseTec s.link.tecCount = 200 := by
    unfold raiseTec
    omega
  have hc : ¬ (k = .noAck ∧ s.presentCount = 0) := fun hc => hk hc.1 hc.2
  simp [State.countFault, h, hc, hr]

/-- R10: a station that is not DETACHED signals a fault, recessive in QUIET. -/
theorem signal_of_not_detached {st : LinkState} (h : st ≠ .detached) (k : LinkFaultKind) :
    st.signal k = some ⟨if k = .check then .afterAckDelimiter else .nextBit, decide (st = .quiet)⟩ := by
  have hk : SignalStart.ofKind k = if k = .check then .afterAckDelimiter else .nextBit := by cases k <;> rfl
  rw [← hk]
  cases st with
  | detached => exact absurd rfl h
  | active | caution | quiet => rfl

theorem ofCounts_ne_detached (tec rc : Nat) : LinkState.ofCounts tec rc ≠ .detached := (ofCounts_spec tec rc).2.2

/-- R10, R6: the error signal of the state reached, and the wait of a QUIET station that transmitted. -/
def State.sendSignal (s : State) (transmitting : Bool) (k : LinkFaultKind) : State :=
  s.setLink
    { s.link with signal := s.link.state.signal k, waitQuiet := transmitting && decide (s.link.state = .quiet) }

theorem sendSignal_of_not_detached {s : State} (h : s.link.state ≠ .detached) (transmitting : Bool) (k : LinkFaultKind) :
    s.sendSignal transmitting k =
      s.setLink
        { s.link with
          signal := some ⟨if k = .check then .afterAckDelimiter else .nextBit, decide (s.link.state = .quiet)⟩
          waitQuiet := transmitting && decide (s.link.state = .quiet) } := by
  unfold State.sendSignal
  rw [signal_of_not_detached h]

theorem sendSignal_of_detached {s : State} (h : s.link.state = .detached) (transmitting : Bool) (k : LinkFaultKind) :
    s.sendSignal transmitting k = s.setLink { s.link with signal := none, waitQuiet := false } := by
  simp [State.sendSignal, h, LinkState.signal]

theorem exec_linkFault_of_found {s : State} {k : LinkFaultKind} {phase : SignalPhase} (h : s.findsFault k phase = true) :
    exec (.linkFault k phase) s =
      .next
        (((s.setLink { s.link with lastFault := FaultCode.ofKind k }).attemptFailed.countFault s.link.attempt.isSome
          k).sendSignal s.link.attempt.isSome k) :=
  congrArg Host.Outcome.next (if_pos h)

theorem exec_linkFault_of_not_found {s : State} {k : LinkFaultKind} {phase : SignalPhase}
    (h : s.findsFault k phase = false) : exec (.linkFault k phase) s = .next s :=
  congrArg Host.Outcome.next (if_neg (by simp [h]))

/-- R10: a controller that has joined the link finds a fault that fits it and that its last signal lets be found. -/
theorem findsFault_eq {s : State} (hr : s.startup.phase = .running) (hj : s.link.joined = true) (k : LinkFaultKind)
    (phase : SignalPhase) :
    s.findsFault k phase = (faultFoundBy s.link.attempt.isSome k && s.link.signal.all fun e => e.lets k phase) := by
  simp [State.findsFault, State.linkHeld, State.isRunning, hr, hj]

theorem findsFault_receiving {s : State} {k : LinkFaultKind} {phase : SignalPhase} (hr : s.startup.phase = .running)
    (hj : s.link.joined = true) (ha : s.link.attempt = none) (hl : k ≠ .level) (hn : k ≠ .noAck)
    (hs : (s.link.signal.all fun e => e.lets k phase) = true) : s.findsFault k phase = true := by
  rw [findsFault_eq hr hj, hs, ha, Bool.and_true]
  cases k <;> simp_all [faultFoundBy]

theorem findsFault_transmitting {s : State} {a : Attempt} {k : LinkFaultKind} {phase : SignalPhase}
    (hr : s.startup.phase = .running) (hj : s.link.joined = true) (ha : s.link.attempt = some a) (hc : k ≠ .check)
    (hs : phase = .past ∨ s.link.signal = none) : s.findsFault k phase = true := by
  have lets : (s.link.signal.all fun e => e.lets k phase) = true := by
    rcases hs with rfl | hs
    · cases s.link.signal <;> rfl
    · rw [hs]
      rfl
  rw [findsFault_eq hr hj, lets, ha, Bool.and_true]
  cases k <;> simp_all [faultFoundBy]

/-- A fault found while transmitting, with nothing deferred: the attempt is over when the count rises. -/
theorem exec_linkFault_transmitting {s : State} {a : Attempt} {k : LinkFaultKind} {phase : SignalPhase}
    (ha : s.link.attempt = some a) (hf : a.fate = .stays) (hs : s.link.Settled) (h : s.findsFault k phase = true) :
    exec (.linkFault k phase) s =
      .next
        (((s.setLink { s.link with lastFault := FaultCode.ofKind k, attempt := none }).countFault true k).sendSignal
          true k) := by
  rw [exec_linkFault_of_found h, attemptFailed_of_settled (a := a) ?_ hf ?_, ha]
  · rfl
  · exact ha
  · exact hs

theorem exec_linkFault_receiving {s : State} {k : LinkFaultKind} {phase : SignalPhase} (ha : s.link.attempt = none)
    (h : s.findsFault k phase = true) :
    exec (.linkFault k phase) s =
      .next (((s.setLink { s.link with lastFault := FaultCode.ofKind k }).countFault false k).sendSignal false k) := by
  rw [exec_linkFault_of_found h, attemptFailed_of_no_attempt ?_, ha]
  · rfl
  · exact ha

/-- Settles O17: where a fault is found, by the count it raises; where none is, by what the signal lets be found. -/
theorem faultRaisesItsCount : Obligations.FaultRaisesItsCount := by
  refine ⟨fun s k phase hr hj ha hl hn hs hd => ?_, fun s k phase hr hj ha hl hn hs hd => ?_,
    fun s k phase e he hp => ?_, fun level complete => ⟨rfl, by cases complete <;> rfl⟩,
    fun s a k phase hr hj ha hf hset hc hs hd => ⟨fun ht hk => ?_, fun hk hp => ?_⟩⟩
  · have lets : (s.link.signal.all fun e => e.lets k phase) = true := by
      rcases hs with rfl | hs | ⟨rfl, hk, level, hs⟩
      · cases s.link.signal <;> rfl
      · rw [hs]
        rfl
      · rw [hs]
        rcases hk with rfl | rfl <;> rfl
    rw [exec_linkFault_receiving ha (findsFault_receiving hr hj ha hl hn lets), countFault_receiving (by exact hd),
      sendSignal_of_not_detached (by exact ofCounts_ne_detached _ _)]
    rfl
  · have lets : (s.link.signal.all fun e => e.lets k phase) = true := by
      rw [hs]
      rfl
    rw [exec_linkFault_receiving ha (findsFault_receiving hr hj ha hl hn lets), countFault_of_detached (by exact hd)]
    simp [State.sendSignal, State.setLink, hd, hs, LinkState.signal]
  · refine exec_linkFault_of_not_found ?_
    have barred : e.lets k phase = false := by
      rcases hp with rfl | ⟨rfl, hp | ⟨hc, hf⟩⟩
      · rfl
      · simp [ErrorSignal.lets, hp]
      · cases k <;> simp_all [ErrorSignal.lets, foundAfterCheckField]
    simp [State.findsFault, he, barred]
  · rw [exec_linkFault_transmitting ha hf hset (findsFault_transmitting hr hj ha hc hs),
      countFault_transmitting (by exact hd) (by exact hk) (by exact ht),
      sendSignal_of_not_detached (by exact ofCounts_ne_detached _ _), if_neg hc]
    rfl
  · subst hk
    rw [exec_linkFault_transmitting ha hf hset (findsFault_transmitting hr hj ha hc hs),
      countFault_of_noAck_alone (by exact hp), sendSignal_of_not_detached (by exact hd)]
    rfl

/-! ## DETACHED (R14) -/

/-- R14: of recessive bits every 14 complete an idle sequence. -/
theorem foldl_take_recessive (n : Nat) {c : IdleCount} (h : c.bits < 14) :
    (List.replicate n true).foldl IdleCount.take c = ⟨(c.bits + n) % 14, c.done + (c.bits + n) / 14⟩ := by
  induction n generalizing c with
  | zero =>
    obtain ⟨bits, done⟩ := c
    simp only [List.replicate_zero, List.foldl_nil, IdleCount.mk.injEq]
    dsimp only at h
    omega
  | succ n ih =>
    rw [List.replicate_succ, List.foldl_cons, ih ((IdleCount.take_spec c true).2 h), IdleCount.mk.injEq]
    unfold IdleCount.take
    rw [if_pos rfl]
    split
    · dsimp only
      omega
    · dsimp only
      omega

/-- Settles O18: the fault that brings TEC to 200 detaches the station with its queue emptied; the idle sequences are
counted bit by bit. -/
theorem twoHundredDetaches : Obligations.TwoHundredDetaches := by
  refine ⟨fun s levels hs => ⟨fun hc => ?_, fun hc => ?_⟩, fun c n hc => ⟨foldl_take_recessive n hc, rfl⟩,
    fun s a k phase hr hj ha hf hset hc hs hd ht hk => ?_⟩
  · exact congrArg Host.Outcome.next ((if_pos hs).trans (if_pos hc))
  · exact congrArg Host.Outcome.next ((if_pos hs).trans (if_neg (by omega)))
  · have hl := deliverAll_frame s s.link.triggers s.localOrigin
    refine ⟨_, exec_linkFault_transmitting ha hf hset (findsFault_transmitting hr hj ha hc hs), ?_⟩
    rw [countFault_to_detached (by exact hd) (by exact hk) (by exact ht), State.detach,
      flushTriggers_of_no_attempt (by rfl), sendSignal_of_detached (by rfl)]
    simp only [setLink_setLink, setLink_link, deliverAll_setLink, foldl_deliverCue_localOrigin]
    exact ⟨rfl, rfl, rfl, hl.number, hl.peers, hl.timer, hl.ingest, hl.wall, hl.output, hl.budget, hl.triggers, hl.report,
      hl.startup, hl.config, hl.tick, hl.showMemory⟩

end Sys2Proof.Machine

end

section
/-! SUPPORT. The number unit: the candidate chosen, a claim ended, a number yielded, defended and doubled, and the first
delivery step. -/

namespace Sys2Proof.Machine

set_option Elab.async false

open Sys2Proof

/-! ## The candidate (R27) -/

theorem stations_sorted : stations.Pairwise (· < ·) := by decide

theorem mem_stations : ∀ n : Station, n ∈ stations := by decide

theorem mem_claimRange {lo hi n : Station} : n ∈ claimRange lo hi ↔ lo ≤ n ∧ n ≤ hi := by
  have h : n ∈ stations := mem_stations n
  unfold stations at h
  simp [claimRange, List.mem_filter, h]

section Candidate

variable {s : State} {cfg : Config} {lo hi : Station} {p : Nat}

theorem range_of_claim (hc : s.config = some cfg) (hm : cfg.mode = .claim lo hi p) : s.range = claimRange lo hi := by
  simp [State.range, hc, hm]

theorem preferred_of_claim (hc : s.config = some cfg) (hm : cfg.mode = .claim lo hi p) : s.preferred = some p := by
  simp [State.preferred, hc, hm]

theorem mem_free (hc : s.config = some cfg) (hm : cfg.mode = .claim lo hi p) {n : Station} :
    n ∈ s.range.filter s.isFree ↔ s.FreeIn lo hi n := by
  rw [List.mem_filter, range_of_claim hc hm, mem_claimRange]
  simp [State.isFree, State.FreeIn, and_assoc]

theorem free_sorted (hc : s.config = some cfg) (hm : cfg.mode = .claim lo hi p) :
    (s.range.filter s.isFree).Pairwise (· < ·) := by
  rw [range_of_claim hc hm]
  exact (stations_sorted.filter _).filter _

/-- R27: the preferred number is found where it is free, else the lowest free number. -/
theorem candidate_of_chosen (hc : s.config = some cfg) (hm : cfg.mode = .claim lo hi p) {n : Station}
    (h : s.Chosen lo hi p n) : s.candidate = some n := by
  obtain ⟨hf, hn⟩ := h
  have sorted := free_sorted hc hm
  have mem (q : Station) : q ∈ s.range.filter s.isFree ↔ s.FreeIn lo hi q := mem_free hc hm
  unfold State.candidate
  rw [preferred_of_claim hc hm]
  dsimp only
  generalize s.range.filter s.isFree = free at sorted mem
  rcases hn with hp | ⟨hp, least⟩
  · cases hx : free.find? fun q => decide (some p = some q.val) with
    | none => exact absurd (List.find?_eq_none.mp hx n ((mem n).mpr hf)) (by simp [hp])
    | some q =>
      have hq : p = q.val := by simpa using List.find?_some hx
      rw [Fin.ext (hq.symm.trans hp.symm)]
  · have hx : (free.find? fun q => decide (some p = some q.val)) = none := by
      rw [List.find?_eq_none]
      intro q hq he
      exact hp q ((mem q).mp hq) (by simpa using (of_decide_eq_true he).symm)
    rw [hx]
    dsimp only
    cases free with
    | nil => exact absurd ((mem n).mpr hf) List.not_mem_nil
    | cons x rest =>
      have hle : n ≤ x := least x ((mem x).mp List.mem_cons_self)
      rcases List.mem_cons.mp ((mem n).mpr hf) with rfl | hr
      · rfl
      · exact absurd (List.rel_of_pairwise_cons sorted hr) (not_lt.mpr hle)

theorem candidate_of_none_free (hc : s.config = some cfg) (hm : cfg.mode = .claim lo hi p)
    (h : ∀ n, ¬ s.FreeIn lo hi n) : s.candidate = none := by
  have hf : s.range.filter s.isFree = [] :=
    List.eq_nil_iff_forall_not_mem.mpr fun n hn => h n ((mem_free hc hm).mp hn)
  simp [State.candidate, hf]

end Candidate

/-! ## The claim chosen anew (R27, R29, R31) -/

/-- The numbering state after a choice of candidate. -/
def State.nextNumbering (s : State) : Numbering :=
  match s.candidate with
  | some n => .claiming n none
  | none => .numberless

/-- The claim slot after a choice of candidate from an empty slot. -/
def State.nextClaim (s : State) : Slot ClaimBody :=
  match s.candidate with
  | some n => ⟨some ⟨n, s.serial⟩, none, false⟩
  | none => Slot.empty

theorem nextNumbering_of_candidate {s : State} {n : Station} (h : s.candidate = some n) :
    s.nextNumbering = .claiming n none := by
  unfold State.nextNumbering
  rw [h]

theorem nextClaim_of_candidate {s : State} {n : Station} (h : s.candidate = some n) :
    s.nextClaim = ⟨some ⟨n, s.serial⟩, none, false⟩ := by
  unfold State.nextClaim
  rw [h]

theorem nextNumbering_of_none {s : State} (h : s.candidate = none) : s.nextNumbering = .numberless := by
  unfold State.nextNumbering
  rw [h]

theorem nextClaim_of_none {s : State} (h : s.candidate = none) : s.nextClaim = Slot.empty := by
  unfold State.nextClaim
  rw [h]

theorem take_eq (u : NumberUnit) (n : Station) :
    u.take n = { u with taken := if n ∈ u.taken then u.taken else u.taken ++ [n] } := by
  unfold NumberUnit.take
  by_cases h : n ∈ u.taken <;> simp [h]

/-- The claim or number `n` is over, with the counters given: `n` has joined the taken set and the candidate is chosen
again. -/
def State.claimAnew (s : State) (n : Station) (k : NumberCounters) : State :=
  { s with
    number := { (s.withTaken n).number with numbering := (s.withTaken n).nextNumbering, counters := k }
    link := { s.link with claim := (s.withTaken n).nextClaim } }

/-- With no attempt in progress the CLAIM withdrawn leaves its slot, which the new one takes. -/
theorem chooseCandidate_withdrawn {s : State} (ha : s.link.attempt = none) (n : Station) (k : NumberCounters) :
    ((s.setNumber { s.number.take n with counters := k }).setLink s.link.withdrawClaim).chooseCandidate =
      s.claimAnew n k := by
  have hw : s.link.withdrawClaim = { s.link with claim := Slot.empty } := by
    simp [Link.withdrawClaim, busy_of_no_attempt ha, Slot.withdraw]
  have hx : ((s.setNumber { s.number.take n with counters := k }).setLink s.link.withdrawClaim).candidate =
      (s.withTaken n).candidate := by
    rw [take_eq]
    rfl
  unfold State.chooseCandidate State.claimAnew
  rw [hx]
  cases hc : (s.withTaken n).candidate with
  | some q =>
    rw [nextNumbering_of_candidate hc, nextClaim_of_candidate hc, take_eq, hw]
    dsimp only
    simp only [Link.writeClaim, setLink_link]
    rw [busy_of_no_attempt (by exact ha)]
    rfl
  | none =>
    rw [nextNumbering_of_none hc, nextClaim_of_none hc, take_eq, hw]
    rfl

theorem endClaim_eq {s : State} (ha : s.link.attempt = none) (c : Station) :
    s.endClaim c =
      s.claimAnew c { s.number.counters with withdraw := min 65535 (s.number.counters.withdraw + 1) } := by
  rw [← chooseCandidate_withdrawn ha, take_eq]
  unfold State.endClaim
  rw [take_eq]
  rfl

section ClaimAnew

variable {s : State} {cfg : Config} {n lo hi : Station} {p : Nat} (hc : s.config = some cfg) (hm : cfg.mode = .claim lo hi p)
  (k : NumberCounters)

include hc hm

theorem claimAnew_of_chosen {q : Station} {x : BitVec 32} (h : (s.withTaken n).Chosen lo hi p q) (hx : s.serial = x) :
    s.claimAnew n k =
      { s with
        number := { (s.withTaken n).number with numbering := .claiming q none, counters := k }
        link := { s.link with claim := ⟨some ⟨q, x⟩, none, false⟩ } } := by
  subst hx
  have hq : (s.withTaken n).candidate = some q := candidate_of_chosen (s := s.withTaken n) hc hm h
  unfold State.claimAnew
  rw [nextNumbering_of_candidate hq, nextClaim_of_candidate hq]
  rfl

theorem claimAnew_of_none_free (h : ∀ q, ¬ (s.withTaken n).FreeIn lo hi q) :
    s.claimAnew n k =
      { s with
        number := { (s.withTaken n).number with numbering := .numberless, counters := k }
        link := { s.link with claim := Slot.empty } } := by
  have hq : (s.withTaken n).candidate = none := candidate_of_none_free (s := s.withTaken n) hc hm h
  unfold State.claimAnew
  rw [nextNumbering_of_none hq, nextClaim_of_none hq]

end ClaimAnew

/-! ## A number yielded (R31, R20) -/

theorem deliverAll_setNumber (s : State) (u : NumberUnit) (ms : List CueMessage) (o : Origin) :
    (s.setNumber u).deliverAll ms o = (s.deliverAll ms o).setNumber u := by
  have h := deliverAll_aside s s.link u s.lanes.conditions ms o
  rw [aside_own_conditions rfl, aside_own_conditions (deliverAll_conditions ..)] at h
  exact h.trans (by rw [← (deliverAll_frame s ms o).link]; rfl)

/-- Messages taken by the own lanes reach the lanes and the fetch unit alone. -/
theorem deliverAll_replaced (s : State) (ms : List CueMessage) (o : Origin) (u : NumberUnit) (l : Link) :
    ((s.deliverAll ms o).setNumber u).setLink l =
      { s with link := l, number := u, lanes := (s.deliverAll ms o).lanes, fetch := (s.deliverAll ms o).fetch } :=
  congrArg (fun t : State => (t.setNumber u).setLink l) (deliverAll_frame s ms o).eq

theorem deliverAll_claimAnew (s : State) (n : Station) (k : NumberCounters) (ms : List CueMessage) (o : Origin) :
    (s.claimAnew n k).deliverAll ms o =
      ((s.deliverAll ms o).setNumber (s.claimAnew n k).number).setLink (s.claimAnew n k).link :=
  (deliverAll_setLink (s.setNumber (s.claimAnew n k).number) (s.claimAnew n k).link ms o).trans
    (congrArg (fun t : State => t.setLink (s.claimAnew n k).link) (deliverAll_setNumber s _ ms o))

theorem claimAnew_localOrigin (s : State) (n : Station) (k : NumberCounters) : (s.claimAnew n k).localOrigin = 64 := by
  unfold State.localOrigin State.heldNumber State.claimAnew State.nextNumbering
  dsimp only
  cases (s.withTaken n).candidate <;> rfl

/-- R31, R20: the queue reaches the own lanes with the number already given up, so with origin 64. -/
theorem yieldNumber_eq {s : State} (ha : s.link.attempt = none) (n : Station) :
    s.yieldNumber n =
      ((s.deliverAll s.link.triggers 64).setNumber
          { (s.withTaken n).number with
            numbering := (s.withTaken n).nextNumbering
            counters := { s.number.counters with yield := min 65535 (s.number.counters.yield + 1) } }).setLink
        ({ s.link with claim := (s.withTaken n).nextClaim, triggers := [] }.countUnsent s.link.triggers) := by
  have anew : s.yieldNumber n =
      (s.claimAnew n
        { s.number.counters with yield := min 65535 (s.number.counters.yield + 1) }).flushTriggers := by
    rw [← chooseCandidate_withdrawn ha, take_eq]
    unfold State.yieldNumber
    rw [take_eq]
    rfl
  rw [anew, flushTriggers_of_no_attempt (by exact ha), claimAnew_localOrigin, deliverAll_claimAnew]
  rfl

/-- A node that held `n` yields it as R31 and R20 say. -/
theorem yieldNumber_yielded {s : State} {cfg : Config} {lo hi : Station} {p : Nat} (hc : s.config = some cfg)
    (hm : cfg.mode = .claim lo hi p) (ha : s.link.attempt = none) (n : Station) :
    s.Yielded (s.yieldNumber n) n lo hi p := by
  have found {q : Station} (h : (s.withTaken n).Chosen lo hi p q) : (s.withTaken n).candidate = some q :=
    candidate_of_chosen (s := s.withTaken n) hc hm h
  have gone (h : ∀ q, ¬ (s.withTaken n).FreeIn lo hi q) : (s.withTaken n).candidate = none :=
    candidate_of_none_free (s := s.withTaken n) hc hm h
  rw [yieldNumber_eq ha]
  refine ⟨?_, rfl, ?_, rfl, rfl, fun q h => ⟨?_, ?_⟩, fun h => ⟨?_, ?_⟩⟩
  · exact deliverAll_replaced ..
  · rw [← ha]
    rfl
  · exact nextNumbering_of_candidate (found h)
  · exact nextClaim_of_candidate (found h)
  · exact nextNumbering_of_none (gone h)
  · exact nextClaim_of_none (gone h)

/-- The attempt whose CLAIM was lost, and what stood in the claim slot, leave no trace in how a node stands that yielded. -/
theorem yielded_of_ended {s t : State} {x : Slot ClaimBody} {n lo hi : Station} {p : Nat}
    (h : (s.setLink { s.link with attempt := none, claim := x }).Yielded t n lo hi p) : s.Yielded t n lo hi p := by
  obtain ⟨frame, number, link, lanes, fetch, claims, numberless⟩ := h
  have cues := deliverAll_setLink s { s.link with attempt := none, claim := x } s.link.triggers 64
  have lanesKept := (congrArg State.lanes cues).trans (setLink_lanes ..)
  have fetchKept := (congrArg State.fetch cues).trans (setLink_fetch ..)
  exact ⟨frame, number, link, lanes.trans lanesKept, fetch.trans fetchKept, claims, numberless⟩

theorem claimLost_of_candidate {s : State} {c : Station} {w : Option Nat} (h : s.number.numbering = .claiming c w) :
    s.claimLost c = s.endClaim c := by
  unfold State.claimLost
  rw [h]
  exact if_pos rfl

theorem claimLost_of_held {s : State} {c : Station} (h : s.number.numbering = .holding c) :
    s.claimLost c = s.yieldNumber c := by
  unfold State.claimLost
  rw [h]
  exact if_pos rfl

/-- Settles O16: with the attempt over, the loss ends the claim or gives the number up. -/
theorem claimLossChoosesAgain : Obligations.ClaimLossChoosesAgain := by
  intro s cfg lo hi p a c hc hm ha hsrc hn
  have lost : exec .claimLoss s =
      .next ((s.setLink { s.link with attempt := none, claim := s.link.claim.failed }).claimLost c) := by
    refine congrArg Host.Outcome.next ?_
    rw [ha]
    dsimp only
    rw [if_pos hsrc, hn]
    unfold State.attemptFailed
    rw [ha]
    dsimp only
    rw [hsrc, if_neg (by simp)]
    rfl
  rw [lost]
  generalize s.link.claim.failed = x
  refine ⟨fun w hw => ⟨fun q hq => ?_, fun hq => ?_⟩, fun hh => ⟨_, rfl, ?_⟩⟩
  · rw [claimLost_of_candidate (by exact hw), endClaim_eq (by rfl)]
    exact congrArg Host.Outcome.next (claimAnew_of_chosen (by exact hc) hm _ (by exact hq) rfl)
  · rw [claimLost_of_candidate (by exact hw), endClaim_eq (by rfl)]
    exact congrArg Host.Outcome.next (claimAnew_of_none_free (by exact hc) hm _ (by exact hq))
  · rw [claimLost_of_held (by exact hh)]
    have hy := yielded_of_ended (yieldNumber_yielded (s := s.setLink { s.link with attempt := none, claim := x }) hc hm rfl c)
    exact ⟨congrArg Link.attempt hy.link, hy⟩

/-! ## The first delivery step (R12, R23, R38) -/

/-- The state once a message is counted received, before its origin is entered. -/
def State.heard (s : State) (m : LinkMessage) : State := { s.advanceTo m.stamp with link := s.link.countReceived }

theorem firstStep_eq (s : State) (m : LinkMessage) (sync : Option SyncFields) (isClaim : Bool) :
    s.firstStep m sync isClaim = ((s.heard m).hearPeer m.origin sync).hearOrigin m.origin isClaim := by
  unfold State.firstStep State.heard
  dsimp only
  rw [advanceTo_link]
  rfl

section Heard

variable (s : State) (m : LinkMessage)

@[simp] theorem heard_link : (s.heard m).link = s.link.countReceived := rfl
@[simp] theorem heard_number : (s.heard m).number = s.number := advanceTo_number ..
@[simp] theorem heard_peers : (s.heard m).peers = s.peers := advanceTo_peers ..
@[simp] theorem heard_config : (s.heard m).config = s.config := advanceTo_config ..
@[simp] theorem heard_serial : (s.heard m).serial = s.serial := advanceTo_serial ..
@[simp] theorem heard_heldNumber : (s.heard m).heldNumber = s.heldNumber := advanceTo_heldNumber ..
@[simp] theorem heard_frame : (s.heard m).frame = s.frame := advanceTo_frame ..

end Heard

@[simp] theorem countReceived_attempt (l : Link) : l.countReceived.attempt = l.attempt := by rw [countReceived_eq]

theorem countReceived_claimPending (l : Link) : l.countReceived.claimPending = l.claimPending := by
  rw [countReceived_eq]
  rfl

/-- R38: the entry a message leaves: present with silence count 0 and, for a SYNC, its role, position and frame. -/
def State.entryHeard (s : State) (o : Station) (sync : Option SyncFields) : Peer :=
  { silence := 0
    role := match sync with | some f => some f.role | none => (s.peers.get o).bind fun p => p.role
    position := match sync with | some f => some f.position | none => (s.peers.get o).bind fun p => p.position
    sync := match sync with | some _ => some (s.frame, 0) | none => (s.peers.get o).bind fun p => p.sync }

theorem hearPeer_of_entered {s : State} {o : Station} (h : s.heldNumber ≠ some o) (sync : Option SyncFields) :
    s.hearPeer o sync = s.setPeers (s.peers.set o.val (some (s.entryHeard o sync)) o.isLt) := by
  have entry : (match sync with
      | none => { (s.peers.get o).getD Peer.blank with silence := 0 }
      | some f =>
        { (s.peers.get o).getD Peer.blank with
          silence := 0, role := some f.role, position := some f.position, sync := some (s.frame, 0) }) =
      s.entryHeard o sync := by
    unfold State.entryHeard
    cases sync <;> cases s.peers.get o <;> rfl
  unfold State.hearPeer State.enters
  rw [if_pos (decide_eq_true h), ← entry]
  rfl

/-- R37: a message under the number held is not entered. -/
theorem hearPeer_of_held {s : State} {o : Station} (h : s.heldNumber = some o) (sync : Option SyncFields) :
    s.hearPeer o sync = s := by
  simp [State.hearPeer, State.enters, h]

theorem firstStep_of_held {s : State} {m : LinkMessage} (h : s.heldNumber = some m.origin) (sync : Option SyncFields)
    (isClaim : Bool) : s.firstStep m sync isClaim = (s.heard m).hearOrigin m.origin isClaim := by
  rw [firstStep_eq, hearPeer_of_held (by simpa using h)]

/-- The state once the origin is entered, before the number unit judges it. -/
def State.entered (s : State) (m : LinkMessage) (sync : Option SyncFields) : State :=
  { s.heard m with peers := s.peers.set m.origin.val (some (s.entryHeard m.origin sync)) m.origin.isLt }

theorem entered_number (s : State) (m : LinkMessage) (sync : Option SyncFields) : (s.entered m sync).number = s.number :=
  heard_number ..

theorem entered_serial (s : State) (m : LinkMessage) (sync : Option SyncFields) : (s.entered m sync).serial = s.serial :=
  heard_serial ..

theorem entered_config (s : State) (m : LinkMessage) (sync : Option SyncFields) : (s.entered m sync).config = s.config :=
  heard_config ..

theorem entered_attempt (s : State) (m : LinkMessage) (sync : Option SyncFields) :
    (s.entered m sync).link.attempt = s.link.attempt := countReceived_attempt ..

theorem entered_peer (s : State) (m : LinkMessage) (sync : Option SyncFields) :
    (s.entered m sync).peers.get m.origin = some (s.entryHeard m.origin sync) := by
  simp [State.entered, Vector.get_eq_getElem]

theorem firstStep_of_entered {s : State} {m : LinkMessage} (h : s.heldNumber ≠ some m.origin) (sync : Option SyncFields)
    (isClaim : Bool) : s.firstStep m sync isClaim = (s.entered m sync).hearOrigin m.origin isClaim := by
  have entry : (s.heard m).entryHeard m.origin sync = s.entryHeard m.origin sync := by simp [State.entryHeard]
  rw [firstStep_eq, hearPeer_of_entered (by simpa using h), entry, heard_peers]
  rfl

/-! ## Delivery beyond the first step (R23) -/

theorem receive_of_fits {s : State} {k : MessageKind} {m : LinkMessage} (hr : s.receives = true) (hk : k ≠ .sync)
    (hl : m.payload.length = k.length) (consumer : State → Option Station → State) :
    s.receive k m consumer = consumer (s.firstStep m none (decide (k = .claim))) s.heldNumber := by
  simp [State.receive, hr, hk, hl]

/-- R23: a message of a wrong length goes through the first step, a SYNC as one without fields, and is counted. -/
theorem receive_of_misfit {s : State} {k : MessageKind} {m : LinkMessage} (hr : s.receives = true)
    (hl : m.payload.length ≠ k.length) (consumer : State → Option Station → State) :
    s.receive k m consumer =
      (s.firstStep m none (decide (k = .claim))).setLink (s.firstStep m none (decide (k = .claim))).link.refuseLength := by
  simp [State.receive, hr, hl]

theorem exec_claimReceived {s : State} {m : LinkMessage} (hr : s.receives = true) (hl : m.payload.length = 4) :
    exec (.claimReceived m) s = .next ((s.firstStep m none true).hearClaim m.origin (readClaim m.payload)) :=
  congrArg Host.Outcome.next (receive_of_fits hr (by decide) (by exact hl) _)

theorem exec_answerReceived {s : State} {m : LinkMessage} (hr : s.receives = true) (hl : m.payload.length = 12) :
    exec (.answerReceived m) s = .next (s.firstStep m none false) :=
  congrArg Host.Outcome.next (receive_of_fits hr (by decide) (by exact hl) _)

/-! ## A number contested (R29 to R32) -/

section Numbering

variable {s : State} {o : Station}

theorem heldNumber_of_fixed (h : s.number.numbering = .fixed o) : s.heldNumber = some o := by simp [State.heldNumber, h]

theorem heldNumber_of_holding (h : s.number.numbering = .holding o) : s.heldNumber = some o := by
  simp [State.heldNumber, h]

theorem heldNumber_of_claiming {w : Option Nat} (h : s.number.numbering = .claiming o w) : s.heldNumber = none := by
  simp [State.heldNumber, h]

theorem hearOrigin_of_fixed (h : s.number.numbering = .fixed o) (isClaim : Bool) :
    s.hearOrigin o isClaim = s.raiseDuplicate := by
  unfold State.hearOrigin
  rw [h]
  exact if_pos rfl

theorem hearOrigin_of_holding (h : s.number.numbering = .holding o) : s.hearOrigin o false = s.yieldNumber o := by
  unfold State.hearOrigin
  rw [h]
  exact if_pos ⟨rfl, rfl⟩

theorem hearOrigin_of_claiming {w : Option Nat} (h : s.number.numbering = .claiming o w) :
    s.hearOrigin o false = s.endClaim o := by
  unfold State.hearOrigin
  rw [h]
  exact if_pos ⟨rfl, rfl⟩

/-- Outside FIXED a CLAIM is left to its own rules. -/
theorem hearOrigin_claim (h : ∀ n, s.number.numbering ≠ .fixed n) : s.hearOrigin o true = s := by
  unfold State.hearOrigin
  split
  · exact absurd ‹_› (h _)
  · simp
  · simp
  · rfl

theorem hearClaim_of_fixed (h : s.number.numbering = .fixed o) (x : BitVec 32) : s.hearClaim o x = s := by
  unfold State.hearClaim
  rw [h]

theorem hearClaim_of_holding (h : s.number.numbering = .holding o) (x : BitVec 32) :
    s.hearClaim o x = if x < s.serial then s.yieldNumber o else if s.serial < x then s.defend o else s := by
  unfold State.hearClaim
  rw [h]
  exact if_pos rfl

theorem hearClaim_of_claiming {w : Option Nat} (h : s.number.numbering = .claiming o w) (x : BitVec 32) :
    s.hearClaim o x = if x ≠ s.serial then s.endClaim o else s := by
  unfold State.hearClaim
  rw [h]
  simp

end Numbering

section Contested

variable {s : State} {m : LinkMessage}

/-- R32: in FIXED any message under the number held raises the condition in its first step. -/
theorem firstStep_of_fixed (h : s.number.numbering = .fixed m.origin) (sync : Option SyncFields) (isClaim : Bool) :
    s.firstStep m sync isClaim =
      { s.heard m with
        number :=
          { s.number with
            duplicate := true
            duplicateQuiet := 0
            counters := { s.number.counters with duplicate := min 65535 (s.number.counters.duplicate + 1) } } } := by
  rw [firstStep_of_held (heldNumber_of_fixed h), hearOrigin_of_fixed (by simpa using h), State.raiseDuplicate, heard_number]
  rfl

/-- R31: in HOLDING any message but a CLAIM makes the node yield in its first step. -/
theorem firstStep_of_holding (h : s.number.numbering = .holding m.origin) (sync : Option SyncFields) :
    s.firstStep m sync false = (s.heard m).yieldNumber m.origin := by
  rw [firstStep_of_held (heldNumber_of_holding h), hearOrigin_of_holding (by simpa using h)]

/-- R30: a CLAIM of the number held goes through the first step and is judged by its serial after it. -/
theorem firstStep_claim_of_holding (h : s.number.numbering = .holding m.origin) (sync : Option SyncFields) :
    s.firstStep m sync true = s.heard m := by
  rw [firstStep_of_held (heldNumber_of_holding h), hearOrigin_claim (by simp [h])]

theorem exec_claimReceived_of_holding (h : s.number.numbering = .holding m.origin) (hr : s.receives = true)
    (hl : m.payload.length = 4) :
    exec (.claimReceived m) s =
      .next
        (if readClaim m.payload < s.serial then (s.heard m).yieldNumber m.origin
         else if s.serial < readClaim m.payload then (s.heard m).defend m.origin
         else s.heard m) := by
  rw [exec_claimReceived hr hl, firstStep_claim_of_holding h, hearClaim_of_holding (by simpa using h), heard_serial]

/-- R30: the defending CLAIM is written unless one pends already. -/
theorem defend_heard (s : State) (m : LinkMessage) (n : Station) :
    (s.heard m).defend n =
      { s.heard m with
        number :=
          { s.number with
            counters := { s.number.counters with defence := min 65535 (s.number.counters.defence + 1) } }
        link :=
          if s.link.claimPending then s.link.countReceived else s.link.countReceived.writeClaim ⟨n, s.serial⟩ } := by
  unfold State.defend
  rw [heard_number]
  simp only [setNumber_link, heard_link, countReceived_claimPending]
  by_cases h : s.link.claimPending = true
  · rw [if_pos h, if_pos h]
    rfl
  · rw [if_neg h, if_neg h]
    exact congrArg (fun x => ((s.heard m).setNumber _).setLink (s.link.countReceived.writeClaim ⟨n, x⟩)) (heard_serial s m)

theorem firstStep_claim_of_claiming {w : Option Nat} (h : s.number.numbering = .claiming m.origin w)
    (sync : Option SyncFields) : s.firstStep m sync true = s.entered m sync := by
  rw [firstStep_of_entered (by simp [heldNumber_of_claiming h])]
  exact hearOrigin_claim fun n => by
    simp [entered_number, h]

/-- R29 c: in CLAIMING any message but a CLAIM ends the claim, its sender entered. -/
theorem firstStep_of_claiming {w : Option Nat} (h : s.number.numbering = .claiming m.origin w) (sync : Option SyncFields) :
    s.firstStep m sync false = (s.entered m sync).endClaim m.origin := by
  rw [firstStep_of_entered (by simp [heldNumber_of_claiming h])]
  exact hearOrigin_of_claiming (w := w) (by rw [entered_number, h])

theorem exec_claimReceived_of_claiming {w : Option Nat} (h : s.number.numbering = .claiming m.origin w)
    (hr : s.receives = true) (hl : m.payload.length = 4) :
    exec (.claimReceived m) s =
      .next
        (if readClaim m.payload ≠ s.serial then (s.entered m none).endClaim m.origin else s.entered m none) := by
  rw [exec_claimReceived hr hl, firstStep_claim_of_claiming h,
    hearClaim_of_claiming (w := w) (by rw [entered_number, h]), entered_serial]

theorem endClaim_entered (ha : s.link.attempt = none) (sync : Option SyncFields) :
    (s.entered m sync).endClaim m.origin =
      (s.entered m sync).claimAnew m.origin
        { s.number.counters with withdraw := min 65535 (s.number.counters.withdraw + 1) } := by
  rw [endClaim_eq (by rw [entered_attempt, ha]), entered_number]

end Contested

/-- Settles O25, by the numbering state in which the peer is heard. -/
theorem numberContested : Obligations.NumberContested := by
  intro s m hr
  refine ⟨fun h => ⟨firstStep_of_fixed h, fun hl => ?_, fun hl => ?_⟩, fun h hl => ⟨fun hlt => ?_, fun heq => ?_⟩,
    fun h ha cfg lo hi p hc hm => ?_, fun w cfg lo hi p sync h ha hc hm => ?_⟩
  · rw [exec_claimReceived hr hl, firstStep_of_fixed h]
    exact congrArg Host.Outcome.next (hearClaim_of_fixed (by exact h) _)
  · rw [exec_answerReceived hr hl, firstStep_of_fixed h]
    rfl
  · rw [exec_claimReceived_of_holding h hr hl, if_neg (BitVec.lt_asymm hlt), if_pos hlt, defend_heard]
    rfl
  · rw [exec_claimReceived_of_holding h hr hl, heq, if_neg (BitVec.lt_irrefl _), if_neg (BitVec.lt_irrefl _)]
    rfl
  · have yielded : (s.heard m).Yielded ((s.heard m).yieldNumber m.origin) m.origin lo hi p :=
      yieldNumber_yielded (by simpa using hc) hm (by simpa using ha) m.origin
    refine ⟨fun sync => ?_, fun hl => ⟨_, exec_answerReceived hr hl, ?_⟩, fun hl hlt => ⟨_, ?_, yielded⟩⟩
    · rw [firstStep_of_holding h]
      exact yielded
    · rw [firstStep_of_holding h]
      exact yielded
    · rw [exec_claimReceived_of_holding h hr hl, if_pos hlt]
  · intro old entry after u counters ended
    have hc' : (s.entered m sync).config = some cfg := (entered_config ..).trans hc
    have claimOver : ended ((s.entered m sync).endClaim m.origin) := by
      rw [endClaim_entered ha]
      exact ⟨entered_peer .., fun q hq => claimAnew_of_chosen hc' hm _ hq (entered_serial ..),
        fun hq => claimAnew_of_none_free hc' hm _ hq⟩
    refine ⟨firstStep_claim_of_claiming h sync, ?_, fun hs hl => ⟨_, exec_answerReceived hr hl, ?_⟩, fun hs hl => ?_⟩
    · rw [firstStep_of_claiming h]
      exact claimOver
    · rw [firstStep_of_claiming h, ← hs]
      exact claimOver
    · rw [exec_claimReceived_of_claiming h hr hl, ← hs]
      exact ⟨fun hx => congrArg Host.Outcome.next (if_neg (not_not.mpr hx)), fun hx => ⟨_, rfl, by rwa [if_pos hx]⟩⟩

/-! ## A message that concerns no number of the node (R23) -/

theorem heldNumber_of_indifferent {s : State} {o : Station} (h : s.Indifferent o) : s.heldNumber ≠ some o := by
  unfold State.Indifferent Numbering.shown at h
  unfold State.heldNumber
  cases hn : s.number.numbering <;> simp_all

theorem hearOrigin_of_indifferent {s : State} {o : Station} (h : s.Indifferent o) (isClaim : Bool) :
    s.hearOrigin o isClaim = s := by
  unfold State.Indifferent at h
  unfold State.hearOrigin
  split
  · rename_i n hn
    exact if_neg fun he => h (by rw [hn, he]; rfl)
  · rename_i n hn
    exact if_neg fun he => h (by rw [hn, he.1]; rfl)
  · rename_i c w hn
    exact if_neg fun he => h (by rw [hn, he.1]; rfl)
  · rfl

/-- Settles O23: the origin is entered and the number unit makes nothing of it. -/
theorem firstDeliveryStep : Obligations.FirstDeliveryStep := by
  intro s m sync isClaim h
  have unheard : (s.entered m sync).Indifferent m.origin := by
    unfold State.Indifferent
    rwa [entered_number]
  rw [firstStep_of_entered (heldNumber_of_indifferent h), hearOrigin_of_indifferent unheard, State.entered, State.heard,
    countReceived_eq]
  rfl

/-- Settles O24: an unknown kind and an ANSWER have no consumer, and a wrong length is refused before one. -/
theorem firstStepAndNoFurther : Obligations.FirstStepAndNoFurther := by
  intro s m hr
  have refused (k : MessageKind) (hl : m.payload.length ≠ k.length) (consumer : State → Option Station → State) :=
    congrArg (Host.Outcome.next (φ := Fault) (ρ := Refusal)) (receive_of_misfit hr hl consumer)
  exact ⟨fun _ _ => congrArg Host.Outcome.next (if_pos hr), exec_answerReceived hr, fun hl => refused .sync hl _,
    fun hl => refused .claim hl _, fun hl => refused .go hl _, fun hl => refused .hold hl _,
    fun hl => refused .release hl _, fun hl => refused .tally hl _, fun hl => refused .query hl _,
    fun hl => refused .answer hl _, fun hl => refused .status hl _, fun hl => refused .restart hl _⟩

end Sys2Proof.Machine

end

section
/-! SUPPORT. The ends of lifetimes at an edge: which work of an edge touches the trigger queue. -/

namespace Sys2Proof.Machine

set_option Elab.async false

open Sys2Proof

/-! ## The trigger queue at an edge (R19) -/

/-- The trigger queue, and the count of its expired messages, stay as they are. -/
structure QueueKept (s t : State) : Prop where
  queue : t.link.triggers = s.link.triggers := by rfl
  count : t.link.counters.triggerExpired = s.link.counters.triggerExpired := by rfl

theorem QueueKept.refl (s : State) : QueueKept s s := {}

theorem QueueKept.trans {a b c : State} (h : QueueKept a b) (k : QueueKept b c) : QueueKept a c :=
  ⟨k.queue.trans h.queue, k.count.trans h.count⟩

theorem QueueKept.ofLink {s t : State} (h : t.link = s.link) : QueueKept s t := ⟨by rw [h], by rw [h]⟩

theorem TimerWork.queue {s t : State} (h : TimerWork s t) : QueueKept s t := by
  obtain ⟨x, n, hl⟩ := h.link
  exact ⟨by rw [hl], by rw [hl]⟩

/-- R26 to R33: the number unit writes and withdraws CLAIMs. -/
theorem numberEdge_queue (s : State) : QueueKept s s.numberEdge := by
  have chosen : QueueKept s s.chooseCandidate := by
    unfold State.chooseCandidate
    split <;> exact {}
  unfold State.numberEdge
  repeat' split
  · exact {}
  · exact {}
  · exact {}
  · exact {}
  · exact {}
  · exact chosen
  · exact {}
  · exact {}
  · exact {}
  · exact {}
  · exact {}
  · exact {}
  · exact {}

theorem reportEdge_queue (s : State) (c : Config) (own : Option Station) : QueueKept s (s.reportEdge c own) := by
  unfold State.reportEdge
  split <;> exact {}

theorem wallEdge_link (s : State) (c : Config) : (s.wallEdge c).link = s.link := by
  simpa using congrArg State.link (wallEdge_frame s c s.ingest s.wall)

theorem flushEdge_link (s : State) : s.flushEdge.link = s.link := rfl

theorem outputEdge_link (s : State) (c : Config) : (s.outputEdge c).link = s.link := setOutput_link ..

theorem budgetEdge_link (s : State) (c : Config) : (s.budgetEdge c).link = s.link := setBudget_link ..

/-- R168: a pin without a function forms no message. -/
theorem samplePin_without_function {c : Config} {i : Fin 8} (h : (c.pins.get i).function = .none) (s : State)
    (level : Bool) (f : FrameNo) : QueueKept s (s.samplePin c i level f) := by
  have idle (t : State) : QueueKept t (t.pinActs (c.pins.get i) level f) := by
    unfold State.pinActs
    rw [h]
    split <;> exact {}
  unfold State.samplePin
  dsimp only
  split
  · exact {}
  · repeat' split
    · exact {}
    · exact .trans (b := s.setPin i ⟨some level, 0⟩) {} (idle _)
    · exact {}

theorem pinsEdge_without_functions {c : Config} (h : ∀ k, (c.pins.get k).function = .none) (s : State) (pins : BitVec 8) :
    QueueKept s (s.pinsEdge c pins) :=
  foldl_frame QueueKept _ .refl (fun _ _ _ => .trans) (fun t i => samplePin_without_function (h i) t _ _) _ s

/-- R44: after the expiry no block but the pins touches the queue. -/
theorem blocksEdge_queue {c : Config} (h : ∀ k, (c.pins.get k).function = .none) (s : State) (pins : BitVec 8) :
    QueueKept s.triggerQueueEdge (s.blocksEdge c pins false) := by
  unfold State.blocksEdge
  dsimp only
  refine .trans ?_ (reportEdge_queue _ c _)
  refine .trans ?_ (pinsEdge_without_functions h _ pins)
  refine .trans ?_ (.ofLink (budgetEdge_link _ c))
  refine .trans ?_ (.ofLink (outputEdge_link _ c))
  refine .trans ?_ (.ofLink (lanesEdge_frame _ c).link)
  refine .trans ?_ (.ofLink (fetchEdge_frame _ c).link)
  refine .trans ?_ (.ofLink (wallEdge_link _ c))
  refine .trans ?_ (.ofLink (flushEdge_link _))
  exact numberEdge_queue _

/-- R19: of the queue the messages that have not expired at the edge due are left, and the others counted. -/
theorem edge_queue {s : State} {c : Config} (hr : s.startup.phase = .running) (ha : s.link.attempt = none)
    (h : ∀ k, (c.pins.get k).function = .none) (pins : BitVec 8) :
    QueueKept (s.setLink (s.link.expireTriggers s.nextFrame)) (s.edge c pins) := by
  have aged := agePeers_frame s c
  have worked := timerEdge_work (s.agePeers c)
  have hn : (s.agePeers c).nextFrame = s.nextFrame := by simp [State.nextFrame, aged.timer]
  unfold State.edge
  dsimp only
  generalize (s.agePeers c).timerEdge = t at worked
  obtain ⟨work, hf⟩ := worked
  have hrun : t.isRunning = true := by simp [State.isRunning, work.startup, aged.startup, hr]
  have same : QueueKept s t := (QueueKept.ofLink aged.link).trans work.queue
  have hta : t.link.attempt = none := by
    obtain ⟨x, n, hl⟩ := work.link
    rw [hl, aged.link]
    exact ha
  have expired : QueueKept (s.setLink (s.link.expireTriggers s.nextFrame)) t.triggerQueueEdge := by
    unfold State.triggerQueueEdge
    rw [expireTriggers_of_no_attempt ha, expireTriggers_of_no_attempt hta, hf, hn, same.queue, same.count]
    exact {}
  rw [if_pos hrun]
  exact expired.trans ((blocksEdge_queue h t pins).trans (.ofLink (setAhead_link ..)))

/-- R19 with no attempt in progress, in the terms of the frame numbers. -/
theorem expireTriggers_filter {l : Link} (ha : l.attempt = none) (f : FrameNo) :
    let expired (m : CueMessage) : Bool :=
      decide (8 ≤ (f - m.execute).toNat) && decide ((f - m.execute).toNat ≤ 32767)
    l.expireTriggers f =
      { l with
        triggers := l.triggers.filter fun m => !expired m
        counters :=
          { l.counters with triggerExpired := min 65535 (l.counters.triggerExpired + l.triggers.countP expired) } } := by
  intro expired
  rw [expireTriggers_of_no_attempt ha, List.countP_eq_length_filter]
  rfl

/-- Settles O54: with no attempt in progress the two rows and the edge drop what has outlived its edges. -/
theorem lifetimesEndAtEdges : Obligations.LifetimesEndAtEdges := by
  intro s r hrun ha
  have running : s.timer.run.isSome = true := by rw [hrun]; rfl
  have hn : s.nextFrame = r.nextNumber := by simp [State.nextFrame, hrun]
  refine ⟨fun b hb => ?_, ?_, fun cfg pins hr hc h => ?_⟩
  · refine congrArg Host.Outcome.next ((if_pos running).trans ?_)
    simp [Link.cancelStale, busy_of_no_attempt ha, hb, raise16, State.setLink]
  · refine congrArg Host.Outcome.next ((if_pos running).trans ?_)
    rw [hn, expireTriggers_filter ha]
    rfl
  · have hq := edge_queue hr ha h pins
    rw [hn, expireTriggers_filter ha] at hq
    have he : exec (.frameEdge pins) s = .next (s.edge cfg pins) := by
      refine congrArg Host.Outcome.next ?_
      rw [hrun, hc]
    exact ⟨_, he, hq.queue, hq.count⟩

end Sys2Proof.Machine

end

section
/-! SUPPORT. The coding of a message: numbers as bit strings, inserted bits and their removal, and the first bit in which
two messages differ. -/

namespace Sys2Proof.Machine

set_option Elab.async false

open Sys2Proof

/-! ## Numbers as bit strings -/

theorem bitsOf_succ (n v : Nat) : bitsOf (n + 1) v = v.testBit n :: bitsOf n v := by
  unfold bitsOf
  rw [List.range_succ_eq_map, List.map_cons, List.map_map]
  refine congrArg₂ List.cons (by simp) (List.map_congr_left fun i hi => ?_)
  have : n - (i + 1) = n - 1 - i := by omega
  simp [this]

theorem bitsOf_mod (n v : Nat) : bitsOf n (v % 2 ^ n) = bitsOf n v := by
  unfold bitsOf
  refine List.map_congr_left fun i hi => ?_
  have : n - 1 - i < n := by
    have := List.mem_range.mp hi
    omega
  simp [Nat.testBit_mod_two_pow, this]

theorem bitsOf_add (m k v : Nat) : bitsOf (m + k) v = bitsOf m (v >>> k) ++ bitsOf k v := by
  induction m with
  | zero => simp [bitsOf]
  | succ m ih => rw [Nat.succ_add, bitsOf_succ, bitsOf_succ, ih, Nat.testBit_shiftRight, Nat.add_comm k m, List.cons_append]

/-- The top bit and the others, as numbers. -/
theorem mod_two_pow_succ_eq (n v : Nat) : v % 2 ^ (n + 1) = (v.testBit n).toNat * 2 ^ n + v % 2 ^ n := by
  rw [Nat.mod_pow_succ, Nat.toNat_testBit]
  ring

theorem valueOf_cons (b : Bool) (bits : List Bool) : valueOf (b :: bits) = b.toNat * 2 ^ bits.length + valueOf bits := by
  have from_ (bits : List Bool) (v : Nat) :
      bits.foldl (fun v b => 2 * v + b.toNat) v = v * 2 ^ bits.length + valueOf bits := by
    unfold valueOf
    induction bits generalizing v with
    | nil => simp
    | cons c rest ih =>
      rw [List.foldl_cons, List.foldl_cons, ih, ih (2 * 0 + c.toNat), List.length_cons]
      ring
  simpa [valueOf] using from_ bits b.toNat

theorem valueOf_bitsOf (n v : Nat) : valueOf (bitsOf n v) = v % 2 ^ n := by
  induction n with
  | zero => simp [bitsOf, valueOf, Nat.mod_one]
  | succ n ih => rw [bitsOf_succ, valueOf_cons, length_bitsOf, ih, mod_two_pow_succ_eq]

/-- Of two numbers the lower has the first differing bit 0. -/
theorem bitsOf_lt (n : Nat) {a b : Nat} (h : a % 2 ^ n < b % 2 ^ n) :
    ∃ p q q', bitsOf n a = p ++ false :: q ∧ bitsOf n b = p ++ true :: q' := by
  induction n with
  | zero => simp [Nat.mod_one] at h
  | succ n ih =>
    rw [mod_two_pow_succ_eq, mod_two_pow_succ_eq] at h
    rw [bitsOf_succ, bitsOf_succ]
    have same (x : Bool) (ha : a.testBit n = x) (hb : b.testBit n = x) :
        ∃ p q q', a.testBit n :: bitsOf n a = p ++ false :: q ∧ b.testBit n :: bitsOf n b = p ++ true :: q' := by
      rw [ha, hb] at h ⊢
      obtain ⟨p, q, q', hp, hq⟩ := ih (by omega)
      exact ⟨x :: p, q, q', by rw [hp, List.cons_append], by rw [hq, List.cons_append]⟩
    cases ha : a.testBit n <;> cases hb : b.testBit n
    · simpa [ha, hb] using same false ha hb
    · exact ⟨[], _, _, rfl, rfl⟩
    · have := Nat.mod_lt b (Nat.two_pow_pos n)
      simp [ha, hb] at h
      omega
    · simpa [ha, hb] using same true ha hb

theorem bitsOfBytes_cons (b : Byte) (bytes : List Byte) : bitsOfBytes (b :: bytes) = bitsOf 8 b.toNat ++ bitsOfBytes bytes :=
  List.flatMap_cons ..

theorem length_bitsOfBytes (bytes : List Byte) : (bitsOfBytes bytes).length = 8 * bytes.length := by
  induction bytes with
  | nil => rfl
  | cons b rest ih =>
    rw [bitsOfBytes_cons, List.length_append, length_bitsOf, ih, List.length_cons]
    omega

theorem toBytes_succ (n v : Nat) : toBytes (n + 1) v = BitVec.ofNat 8 (v >>> (8 * n)) :: toBytes n v := by
  unfold toBytes
  rw [List.range_succ_eq_map, List.map_cons, List.map_map]
  refine congrArg₂ List.cons (by simp) (List.map_congr_left fun i hi => ?_)
  have : n - (i + 1) = n - 1 - i := by omega
  simp [this]

/-- 13.1: the bytes of a number are sent as its bits. -/
theorem bitsOfBytes_toBytes (n v : Nat) : bitsOfBytes (toBytes n v) = bitsOf (8 * n) v := by
  induction n with
  | zero => rfl
  | succ n ih =>
    rw [toBytes_succ, bitsOfBytes_cons, ih, Nat.mul_succ, Nat.add_comm, bitsOf_add, BitVec.toNat_ofNat, bitsOf_mod]

theorem bytesOfBits_succ (n : Nat) (bits : List Bool) :
    bytesOfBits (n + 1) bits = BitVec.ofNat 8 (valueOf (bits.take 8)) :: bytesOfBits n (bits.drop 8) := by
  unfold bytesOfBits
  rw [List.range_succ_eq_map, List.map_cons, List.map_map]
  refine congrArg₂ List.cons (by simp) (List.map_congr_left fun i _ => ?_)
  simp [List.drop_drop, Nat.mul_succ, Nat.add_comm]

theorem bytesOfBits_bitsOfBytes (bytes : List Byte) (rest : List Bool) :
    bytesOfBits bytes.length (bitsOfBytes bytes ++ rest) = bytes := by
  induction bytes with
  | nil => rfl
  | cons b bytes ih =>
    have hl : (bitsOf 8 b.toNat).length = 8 := length_bitsOf ..
    have hv : valueOf (bitsOf 8 b.toNat) = b.toNat := by
      rw [valueOf_bitsOf]
      exact Nat.mod_eq_of_lt b.isLt
    rw [List.length_cons, bytesOfBits_succ, bitsOfBytes_cons, List.append_assoc, List.take_left' hl, List.drop_left' hl, ih,
      hv, BitVec.ofNat_toNat, BitVec.setWidth_eq]

/-! ## Inserted bits (R3) -/

/-- What a transmitter drives before a bit does not hang on that bit and those after it. -/
theorem insertBits_before (p : List Bool) (value : Bool) (run : Nat) :
    ∃ w, ∀ b rest, ∃ q, insertBits value run (p ++ b :: rest) = w ++ b :: q := by
  induction p generalizing value run with
  | nil =>
    refine ⟨[], fun b rest => ?_⟩
    rw [List.nil_append, insertBits]
    generalize (if b = value then run + 1 else 1) = run'
    split <;> exact ⟨_, rfl⟩
  | cons c p ih =>
    generalize hr : (if c = value then run + 1 else 1) = run'
    by_cases h : run' = 7
    · obtain ⟨w, hw⟩ := ih (!c) 1
      refine ⟨c :: (!c) :: w, fun b rest => ?_⟩
      obtain ⟨q, hq⟩ := hw b rest
      exact ⟨q, by rw [List.cons_append, insertBits, hr, if_pos h, hq]; rfl⟩
    · obtain ⟨w, hw⟩ := ih c run'
      refine ⟨c :: w, fun b rest => ?_⟩
      obtain ⟨q, hq⟩ := hw b rest
      exact ⟨q, by rw [List.cons_append, insertBits, hr, if_neg h, hq]; rfl⟩

/-! ## The first bit in which two messages differ (R7, R8) -/

/-- The first differing bit of two bit strings is the first differing bit on the link. -/
theorem wireBits_differ {x y : Envelope} {p q q' : List Bool} (hx : x.plainBits = p ++ false :: q)
    (hy : y.plainBits = p ++ true :: q') :
    ∃ p q q' : List Bool, x.wireBits = p ++ false :: q ∧ y.wireBits = p ++ true :: q' := by
  obtain ⟨w, hw⟩ := insertBits_before p true 0
  obtain ⟨r, hr⟩ := hw false q
  obtain ⟨r', hr'⟩ := hw true q'
  refine ⟨w, r ++ closingBits, r' ++ closingBits, ?_, ?_⟩
  · rw [Envelope.wireBits, hx, hr, List.append_assoc, List.cons_append]
  · rw [Envelope.wireBits, hy, hr', List.append_assoc, List.cons_append]

theorem arbitration_lt (m : Envelope) : m.arbitration < 2 ^ 12 := by
  have hc := m.cls.isLt
  have hk := m.kind.isLt
  have ho := m.origin.isLt
  unfold Envelope.arbitration
  omega

/-- The bits of a message from the length field on. -/
def Envelope.bitsAfterArbitration (m : Envelope) : List Bool :=
  bitsOf 4 m.payload.length ++ (bitsOfBytes m.payload ++ bitsOf 16 (crcBits m.checkedBits).toNat)

theorem plainBits_eq (m : Envelope) : m.plainBits = false :: (bitsOf 12 m.arbitration ++ m.bitsAfterArbitration) := by
  simp [Envelope.plainBits, Envelope.checkedBits, Envelope.bitsAfterArbitration]

/-- Two CLAIMs of one number agree up to their serials. -/
theorem claim_plainBits (n : Station) {x : Nat} {p q : List Bool} {v : Bool} (hx : bitsOf (8 * 4) x = p ++ v :: q) :
    ∃ e, (envelope .claim n (toBytes 4 x)).plainBits =
      (false :: (bitsOf 12 (envelope .claim n []).arbitration ++ (bitsOf 4 4 ++ p))) ++ v :: e := by
  have same : (envelope .claim n (toBytes 4 x)).arbitration = (envelope .claim n []).arbitration := rfl
  have payload : (envelope .claim n (toBytes 4 x)).payload = toBytes 4 x := rfl
  refine ⟨q ++ bitsOf 16 (crcBits (envelope .claim n (toBytes 4 x)).checkedBits).toNat, ?_⟩
  rw [plainBits_eq, Envelope.bitsAfterArbitration, same, payload, length_toBytes, bitsOfBytes_toBytes, hx]
  simp

/-- Settles O22: arbitration value and serial are sent most significant bit first. -/
theorem lowerValueWinsArbitration : Obligations.LowerValueWinsArbitration := by
  refine ⟨fun x y h => ?_, fun place => ⟨by cases place <;> rfl, rfl, fun h => if_neg h, by cases place <;> rfl⟩, fun n a b h => ?_⟩
  · obtain ⟨p, q, q', hp, hq⟩ := bitsOf_lt 12 (a := x.arbitration) (b := y.arbitration) (by
      rwa [Nat.mod_eq_of_lt (arbitration_lt x), Nat.mod_eq_of_lt (arbitration_lt y)])
    refine wireBits_differ (p := false :: p) (q := q ++ x.bitsAfterArbitration) (q' := q' ++ y.bitsAfterArbitration) ?_ ?_
    · rw [plainBits_eq, hp, List.append_assoc]
      rfl
    · rw [plainBits_eq, hq, List.append_assoc]
      rfl
  · obtain ⟨p, q, q', hp, hq⟩ := bitsOf_lt (8 * 4) (a := a.toNat) (b := b.toNat) (by
      rw [Nat.mod_eq_of_lt a.isLt, Nat.mod_eq_of_lt b.isLt]
      exact h)
    obtain ⟨e, he⟩ := claim_plainBits n hp
    obtain ⟨e', he'⟩ := claim_plainBits n hq
    exact wireBits_differ he he'

/-! ## A message received (R3, R4, R5) -/

/-- A complete string of bits: its length field tells its length, and its check field agrees. -/
structure Complete (bits : List Bool) : Prop where
  length : bits.length = plainLength (lengthField bits)
  field : lengthField bits ≤ 12
  check : checkAgrees bits = true

/-- The length field is known once 17 bits are gathered. -/
theorem lengthField_append {p : List Bool} (h : 17 ≤ p.length) (q : List Bool) : lengthField (p ++ q) = lengthField p := by
  unfold lengthField
  rw [List.drop_append_of_le_length (by omega), List.take_append_of_le_length (by rw [List.length_drop]; omega)]

section Gather

variable {value : Bool} {run : Nat} {got : List Bool}

/-- Short of the whole string a receiver gathers on. -/
theorem Complete.not_yet {rest : List Bool} (h : Complete (got.reverse ++ rest)) (hr : rest ≠ []) :
    ¬ (17 ≤ got.length ∧ got.length = plainLength (lengthField got.reverse)) := by
  rintro ⟨hl, he⟩
  have hw := h.length
  rw [lengthField_append (by simpa using hl), List.length_append, List.length_reverse] at hw
  have := List.length_pos_iff.mpr hr
  omega

theorem gather_of_more {rest : List Bool} (h : Complete (got.reverse ++ rest)) (hr : rest ≠ []) :
    Rx.gather value run got = .body value run got := by
  have more := h.not_yet hr
  unfold Rx.gather
  dsimp only
  rw [List.length_reverse, if_neg, if_neg more]
  rintro ⟨hl, hf⟩
  have hw := h.field
  rw [lengthField_append (by simpa using hl)] at hw
  omega

/-- R4: at the last bit of the check field the check agrees; an inserted bit may still follow. -/
theorem gather_of_complete (h : Complete got.reverse) :
    Rx.gather value run got = if run = 7 then .body value run got else .closing (envelopeOf got.reverse) 0 := by
  have hf := h.field
  have hl : 17 ≤ got.reverse.length := by
    rw [h.length, plainLength]
    omega
  unfold Rx.gather
  dsimp only
  rw [if_neg (by omega), if_pos ⟨hl, h.length⟩, h.check]
  rfl

/-- R3: the bit after a run of 7 is not gathered. -/
theorem take_inserted_of_more {rest : List Bool} (h : Complete (got.reverse ++ rest)) (hr : rest ≠ []) :
    Rx.take (.body value 7 got) (!value) = .body (!value) 1 got := by
  unfold Rx.take
  dsimp only
  rw [if_pos rfl, if_neg (by simp), if_neg (h.not_yet hr)]

theorem take_inserted_of_complete (h : Complete got.reverse) :
    Rx.take (.body value 7 got) (!value) = .closing (envelopeOf got.reverse) 0 := by
  have hl := h.length
  rw [List.length_reverse] at hl
  unfold Rx.take
  dsimp only
  rw [if_pos rfl, if_neg (by simp), if_pos ⟨by rw [hl, plainLength]; omega, hl⟩]

theorem take_gathers (h : run ≠ 7) (b : Bool) :
    Rx.take (.body value run got) b = Rx.gather b (if b = value then run + 1 else 1) (b :: got) := by
  unfold Rx.take
  dsimp only
  rw [if_neg h]

end Gather

/-- R3: a receiver leaves out the bits that the transmitter inserts, and comes to the closing fields with the message. -/
theorem foldl_take_insertBits (rest : List Bool) {value : Bool} {run : Nat} {got : List Bool}
    (h : Complete (got.reverse ++ rest)) (hr : rest ≠ []) (hrun : run < 7) :
    (insertBits value run rest).foldl Rx.take (.body value run got) =
      .closing (envelopeOf (got.reverse ++ rest)) 0 := by
  induction rest generalizing value run got with
  | nil => exact absurd rfl hr
  | cons b rest ih =>
    have hb : got.reverse ++ b :: rest = (b :: got).reverse ++ rest := by simp
    have hle : (if b = value then run + 1 else 1) ≤ 7 := by split <;> omega
    have first := take_gathers (value := value) (got := got) (Nat.ne_of_lt hrun) b
    rw [hb] at h ⊢
    rw [insertBits]
    generalize (if b = value then run + 1 else 1) = run' at hle first
    by_cases last : rest = []
    · subst last
      rw [List.append_nil] at h ⊢
      rw [gather_of_complete h] at first
      by_cases h7 : run' = 7
      · subst h7
        rw [if_pos rfl] at first
        simp only [if_pos, insertBits, List.foldl_cons, List.foldl_nil, first, take_inserted_of_complete h]
      · rw [if_neg h7] at first
        simp only [if_neg h7, insertBits, List.foldl_cons, List.foldl_nil, first]
    · rw [gather_of_more h last] at first
      by_cases h7 : run' = 7
      · subst h7
        rw [if_pos rfl, List.foldl_cons, List.foldl_cons, first, take_inserted_of_more h last]
        exact ih h last (by decide)
      · rw [if_neg h7, List.foldl_cons, first]
        exact ih h last (by omega)

theorem foldl_take_closing (m : Envelope) : closingBits.foldl Rx.take (.closing m 0) = .received m := rfl

/-! ### The bits of a message are complete -/

theorem length_checkedBits (m : Envelope) : m.checkedBits.length = 16 + 8 * m.payload.length := by
  rw [Envelope.checkedBits, List.length_append, List.length_append, length_bitsOf, length_bitsOf, length_bitsOfBytes]

theorem length_plainBits (m : Envelope) : m.plainBits.length = plainLength m.payload.length := by
  rw [Envelope.plainBits, List.length_append, List.length_cons, length_checkedBits, length_bitsOf, plainLength]
  omega

theorem lengthField_plainBits {m : Envelope} (h : m.payload.length ≤ 12) : lengthField m.plainBits = m.payload.length := by
  have hd : m.plainBits.drop 13 = m.bitsAfterArbitration := by
    rw [plainBits_eq, List.drop_succ_cons, List.drop_left' (length_bitsOf ..)]
  rw [lengthField, hd, Envelope.bitsAfterArbitration, List.take_left' (length_bitsOf ..), valueOf_bitsOf]
  exact Nat.mod_eq_of_lt (by omega)

/-- R4: the check field of a message agrees with the bits before it. -/
theorem complete_plainBits {m : Envelope} (h : m.payload.length ≤ 12) : Complete m.plainBits := by
  have hf := lengthField_plainBits h
  refine ⟨by rw [hf, length_plainBits], by omega, ?_⟩
  have hl : (false :: m.checkedBits).length = plainLength m.payload.length - 16 := by
    rw [List.length_cons, length_checkedBits, plainLength]
    omega
  unfold checkAgrees
  rw [hf]
  dsimp only
  rw [Envelope.plainBits, List.drop_left' hl, List.take_left' hl, List.drop_one, List.tail_cons, valueOf_bitsOf,
    Nat.mod_eq_of_lt (crcBits m.checkedBits).isLt]
  exact decide_eq_true rfl

/-- The fields of a message are read back from its bits. -/
theorem envelopeOf_plainBits {m : Envelope} (h : m.payload.length ≤ 12) : envelopeOf m.plainBits = m := by
  have arb : valueOf ((m.plainBits.drop 1).take 12) = m.arbitration := by
    rw [plainBits_eq, List.drop_one, List.tail_cons, List.take_left' (length_bitsOf ..), valueOf_bitsOf,
      Nat.mod_eq_of_lt (arbitration_lt m)]
  have payload : bytesOfBits m.payload.length (m.plainBits.drop 17) = m.payload := by
    rw [plainBits_eq, List.drop_succ_cons, List.drop_append, List.drop_of_length_le (by simp), length_bitsOf,
      List.nil_append, Envelope.bitsAfterArbitration, List.drop_left' (length_bitsOf ..), bytesOfBits_bitsOfBytes]
  have hc := m.cls.isLt
  have hk := m.kind.isLt
  have ho := m.origin.isLt
  unfold envelopeOf
  rw [arb, lengthField_plainBits h, payload]
  dsimp only
  have cls : BitVec.ofNat 2 (m.arbitration / 1024) = m.cls := by
    refine BitVec.eq_of_toNat_eq ?_
    rw [BitVec.toNat_ofNat, Envelope.arbitration]
    omega
  have kind : BitVec.ofNat 4 (m.arbitration / 64) = m.kind := by
    refine BitVec.eq_of_toNat_eq ?_
    rw [BitVec.toNat_ofNat, Envelope.arbitration]
    omega
  have origin : Fin.ofNat 64 m.arbitration = m.origin := by
    refine Fin.ext ?_
    rw [Fin.val_ofNat, Envelope.arbitration]
    omega
  rw [cls, kind, origin]

/-- Settles O21: the inserted bits are left out, the check agrees, and the closing fields bring the message. -/
theorem wireRoundTrip : Obligations.WireRoundTrip := by
  intro m h
  have body := foldl_take_insertBits m.plainBits (value := true) (run := 0) (got := []) (complete_plainBits h)
    (by rw [plainBits_eq]; exact List.cons_ne_nil _ _) (by decide)
  rw [Rx.run, Envelope.wireBits, List.foldl_append, Rx.begin, body, List.reverse_nil, List.nil_append,
    envelopeOf_plainBits h, foldl_take_closing]

end Sys2Proof.Machine

end

section
/-! SUPPORT. The number held and the peer table: what reads and writes of entries answer, which commands touch neither, and
R37, which every step keeps. -/

namespace Sys2Proof.Machine

open Sys2Proof

/-! ## One entry of a vector -/

theorem get_set_same {α : Type} {n : Nat} (v : Vector α n) (i : Fin n) (x : α) : (v.set i.val x i.isLt).get i = x := by
  simp [Vector.get_eq_getElem]

theorem get_set_of_ne {α : Type} {n : Nat} (v : Vector α n) {i j : Fin n} (h : j ≠ i) (x : α) :
    (v.set i.val x i.isLt).get j = v.get j := by
  simpa [Vector.get_eq_getElem] using Vector.getElem_set_ne i.isLt j.isLt (by omega)

/-! ## What touches neither the number unit nor the peer table -/

/-- The number unit and the peer table are as they were. -/
structure NumberAlike (s t : State) : Prop where
  number : t.number = s.number := by rfl
  peers : t.peers = s.peers := by rfl

theorem NumberAlike.refl (s : State) : NumberAlike s s := {}

theorem NumberAlike.trans {a b c : State} (h : NumberAlike a b) (k : NumberAlike b c) : NumberAlike a c :=
  ⟨k.number.trans h.number, k.peers.trans h.peers⟩

theorem LanesAndFetch.numberAlike {s t : State} (h : LanesAndFetch s t) : NumberAlike s t := ⟨h.number, h.peers⟩

theorem OnlyFetch.numberAlike {s t : State} (h : OnlyFetch s t) : NumberAlike s t := (LanesAndFetch.ofFetch h).numberAlike

theorem LinkAndLanes.numberAlike {s t : State} (h : LinkAndLanes s t) : NumberAlike s t := ⟨h.number, h.peers⟩

theorem TimerAndLink.numberAlike {s t : State} (h : TimerAndLink s t) : NumberAlike s t := ⟨h.number, h.peers⟩

theorem PinsAndLanes.numberAlike {s t : State} (h : PinsAndLanes s t) : NumberAlike s t := ⟨h.number, h.peers⟩

theorem advanceTo_numberAlike (s : State) (now : Stamp) : NumberAlike s (s.advanceTo now) :=
  ⟨advanceTo_number .., advanceTo_peers ..⟩

theorem wallEdge_numberAlike (s : State) (c : Config) : NumberAlike s (s.wallEdge c) := by
  have h := wallEdge_frame s c s.ingest s.wall
  exact ⟨by simpa using congrArg State.number h, by simpa using congrArg State.peers h⟩

theorem flushEdge_numberAlike (s : State) : NumberAlike s s.flushEdge := ⟨setIngest_number .., setIngest_peers ..⟩

theorem outputEdge_numberAlike (s : State) (c : Config) : NumberAlike s (s.outputEdge c) :=
  ⟨setOutput_number .., setOutput_peers ..⟩

theorem budgetEdge_numberAlike (s : State) (c : Config) : NumberAlike s (s.budgetEdge c) :=
  ⟨setBudget_number .., setBudget_peers ..⟩

theorem reportEdge_numberAlike (s : State) (c : Config) (own : Option Station) : NumberAlike s (s.reportEdge c own) := by
  have h := reportEdge_frame s c own s.link
  exact ⟨by simpa using congrArg State.number h, by simpa using congrArg State.peers h⟩

theorem takePacket_numberAlike (s : State) (p : RowPacket) : NumberAlike s (s.takePacket p) := by
  have h := takePacket_frame s p s.ingest
  exact ⟨by simpa using congrArg State.number h, by simpa using congrArg State.peers h⟩

theorem askRead_numberAlike (s : State) : NumberAlike s s.askRead := by
  have h := askRead_frame s s.startup s.fetch
  exact ⟨by simpa using congrArg State.number h, by simpa using congrArg State.peers h⟩

theorem raiseRequest_numberAlike (s : State) : NumberAlike s s.raiseRequest := by
  have risen : NumberAlike s (s.setFetch { s.fetch with loaderRequest := true }) := {}
  unfold State.raiseRequest
  dsimp only
  repeat' split
  · exact {}
  · exact risen.trans (choosePort_frame _).numberAlike
  · exact risen

theorem endGrant_numberAlike (s : State) (writes : List (Nat × Byte)) : NumberAlike s (s.endGrant writes) := by
  unfold State.endGrant
  dsimp only
  split <;> exact {}

theorem endRead_numberAlike (s : State) : NumberAlike s s.endRead :=
  .trans (b := (s.setStartup { s.startup with readAsked := false }).setFetch { s.fetch with port := .none }) {}
    (choosePort_frame _).numberAlike

/-- R39: a new leader is looked for in the entries, which stay as they are. -/
theorem loseLeader_numberAlike (s : State) (n : Station) : NumberAlike s (s.loseLeader n) := by
  unfold State.loseLeader
  repeat' split
  · exact {}
  · exact .trans (lockEdge_frame s _).numberAlike (.trans (onAged_timer _ _ roleEdge_frame).numberAlike {})
  · exact {}
  · exact {}

/-- R44: of the blocks that take an edge only the number unit works on the number and on the peer table. -/
theorem blocksEdge_numberAlike (s : State) (c : Config) (pins : BitVec 8) (first : Bool) :
    NumberAlike (if first then s.triggerQueueEdge else s.triggerQueueEdge.numberEdge) (s.blocksEdge c pins first) := by
  unfold State.blocksEdge
  dsimp only
  refine .trans ?_ (reportEdge_numberAlike _ c _)
  refine .trans ?_ (pinsEdge_frame _ c pins).numberAlike
  refine .trans ?_ (budgetEdge_numberAlike _ c)
  refine .trans ?_ (outputEdge_numberAlike _ c)
  refine .trans ?_ (lanesEdge_frame _ c).numberAlike
  refine .trans ?_ (fetchEdge_frame _ c).numberAlike
  refine .trans ?_ (wallEdge_numberAlike _ c)
  exact flushEdge_numberAlike _

/-- The commands that reach the number unit or the peer table: resets and restarts, the end of the configuration read,
messages received and sent, a claim lost, and the work of an edge on numbers and peers. -/
def reachesNumbers : Instr → Bool
  | .resetRelease _ | .linkJoin | .attemptStart _ | .arbitrationLoss | .linkFault _ _ | .detachedRecovery _ | .staleBeacon
  | .triggerExpired | .startEnd | .lockQuietLoss | .wallHeld | .limitStepUp | .triggerQualified _ | .referencePulse _
  | .referenceTimeout | .rowArrival _ | .rowCommit | .railSample _ _ _ | .fetchComplete | .fetchTimeout _
  | .loaderRequest | .loaderRelease _ => false
  | _ => true

theorem execLinkFault_numberAlike (k : LinkFaultKind) (phase : SignalPhase) (s : State) :
    ∃ t, execLinkFault k phase s = .next t ∧ NumberAlike s t := by
  refine ⟨_, rfl, ?_⟩
  split
  · exact .trans (b := s.setLink { s.link with lastFault := FaultCode.ofKind k }) {} <|
      .trans (attemptFailed_frame _).numberAlike <| .trans (countFault_frame ..).numberAlike {}
  · exact {}

theorem execReferencePulse_numberAlike (now : Stamp) (s : State) :
    ∃ t, execReferencePulse now s = .next t ∧ NumberAlike s t := by
  refine ⟨_, rfl, .trans (advanceTo_numberAlike s now) ?_⟩
  generalize s.advanceTo now = t
  split
  · exact {}
  · dsimp only
    repeat' split
    all_goals exact {}

theorem execLoaderRelease_numberAlike (drop : LoaderDrop) (s : State) :
    ∃ t, execLoaderRelease drop s = .next t ∧ NumberAlike s t := by
  have ended (t : State) (b : Bool) : NumberAlike t (if b = true then t.endGrant drop.writes else t) := by
    split
    · exact endGrant_numberAlike ..
    · exact {}
  have chosen (t : State) (b : Bool) : NumberAlike t
      (if drop.risesAgain = true then t.raiseRequest else if b && decide (t.startup.phase ≠ .reset) then t.choosePort
       else t) := by
    repeat' split
    · exact raiseRequest_numberAlike t
    · exact (choosePort_frame t).numberAlike
    · exact {}
  exact ⟨_, rfl, .trans (b := s.setFetch { s.fetch with loaderRequest := false }) {}
    (.trans (ended _ s.fetch.grant) (chosen _ s.fetch.grant))⟩

/-- Every other command leaves the number unit and the peer table. -/
theorem exec_numberAlike (c : Instr) (hc : reachesNumbers c = false) (s : State) :
    ∃ t, exec c s = .next t ∧ NumberAlike s t := by
  cases c with
  | resetRelease by_ =>
    refine ⟨_, rfl, ?_⟩
    dsimp only
    repeat' split
    · exact {}
    · exact .trans (b := (State.setTick _ 0).setFetch _ |>.setStartup _) {} (askRead_numberAlike _)
    · exact {}
  | linkJoin =>
    refine ⟨_, rfl, ?_⟩
    split <;> exact {}
  | attemptStart now =>
    refine ⟨_, rfl, .trans (advanceTo_numberAlike s now) ?_⟩
    split <;> exact {}
  | arbitrationLoss => exact ⟨_, rfl, (attemptFailed_frame s).numberAlike⟩
  | linkFault kind phase => exact execLinkFault_numberAlike kind phase s
  | detachedRecovery levels =>
    refine ⟨_, rfl, ?_⟩
    dsimp only
    repeat' split
    all_goals exact {}
  | staleBeacon =>
    refine ⟨_, rfl, ?_⟩
    split <;> exact {}
  | triggerExpired =>
    refine ⟨_, rfl, ?_⟩
    split <;> exact {}
  | startEnd =>
    refine ⟨_, rfl, ?_⟩
    repeat' split
    · exact {}
    · exact .trans (onAged_timer s _ fun t => endStart_frame t _).numberAlike {}
    · exact {}
    · exact {}
  | lockQuietLoss =>
    refine ⟨_, rfl, ?_⟩
    repeat' split
    all_goals exact {}
  | wallHeld =>
    refine ⟨_, rfl, ?_⟩
    repeat' split
    all_goals exact {}
  | limitStepUp =>
    refine ⟨_, rfl, ?_⟩
    repeat' split
    all_goals exact {}
  | triggerQualified e =>
    refine ⟨_, rfl, ?_⟩
    repeat' split
    · exact .trans (samplePins_frame ..).numberAlike {}
    · exact {}
    · exact {}
  | referencePulse now => exact execReferencePulse_numberAlike now s
  | referenceTimeout =>
    refine ⟨_, rfl, ?_⟩
    split
    · exact {}
    · split
      · exact {}
      · exact .trans (advanceTo_numberAlike ..) {}
  | rowArrival levels =>
    exact ⟨_, rfl, .trans (b := s.setPixelPort (s.pixelPort.run levels).1) {}
      (foldl_frame NumberAlike _ .refl (fun _ _ _ => .trans) takePacket_numberAlike _ _)⟩
  | rowCommit =>
    refine ⟨_, rfl, ?_⟩
    split <;> exact {}
  | railSample tile fixture ahead =>
    refine ⟨_, rfl, ?_⟩
    split <;> exact {}
  | fetchComplete => exact ⟨_, rfl, (completeFetch_frame s).numberAlike⟩
  | fetchTimeout lane =>
    refine ⟨_, rfl, ?_⟩
    split
    · exact (timeOut_frame ..).numberAlike
    · exact {}
  | loaderRequest => exact ⟨_, rfl, raiseRequest_numberAlike s⟩
  | loaderRelease drop => exact execLoaderRelease_numberAlike drop s
  | _ => cases hc

end Sys2Proof.Machine

end

section
/-! SUPPORT. R37: no step brings an entry for the number the node holds. -/

namespace Sys2Proof.Machine

open Sys2Proof

/-- R37 holds after as it did before. -/
structure OwnKept (s t : State) : Prop where
  own : s.OwnEntryAbsent → t.OwnEntryAbsent

theorem OwnKept.refl (s : State) : OwnKept s s := ⟨id⟩

theorem OwnKept.trans {a b c : State} (h : OwnKept a b) (k : OwnKept b c) : OwnKept a c := ⟨k.own ∘ h.own⟩

/-! ## Three reasons why R37 is kept -/

/-- No entry comes to stand, and the number held is the same. -/
theorem ownKept_of_held {s t : State} (hn : t.heldNumber = s.heldNumber)
    (hp : ∀ n, s.peers.get n = none → t.peers.get n = none) : OwnKept s t :=
  ⟨fun hs n h => hp n (hs n (hn ▸ h))⟩

/-- No number is held. -/
theorem ownKept_of_none {s t : State} (h : t.heldNumber = none) : OwnKept s t :=
  ⟨fun _ n hn => by rw [h] at hn; cases hn⟩

/-- The entry of the number taken is cleared. -/
theorem ownKept_of_cleared {s t : State} {n : Station} (h : t.heldNumber = some n)
    (hp : t.peers = s.peers.set n.val none n.isLt) : OwnKept s t := by
  refine ⟨fun _ k hk => ?_⟩
  rw [h] at hk
  cases hk
  rw [hp, get_set_same]

theorem NumberAlike.heldNumber {s t : State} (h : NumberAlike s t) : t.heldNumber = s.heldNumber := by
  unfold State.heldNumber
  rw [h.number]

theorem NumberAlike.ownKept {s t : State} (h : NumberAlike s t) : OwnKept s t :=
  ownKept_of_held h.heldNumber fun n hn => by rw [h.peers, hn]

/-! ## The number unit -/

/-- R27: after a choice of candidate no number is held. -/
theorem chooseCandidate_heldNumber (s : State) : s.chooseCandidate.heldNumber = none := by
  unfold State.chooseCandidate
  split <;> rfl

theorem endClaim_own (s : State) (c : Station) : OwnKept s (s.endClaim c) :=
  ownKept_of_none (chooseCandidate_heldNumber _)

theorem yieldNumber_own (s : State) (n : Station) : OwnKept s (s.yieldNumber n) :=
  ownKept_of_none ((flushTriggers_frame _).heldNumber.trans (chooseCandidate_heldNumber _))

theorem enterHolding_own (s : State) (n : Station) : OwnKept s (s.enterHolding n) := ownKept_of_cleared rfl rfl

theorem defend_own (s : State) (n : Station) : OwnKept s (s.defend n) := by
  unfold State.defend
  dsimp only
  split <;> exact ownKept_of_held rfl fun _ h => h

theorem hearOrigin_own (s : State) (o : Station) (isClaim : Bool) : OwnKept s (s.hearOrigin o isClaim) := by
  unfold State.hearOrigin
  repeat' split
  · exact ownKept_of_held rfl fun _ h => h
  · exact .refl s
  · exact yieldNumber_own ..
  · exact .refl s
  · exact endClaim_own ..
  · exact .refl s
  · exact .refl s

theorem hearClaim_own (s : State) (o : Station) (x : BitVec 32) : OwnKept s (s.hearClaim o x) := by
  unfold State.hearClaim
  repeat' split
  · exact endClaim_own ..
  · exact .refl s
  · exact yieldNumber_own ..
  · exact defend_own ..
  · exact .refl s
  · exact .refl s
  · exact .refl s

theorem claimLost_own (s : State) (n : Station) : OwnKept s (s.claimLost n) := by
  unfold State.claimLost
  repeat' split
  · exact endClaim_own ..
  · exact .refl s
  · exact yieldNumber_own ..
  · exact .refl s
  · exact .refl s

theorem ownClaimSent_own (s : State) (n : Station) : OwnKept s (s.ownClaimSent n) := by
  unfold State.ownClaimSent
  repeat' split
  · exact ownKept_of_none rfl
  · exact .refl s
  · exact .refl s

/-- R32: the end of a duplicate condition leaves the number held. -/
theorem setDuplicate_own (s : State) (d : Bool) (q : Nat) :
    OwnKept s (s.setNumber { s.number with duplicate := d, duplicateQuiet := q }) :=
  ownKept_of_held rfl fun _ h => h

/-- R26 to R33: at an edge a number is taken at the end of a claim window alone, and its entry cleared. -/
theorem numberEdge_own (s : State) : OwnKept s s.numberEdge := by
  unfold State.numberEdge
  split
  · exact .refl s
  · cases s.number.numbering with
    | stopped => exact .refl s
    | fixed n =>
      dsimp only
      repeat' split
      · exact setDuplicate_own ..
      · exact ownKept_of_held rfl fun _ h => h
      · exact .refl s
    | listen k =>
      dsimp only
      split
      · exact ownKept_of_none (chooseCandidate_heldNumber s)
      · exact ownKept_of_none rfl
    | claiming c window =>
      cases window with
      | none => exact .refl s
      | some w =>
        dsimp only
        split
        · exact enterHolding_own ..
        · exact ownKept_of_none rfl
    | holding n => exact .refl s
    | numberless =>
      dsimp only
      split
      · exact ownKept_of_none rfl
      · exact .refl s

/-- R25, R36: a number held from a start on has its entry cleared. -/
theorem startNumber_own (s : State) (c : Config) : OwnKept s (s.startNumber c) := by
  unfold State.startNumber
  dsimp only
  repeat' split
  · exact ownKept_of_cleared rfl rfl
  · exact ownKept_of_cleared rfl rfl
  · exact ownKept_of_none rfl
  · exact ownKept_of_none rfl

/-! ## The peer table -/

/-- R37, R38: the number held is not entered. -/
theorem hearPeer_own (s : State) (o : Station) (sync : Option SyncFields) : OwnKept s (s.hearPeer o sync) := by
  by_cases h : s.heldNumber = some o
  · rw [hearPeer_of_held h]
    exact .refl s
  · rw [hearPeer_of_entered h]
    refine ⟨fun hs n hn => ?_⟩
    have hne : n ≠ o := fun e => h (e ▸ hn)
    exact (get_set_of_ne _ hne _).trans (hs n hn)

/-- R38: a role is written into an entry that stands. -/
theorem hearStatusRole_own (s : State) (o : Station) (r : Role) : OwnKept s (s.hearStatusRole o r) := by
  unfold State.hearStatusRole
  split
  · rename_i p hp
    refine ownKept_of_held rfl fun n hn => (get_set_of_ne _ (fun e => ?_) _).trans hn
    rw [e, hp] at hn
    cases hn
  · exact .refl s

theorem ageOut_own (s : State) (n : Station) : OwnKept s (s.ageOut n) := by
  refine ownKept_of_held rfl fun k hk => ?_
  by_cases h : k = n
  · exact h ▸ get_set_same ..
  · exact (get_set_of_ne _ h _).trans hk

/-- R39: the counts of an entry that stands rise, or it is gone. -/
theorem agePeer_own (limit : Nat) (s : State) (n : Station) : OwnKept s (s.agePeer limit n) := by
  unfold State.agePeer
  split
  · exact .refl s
  · rename_i p hp
    split
    · exact ageOut_own s n
    · refine ownKept_of_held rfl fun k hk => (get_set_of_ne _ (fun e => ?_) _).trans hk
      rw [e, hp] at hk
      cases hk

theorem agePeers_own (s : State) (c : Config) : OwnKept s (s.agePeers c) :=
  foldl_frame OwnKept _ .refl (fun _ _ _ => .trans) (agePeer_own c.ageLimit) _ s

/-! ## Delivery -/

theorem firstStep_own (s : State) (m : LinkMessage) (sync : Option SyncFields) (isClaim : Bool) :
    OwnKept s (s.firstStep m sync isClaim) := by
  have heard : OwnKept s ((s.advanceTo m.stamp).setLink (s.advanceTo m.stamp).link.countReceived) :=
    (advanceTo_numberAlike s m.stamp).ownKept.trans (NumberAlike.ownKept {})
  exact heard.trans (.trans (hearPeer_own ..) (hearOrigin_own ..))

theorem receive_own (s : State) (k : MessageKind) (m : LinkMessage) {consumer : State → Option Station → State}
    (h : ∀ t own, OwnKept t (consumer t own)) : OwnKept s (s.receive k m consumer) := by
  unfold State.receive
  dsimp only
  split
  · split
    · exact .trans (firstStep_own ..) (h ..)
    · exact .trans (firstStep_own s m _ _) (NumberAlike.ownKept {})
  · exact .refl s

/-- R188: a warm restart stops the number unit. -/
theorem takeRestart_own (s : State) (own : Option Station) (target : Nat) : OwnKept s (s.takeRestart own target) := by
  have stopped : s.warmRestart.heldNumber = none := (askRead_numberAlike _).heldNumber
  unfold State.takeRestart
  repeat' split
  · exact .refl s
  · exact ownKept_of_none stopped
  · exact NumberAlike.ownKept {}
  · exact .refl s

theorem takeQuery_numberAlike (s : State) (own : Option Station) (o : Station) (q : QueryFields) :
    NumberAlike s (s.takeQuery own o q) := by
  unfold State.takeQuery
  dsimp only
  repeat' split
  all_goals exact {}

theorem selfReceive_own (s : State) (a : Attempt) (head : Option CueMessage) : OwnKept s (s.selfReceive a head) := by
  unfold State.selfReceive
  repeat' split
  · exact (ownSyncSent_frame ..).numberAlike.ownKept
  · exact ownClaimSent_own ..
  · exact NumberAlike.ownKept {}
  · exact NumberAlike.ownKept {}
  · exact .refl s
  · exact (deliverCue_frame ..).numberAlike.ownKept
  · exact .refl s

/-! ## Edges, starts and resets -/

theorem blocksEdge_own (s : State) (c : Config) (pins : BitVec 8) (first : Bool) :
    OwnKept s (s.blocksEdge c pins first) := by
  refine .trans ?_ (blocksEdge_numberAlike s c pins first).ownKept
  have queued : OwnKept s s.triggerQueueEdge := NumberAlike.ownKept {}
  split
  · exact queued
  · exact queued.trans (numberEdge_own _)

theorem edge_own (s : State) (c : Config) (pins : BitVec 8) : OwnKept s (s.edge c pins) := by
  have handed (t : State) : OwnKept t (if t.isRunning = true then t.blocksEdge c pins false else t) := by
    split
    · exact blocksEdge_own ..
    · exact .refl t
  have cleared (t : State) : OwnKept t (t.setAhead Ahead.none) := NumberAlike.ownKept {}
  unfold State.edge
  dsimp only
  refine .trans ?_ (cleared _)
  exact .trans (agePeers_own s c) (.trans (timerEdge_frame _).numberAlike.ownKept (handed _))

/-- R180: in RESET the number unit is stopped. -/
theorem toReset_own (s : State) (pin supply : Bool) : OwnKept s (s.toReset pin supply) :=
  ownKept_of_none (t := s.toReset pin supply) rfl

/-- R184: the first edge after a start counts nothing in the number unit (R26). -/
theorem pass_own (s : State) (c : Config) (now : Stamp) (pins : BitVec 8) : OwnKept s (s.pass c now pins) := by
  have emptied : OwnKept s s.peersAtPass := by
    unfold State.peersAtPass
    split
    · exact ownKept_of_held rfl fun n _ => Vector.get_replicate ..
    · exact .refl s
  have begun (t : State) : OwnKept t ((t.setStartup (t.startup.pass c)).startBlocks c) := NumberAlike.ownKept {}
  have continued (t : State) (r : TimerRun) : NumberAlike t (t.continueTimer r c) := by
    unfold State.continueTimer
    split <;> exact {}
  have started (t : State) : OwnKept t (t.startTimer c now pins) := by
    unfold State.startTimer
    dsimp only
    refine .trans ?_ (NumberAlike.ownKept ⟨setAhead_number .., setAhead_peers ..⟩)
    exact .trans (NumberAlike.ownKept ⟨setTimer_number .., setTimer_peers ..⟩) (blocksEdge_own _ c pins true)
  unfold State.pass
  dsimp only
  refine .trans (emptied.trans ((begun _).trans (startNumber_own _ c))) ?_
  split
  · exact (continued _ _).ownKept
  · exact started _

theorem execConfigReadEnd_own (now : Stamp) (pins : BitVec 8) (s : State) :
    ∃ t, execConfigReadEnd now pins s = .next t ∧ OwnKept s t := by
  refine ⟨_, rfl, ?_⟩
  dsimp only
  have read : OwnKept s (s.advanceTo now).endRead :=
    ((advanceTo_numberAlike s now).trans (endRead_numberAlike _)).ownKept
  split
  · split
    · exact read.trans (pass_own ..)
    · exact ownKept_of_none rfl
  · exact .refl s

theorem execPeerAgeOut_own (n : Station) (s : State) : ∃ t, execPeerAgeOut n s = .next t ∧ OwnKept s t := by
  have retried (t : State) : OwnKept t (t.retryNumber n) := by
    unfold State.retryNumber
    split
    · exact ownKept_of_none rfl
    · exact .refl t
  refine ⟨_, rfl, ?_⟩
  split
  · exact .trans (ageOut_own s n) (.trans (loseLeader_numberAlike _ n).ownKept (retried _))
  · exact .refl s

/-- R44: the candidate is chosen on the aged entries, which FRAME_EDGE is yet to write. -/
theorem onAged_chooseCandidate_heldNumber (s : State) : (s.onAged State.chooseCandidate).heldNumber = none := by
  unfold State.onAged
  split
  · exact chooseCandidate_heldNumber s
  · rw [setTriggers_heldNumber, setPeers_heldNumber]
    exact chooseCandidate_heldNumber _

/-! ## Every command -/

/-- Every command answers a next state with R37 kept. -/
theorem exec_own (c : Instr) (s : State) : ∃ t, exec c s = .next t ∧ OwnKept s t := by
  have untouched (hc : reachesNumbers c = false) : ∃ t, exec c s = .next t ∧ OwnKept s t :=
    let ⟨t, ht, h⟩ := exec_numberAlike c hc s
    ⟨t, ht, h.ownKept⟩
  cases c with
  | coldReset by_ => cases by_ <;> exact ⟨_, rfl, toReset_own ..⟩
  | configReadEnd now pins => exact execConfigReadEnd_own now pins s
  | claimLoss =>
    refine ⟨_, rfl, ?_⟩
    repeat' split
    · exact .trans (attemptFailed_frame s).numberAlike.ownKept (claimLost_own ..)
    · exact .refl s
    · exact .refl s
  | messageSent =>
    refine ⟨_, rfl, ?_⟩
    split
    · exact .refl s
    · exact .trans (NumberAlike.ownKept ⟨setLink_number .., setLink_peers ..⟩) (selfReceive_own ..)
  | syncReceived m => exact ⟨_, rfl, receive_own s _ m fun _ _ => (takeSync_frame ..).numberAlike.ownKept⟩
  | claimReceived m => exact ⟨_, rfl, receive_own s _ m fun _ _ => hearClaim_own ..⟩
  | goReceived m => exact ⟨_, rfl, receive_own s _ m fun _ _ => (deliverCue_frame ..).numberAlike.ownKept⟩
  | holdReceived m => exact ⟨_, rfl, receive_own s _ m fun _ _ => (deliverCue_frame ..).numberAlike.ownKept⟩
  | releaseReceived m => exact ⟨_, rfl, receive_own s _ m fun _ _ => (deliverCue_frame ..).numberAlike.ownKept⟩
  | tallyReceived m => exact ⟨_, rfl, receive_own s _ m fun _ _ => NumberAlike.ownKept {}⟩
  | queryReceived m => exact ⟨_, rfl, receive_own s _ m fun _ _ => (takeQuery_numberAlike ..).ownKept⟩
  | answerReceived m => exact ⟨_, rfl, receive_own s _ m fun t _ => .refl t⟩
  | statusReceived m =>
    refine ⟨_, rfl, receive_own s _ m fun t _ => ?_⟩
    split
    · exact .refl t
    · exact hearStatusRole_own ..
  | unknownMessageReceived cls kind m =>
    refine ⟨_, rfl, ?_⟩
    split
    · exact firstStep_own ..
    · exact .refl s
  | restartReceived m => exact ⟨_, rfl, receive_own s _ m fun t own => takeRestart_own t own _⟩
  | frameEdge pins =>
    refine ⟨_, rfl, ?_⟩
    split
    · exact edge_own ..
    · exact .refl s
  | candidateChoice =>
    refine ⟨_, rfl, ?_⟩
    repeat' split
    · exact ownKept_of_none (onAged_chooseCandidate_heldNumber s)
    · exact .refl s
    · exact .refl s
  | claimWindowEnd =>
    refine ⟨_, rfl, ?_⟩
    repeat' split
    · exact .trans (enterHolding_own s _) (NumberAlike.ownKept {})
    · exact .refl s
    · exact .refl s
  | duplicateClear =>
    refine ⟨_, rfl, ?_⟩
    split
    · exact setDuplicate_own ..
    · exact .refl s
  | peerAgeOut n => exact execPeerAgeOut_own n s
  | _ => exact untouched rfl

/-- Settles O57: a tick touches neither number nor entry, and every command keeps R37. -/
theorem ownEntryStaysAbsent : Obligations.OwnEntryStaysAbsent := by
  intro s t hs h
  unfold step at h
  split at h
  · cases h
    unfold State.idle
    split
    · exact hs
    · exact (NumberAlike.ownKept {}).own hs
  · rename_i c rest _
    obtain ⟨u, hu, hk⟩ := exec_own c (s.setPending rest)
    rw [hu] at h
    cases h
    exact hk.own hs

end Sys2Proof.Machine

end

section
/-! SUPPORT. What a cold reset leaves. -/

namespace Sys2Proof.Machine

open Sys2Proof

open Vector (get_replicate)

/-! ## The state after reset -/

/-- Settles O5: the reset tables, item by item; every table of channels, lanes, cameras and entries holds one value. -/
theorem resetState : Obligations.ResetState := by
  refine ⟨⟨rfl, rfl, rfl, rfl, rfl, rfl, rfl, rfl, rfl, rfl⟩, ?link, ?numbers, ?ingest, fun k => ?zones, fun k => ?tiles,
    ?wall, ?fetch, fun i => ?lane, ?lanes, ?output, fun i => ?pins, rfl, rfl, rfl, rfl, rfl⟩
  case link => exact ⟨rfl, rfl, rfl, rfl, rfl, rfl, rfl, rfl, rfl, rfl, rfl, rfl, rfl, rfl, rfl, rfl⟩
  case numbers => exact ⟨rfl, rfl, rfl, rfl, rfl, fun n => get_replicate .., rfl, rfl⟩
  case ingest => exact ⟨rfl, rfl, rfl, rfl, rfl, fun k => ⟨get_replicate .., get_replicate ..⟩⟩
  case zones => exact ⟨get_replicate .., get_replicate .., get_replicate ..⟩
  case tiles => exact ⟨get_replicate .., get_replicate ..⟩
  case wall => exact ⟨rfl, rfl, rfl, rfl, rfl, rfl, rfl, rfl, rfl⟩
  case fetch => exact ⟨rfl, rfl, rfl, rfl, rfl, rfl, rfl⟩
  case lane =>
    have unbound : State.reset.lanes.lanes.get i = Lane.initial none := by
      simp [State.reset, State.inReset, LaneEngine.initial, Vector.get_eq_getElem]
    rw [unbound]
    exact ⟨rfl, rfl, rfl, rfl, fun ch => get_replicate .., get_replicate .., get_replicate ..⟩
  case lanes => exact ⟨rfl, fun ch => ⟨get_replicate .., get_replicate .., get_replicate ..⟩⟩
  case output => exact ⟨rfl, rfl, rfl, rfl, rfl, rfl, rfl, rfl⟩
  case pins =>
    have off : State.reset.triggers.cameras.get i = ⟨false, none⟩ := get_replicate ..
    rw [off]
    exact ⟨rfl, rfl, get_replicate .., get_replicate ..⟩

/-- R1, R25: after reset the number unit is stopped and the link controller at rest. -/
theorem resting_reset : Resting State.reset := ⟨rfl, rfl, rfl, rfl, rfl, rfl, rfl, rfl, rfl, rfl, rfl, rfl⟩

/-- Settles O6: stores and queues are empty, nothing is held or configured, and no edge is labelled. -/
theorem resetIsSound : Obligations.ResetIsSound := by
  refine ⟨?memory, ?link, resting_reset.heldSound, ?own, ?port, ?rows, ?timer, ?budget, ?labels⟩
  case memory => exact ⟨rfl, rfl, rfl⟩
  case link => exact ⟨Nat.zero_le _, Nat.zero_le _, Nat.zero_le _⟩
  case own => exact fun n _ => get_replicate ..
  case port => exact ⟨by decide, by decide, List.nodup_nil⟩
  case rows => exact ⟨Nat.zero_le _, fun _ => rfl⟩
  case timer => exact fun r hr => nomatch hr
  case budget => exact fun c hc => nomatch hc
  case labels => exact ⟨Nat.le_refl _, Nat.le_refl _, Nat.le_refl _, Nat.le_refl _, Nat.le_refl _⟩

end Sys2Proof.Machine

end

section
/-! SUPPORT. Which pending messages the numbering state lets contend (Table 3-2). -/

namespace Sys2Proof.Machine

open Sys2Proof

/-- R16, R34: a message is eligible when its slot may contend and holds it, filled. -/
theorem mem_eligible {s : State} {now : Stamp} {slot : SlotName} {m : Envelope} :
    (slot, m) ∈ s.eligible now ↔
      s.number.numbering.lets slot = true ∧ s.link.filled s.heldNumber now slot = some m := by
  have all : slot ∈ [SlotName.sync, .claim, .tally, .status, .answer, .trigger] := by cases slot <;> decide
  unfold State.eligible
  rw [List.mem_filterMap]
  constructor
  · rintro ⟨x, -, hx⟩
    split at hx
    · obtain ⟨y, hy, he⟩ := Option.map_eq_some_iff.mp hx
      cases he
      exact ⟨‹_›, hy⟩
    · cases hx
  · rintro ⟨hl, hm⟩
    exact ⟨slot, all, by rw [if_pos hl, hm]; rfl⟩

/-- R34: no message is eligible where no slot may contend. -/
theorem eligible_eq_nil {s : State} (h : ∀ slot, s.number.numbering.lets slot = false) (now : Stamp) :
    s.eligible now = [] := by
  refine List.eq_nil_iff_forall_not_mem.mpr fun ⟨slot, m⟩ hm => ?_
  rw [mem_eligible, h] at hm
  cases hm.1

/-- R17: a CLAIM goes out with its candidate as origin, and with the serial. -/
theorem claim_mem_eligible {s : State} {b : ClaimBody} (hl : s.number.numbering.lets .claim = true)
    (hb : s.link.claim.pending = some b) (now : Stamp) :
    (SlotName.claim, envelope .claim b.candidate (toBytes 4 b.serial.toNat)) ∈ s.eligible now :=
  mem_eligible.mpr ⟨hl, by rw [Link.filled, hb]; rfl⟩

/-- R17: every other message goes out with the number held as origin. -/
theorem origin_of_filled {l : Link} {n : Station} {now : Stamp} {slot : SlotName} {m : Envelope} (hs : slot ≠ .claim)
    (h : l.filled (some n) now slot = some m) : m.origin = n := by
  cases slot with
  | claim => exact absurd rfl hs
  | sync => obtain ⟨b, -, rfl⟩ := Option.map_eq_some_iff.mp h; rfl
  | tally => obtain ⟨b, -, rfl⟩ := Option.map_eq_some_iff.mp h; rfl
  | status => obtain ⟨b, -, rfl⟩ := Option.map_eq_some_iff.mp h; rfl
  | answer => obtain ⟨b, -, rfl⟩ := Option.map_eq_some_iff.mp h; rfl
  | trigger => obtain ⟨b, -, rfl⟩ := Option.map_eq_some_iff.mp h; rfl

/-- The messages eligible while the number `n` is held: every pending one, each but a CLAIM with `n` as
origin. -/
structure State.EveryPendingContends (s : State) (now : Stamp) (n : Station) : Prop where
  origin : ∀ x ∈ s.eligible now, x.1 ≠ .claim → x.2.origin = n
  sync : ∀ b, s.link.sync.pending = some b → ∃ m, (SlotName.sync, m) ∈ s.eligible now
  claim : ∀ b, s.link.claim.pending = some b → ∃ m, (SlotName.claim, m) ∈ s.eligible now ∧ m.origin = b.candidate
  tally : ∀ b, s.link.tally.pending = some b → ∃ m, (SlotName.tally, m) ∈ s.eligible now
  status : ∀ b, s.link.status.pending = some b → ∃ m, (SlotName.status, m) ∈ s.eligible now
  answer : ∀ b, s.link.answer.pending = some b → ∃ m, (SlotName.answer, m) ∈ s.eligible now
  trigger : ∀ b rest, s.link.triggers = b :: rest → ∃ m, (SlotName.trigger, m) ∈ s.eligible now

/-- R34, Table 3-2: in FIXED and HOLDING every slot may contend. -/
theorem everyPendingContends {s : State} {n : Station} (hl : ∀ slot, s.number.numbering.lets slot = true)
    (hn : s.heldNumber = some n) (now : Stamp) : s.EveryPendingContends now n where
  origin := fun ⟨slot, m⟩ hm hs => origin_of_filled hs (hn ▸ (mem_eligible.mp hm).2)
  sync := fun b hb => ⟨_, mem_eligible.mpr ⟨hl _, by rw [hn, Link.filled, hb]; rfl⟩⟩
  claim := fun b hb => ⟨_, claim_mem_eligible (hl _) hb now, rfl⟩
  tally := fun b hb => ⟨_, mem_eligible.mpr ⟨hl _, by rw [hn, Link.filled, hb]; rfl⟩⟩
  status := fun b hb => ⟨_, mem_eligible.mpr ⟨hl _, by rw [hn, Link.filled, hb]; rfl⟩⟩
  answer := fun b hb => ⟨_, mem_eligible.mpr ⟨hl _, by rw [hn, Link.filled, hb]; rfl⟩⟩
  trigger := fun b rest hb => ⟨_, mem_eligible.mpr ⟨hl _, by rw [hn, Link.filled, hb]; rfl⟩⟩

/-- Settles O14, numbering state by numbering state. -/
theorem numberingGatesTheSlots : Obligations.NumberingGatesTheSlots := by
  intro s now
  have held {n : Station} (hl : ∀ slot, s.number.numbering.lets slot = true) (hn : s.heldNumber = some n) :=
    everyPendingContends hl hn now
  cases h : s.number.numbering with
  | stopped => exact eligible_eq_nil (fun slot => by rw [h]; rfl) now
  | listen k => exact eligible_eq_nil (fun slot => by rw [h]; rfl) now
  | numberless => exact eligible_eq_nil (fun slot => by rw [h]; rfl) now
  | claiming c w =>
    refine ⟨fun ⟨slot, m⟩ hm => ?_, fun b hb => ⟨_, claim_mem_eligible (by rw [h]; rfl) hb now, rfl, rfl⟩⟩
    have hl := (mem_eligible.mp hm).1
    rw [h] at hl
    exact of_decide_eq_true hl
  | fixed n =>
    obtain ⟨origin, sync, claim, tally, status, answer, trigger⟩ :=
      held (fun slot => by rw [h]; rfl) (heldNumber_of_fixed h)
    exact ⟨origin, sync, claim, tally, status, answer, trigger⟩
  | holding n =>
    obtain ⟨origin, sync, claim, tally, status, answer, trigger⟩ :=
      held (fun slot => by rw [h]; rfl) (heldNumber_of_holding h)
    exact ⟨origin, sync, claim, tally, status, answer, trigger⟩

end Sys2Proof.Machine

end

section
/-! SUPPORT. The start of the blocks and of the number unit (R184, R25, R36), and the frame timer that goes on through a warm
restart (R65). -/

namespace Sys2Proof.Machine

open Sys2Proof

open Vector (get_replicate)

/-! ## The blocks started -/

/-- R184: the blocks as a start leaves them. -/
theorem startBlocks_started (s : State) (c : Config) : (s.startBlocks c).Started c := by
  have lane (i : Fin 4) : (s.startBlocks c).lane i = Lane.initial (c.bindings.get i) := by
    simp [State.lane, State.startBlocks, LaneEngine.initial, Vector.get_eq_getElem]
  exact
    { bound := fun i => by rw [lane]; rfl
      lanes := fun i => by rw [lane]; exact ⟨rfl, rfl, rfl, rfl, fun ch => get_replicate ..⟩
      owners := fun ch => get_replicate ..
      refusals := rfl
      merged := fun ch => ⟨get_replicate .., get_replicate ..⟩
      driven := ⟨_, rfl, fun i => by simp [fixturePolarities, Vector.get_eq_getElem]⟩
      limit := ⟨rfl, rfl, rfl⟩
      scale := ⟨rfl, rfl, rfl⟩
      rails := ⟨rfl, rfl, rfl⟩
      sags := rfl
      ingest := ⟨rfl, rfl, rfl, rfl⟩
      back := ⟨rfl, fun k => get_replicate .., fun k => get_replicate .., fun k => get_replicate ..⟩
      tally := fun i => ⟨get_replicate .., get_replicate ..⟩
      formed := ⟨rfl, rfl, rfl⟩
      report := rfl }

/-- What a start leaves is in the blocks it starts. -/
theorem State.Started.of_same {s t : State} {c : Config} (h : s.Started c) (hl : t.lanes = s.lanes) (ho : t.output = s.output)
    (hb : t.budget = s.budget) (hi : t.ingest = s.ingest) (ht : t.triggers = s.triggers) (hr : t.report = s.report) :
    t.Started c := by
  cases h
  constructor <;> simpa only [State.lane, hl, ho, hb, hi, ht, hr]

/-! ## The number unit started -/

section StartNumber

variable {s : State} {c : Config} {n lo hi : Station} {p : Nat}

theorem startNumber_of_fixed (hm : c.mode = .fixed n) :
    s.startNumber c =
      { s with
        number :=
          { s.number with numbering := .fixed n, kept := none, taken := [], duplicate := false, duplicateQuiet := 0 }
        peers := s.peers.set n.val none n.isLt } := by
  unfold State.startNumber
  rw [hm]
  rfl

/-- R36: a kept number inside the range is held at once and defended. -/
theorem startNumber_of_kept (hm : c.mode = .claim lo hi p) (hk : s.number.kept = some n) (hlo : lo ≤ n) (hhi : n ≤ hi) :
    s.startNumber c =
      { s with
        number :=
          { s.number with numbering := .holding n, kept := none, taken := [], duplicate := false, duplicateQuiet := 0 }
        peers := s.peers.set n.val none n.isLt
        link := s.link.writeClaim ⟨n, s.serial⟩ } := by
  unfold State.startNumber
  rw [hm, hk]
  exact if_pos ⟨hlo, hhi⟩

/-- R26: without one the node listens. -/
theorem startNumber_of_none_kept (hm : c.mode = .claim lo hi p) (hk : ∀ n, s.number.kept = some n → n < lo ∨ hi < n) :
    s.startNumber c =
      { s with
        number :=
          { s.number with
            numbering := .listen 0, kept := none, taken := [], duplicate := false, duplicateQuiet := 0
            counters := { s.number.counters with listenEntry := min 65535 (s.number.counters.listenEntry + 1) } } } := by
  unfold State.startNumber
  rw [hm]
  dsimp only
  split
  · rename_i n hn
    have outside : ¬ (lo ≤ n ∧ n ≤ hi) := fun h => by
      rcases hk n hn with hl | hh
      · exact absurd h.1 (not_le.mpr hl)
      · exact absurd h.2 (not_le.mpr hh)
    rw [if_neg outside]
    rfl
  · rfl

end StartNumber

/-- R25, R36: what a start of the number unit clears, and that of the link controller it writes the CLAIM slot at most. -/
structure NumberStarted (s t : State) : Prop where
  lanes : t.lanes = s.lanes := by rfl
  link : t.link = { s.link with claim := t.link.claim } := by rfl
  kept : t.number.kept = none := by rfl
  taken : t.number.taken = [] := by rfl
  duplicate : t.number.duplicate = false := by rfl

theorem startNumber_started (s : State) (c : Config) : NumberStarted s (s.startNumber c) := by
  unfold State.startNumber
  dsimp only
  repeat' split
  all_goals exact {}

/-! ## The frame timer through a warm restart -/

theorem continueTimer_of_same {r : TimerRun} {c : Config} (h : c.timer.pNom = r.config.pNom) (s : State) :
    s.continueTimer r c = s.setRun { r with config := c.timer, restart := none } := if_pos h

theorem continueTimer_of_other {r : TimerRun} {c : Config} (h : c.timer.pNom ≠ r.config.pNom) (s : State) :
    s.continueTimer r c = s.setRun { r with restart := some c.timer } := if_neg h

/-- R65: of a state only the running timer is written. -/
theorem continueTimer_eq (s : State) (r : TimerRun) (c : Config) : ∃ r', s.continueTimer r c = s.setRun r' := by
  by_cases h : c.timer.pNom = r.config.pNom
  · exact ⟨_, continueTimer_of_same h s⟩
  · exact ⟨_, continueTimer_of_other h s⟩

/-- R181: the end of the read changes the read asked flag and the fetch unit. -/
theorem endRead_eq (s : State) : ∃ f, s.endRead = (s.setStartup { s.startup with readAsked := false }).setFetch f :=
  ⟨s.endRead.fetch, (choosePort_frame _).same _⟩

/-- R184, R65: where the frame timer runs on from before, a pass starts the other blocks and leaves it its frame. -/
theorem pass_of_running {s : State} {r : TimerRun} (hp : s.startup.phase ≠ .safe) (ht : s.timer.run = some r) (c : Config)
    (now : Stamp) (pins : BitVec 8) :
    s.pass c now pins = (((s.setStartup (s.startup.pass c)).startBlocks c).startNumber c).continueTimer r c := by
  have run : (((s.setStartup (s.startup.pass c)).startBlocks c).startNumber c).timer.run = some r := by
    rw [(startNumber_frame _ c).timer]
    exact ht
  unfold State.pass State.peersAtPass
  rw [if_neg hp]
  dsimp only
  rw [run]

/-- R184: the blocks but the number unit and the frame timer have started with the configuration `c`. -/
structure BlocksStarted (s t : State) (c : Config) : Prop where
  phase : t.startup.phase = .running
  config : t.config = some c
  serial : t.serial = s.serial
  number : t.number = s.number
  peers : t.peers = s.peers
  timer : t.timer = s.timer
  link : t.link = { Link.initial with bitTime := c.bitTime }
  started : t.Started c
  drive : t.output.drive = none
  pins : ∀ i : Fin 8, t.triggers.pins.get i = ⟨none, 0⟩

/-- R181, R184: the end of a read with a block that passes starts the blocks and the number unit, and the timer goes on. -/
theorem exec_configReadEnd_of_running {s : State} {c : Config} {r : TimerRun} (hr : s.reading = true)
    (hj : s.judgeRead = .ok c) (hp : s.startup.phase = .configLoad) (ht : s.timer.run = some r) (now : Stamp)
    (pins : BitVec 8) :
    ∃ x, BlocksStarted s x c ∧ exec (.configReadEnd now pins) s = .next ((x.startNumber c).continueTimer r c) := by
  obtain ⟨k, hk⟩ := advanceTo_eq s now
  obtain ⟨f, hf⟩ := endRead_eq (s.setTick k)
  have judged : (s.setTick k).judgeRead = .ok c := hj
  have phase : (s.setTick k).endRead.startup.phase ≠ .safe := by rw [hf]; simp [hp]
  have run : (s.setTick k).endRead.timer.run = some r := by rw [hf]; exact ht
  refine ⟨((s.setTick k).endRead.setStartup ((s.setTick k).endRead.startup.pass c)).startBlocks c, ?_,
    congrArg Host.Outcome.next ((if_pos hr).trans ?_)⟩
  · rw [hf]
    exact ⟨rfl, rfl, rfl, rfl, rfl, rfl, rfl, startBlocks_started .., rfl, fun i => get_replicate ..⟩
  · dsimp only
    rw [hk, judged]
    exact pass_of_running phase run c now pins

/-- Settles O11: of the state after the read only what the number unit writes depends on the number mode, and only the
running timer on P_nom. -/
theorem restartKeepsNumberAndTimer : Obligations.RestartKeepsNumberAndTimer := by
  intro s now pins c r hr hj hp ht
  obtain ⟨x, hx, he⟩ := exec_configReadEnd_of_running hr hj hp ht now pins
  have frame := startNumber_frame x c
  have unit := startNumber_started x c
  have timer : (x.startNumber c).timer = s.timer := frame.timer.trans hx.timer
  obtain ⟨r', hc⟩ := continueTimer_eq (x.startNumber c) r c
  rw [hc] at he
  refine ⟨_, he, ?phase, frame.config.trans hx.config, unit.kept, unit.taken, unit.duplicate, fun n hm => ?fixed,
    fun lo hi p n hm hk hlo hhi => ?kept, fun lo hi p hm hk => ?listen, ?link, ?started, ?drive, fun i => ?pins,
    fun h => ?same, fun h => ?other⟩
  case phase => exact (congrArg Startup.phase frame.startup).trans hx.phase
  case fixed =>
    rw [startNumber_of_fixed hm, ← hx.number, ← hx.peers]
    exact ⟨rfl, rfl, rfl, congrArg Link.claim hx.link⟩
  case kept =>
    rw [← hx.number] at hk ⊢
    rw [startNumber_of_kept hm hk hlo hhi, hx.link, ← hx.peers, ← hx.serial]
    exact ⟨rfl, rfl, rfl, rfl⟩
  case listen =>
    rw [← hx.number] at hk ⊢
    rw [startNumber_of_none_kept hm hk, ← hx.peers]
    exact ⟨rfl, rfl, rfl, congrArg Link.claim hx.link⟩
  case link => exact unit.link.trans (by rw [hx.link]; rfl)
  case started =>
    exact hx.started.of_same unit.lanes frame.output frame.budget frame.ingest frame.triggers frame.report
  case drive => exact (congrArg OutputStage.drive frame.output).trans hx.drive
  case pins => exact (congrArg (fun y : Triggers => y.pins.get i) frame.triggers).trans (hx.pins i)
  case same =>
    rw [← hc, continueTimer_of_same h]
    exact congrArg (fun y : FrameTimer => { y with run := some { r with config := c.timer, restart := none } }) timer
  case other =>
    rw [← hc, continueTimer_of_other h]
    exact congrArg (fun y : FrameTimer => { y with run := some { r with restart := some c.timer } }) timer

end Sys2Proof.Machine

end

section
/-! SUPPORT. The peer table and the number unit at an edge (R39, R26, R28, R32, R33), and the rows that do their parts of it. -/

namespace Sys2Proof.Machine

open Sys2Proof

/-! ## The aged peer table (R39) -/

/-- R39: an entry at an edge: the counts of a present one rise, and at the age limit it is gone. -/
def agedEntry (limit : Nat) : Option Peer → Option Peer
  | none => none
  | some p => if limit ≤ p.silence + 1 then none else some p.rise

theorem get_agePeer (limit : Nat) (s : State) (m n : Station) :
    (s.agePeer limit m).peers.get n = if n = m then agedEntry limit (s.peers.get n) else s.peers.get n := by
  by_cases hn : n = m
  · subst hn
    rw [if_pos rfl]
    unfold State.agePeer
    split
    · rename_i hp
      rw [hp]
      rfl
    · rename_i p hp
      rw [hp, agedEntry]
      split <;> exact get_set_same ..
  · rw [if_neg hn]
    unfold State.agePeer
    repeat' split
    · rfl
    · exact get_set_of_ne _ hn _
    · exact get_set_of_ne _ hn _

/-- R39: among stations named once each, the entries of those named age. -/
theorem get_foldl_agePeer (limit : Nat) (n : Station) (l : List Station) (hl : l.Nodup) (s : State) :
    (l.foldl (State.agePeer limit) s).peers.get n =
      if n ∈ l then agedEntry limit (s.peers.get n) else s.peers.get n := by
  induction l generalizing s with
  | nil => rfl
  | cons m rest ih =>
    obtain ⟨hm, hrest⟩ := List.nodup_cons.mp hl
    rw [List.foldl_cons, ih hrest, get_agePeer]
    by_cases hn : n = m
    · subst hn
      simp [hm]
    · simp [hn]

theorem get_agePeers (s : State) (c : Config) (n : Station) :
    (s.agePeers c).peers.get n = agedEntry c.ageLimit (s.peers.get n) := by
  have once : stations.Nodup := stations_sorted.imp fun h => ne_of_lt h
  exact (get_foldl_agePeer c.ageLimit n stations once s).trans (if_pos (mem_stations n))

theorem get_agePeers_of_absent {s : State} {n : Station} (h : s.peers.get n = none) (c : Config) :
    (s.agePeers c).peers.get n = none := by
  rw [get_agePeers, h, agedEntry]

/-! ## What the choice of candidate reads (R27, R33) -/

section Reads

variable {s u : State} {cfg : Config} {lo hi n : Station} {p : Nat}

/-- R27: which number is chosen depends on the peer table and the taken set. -/
theorem freeIn_congr (hn : u.number = s.number) (hp : u.peers = s.peers) : u.FreeIn lo hi n ↔ s.FreeIn lo hi n := by
  unfold State.FreeIn
  rw [hn, hp]

theorem chosen_congr (hn : u.number = s.number) (hp : u.peers = s.peers) : u.Chosen lo hi p n ↔ s.Chosen lo hi p n := by
  unfold State.Chosen State.FreeIn
  rw [hn, hp]

theorem chooseCandidate_of_chosen (hc : s.config = some cfg) (hm : cfg.mode = .claim lo hi p) (h : s.Chosen lo hi p n) :
    s.chooseCandidate =
      { s with number := { s.number with numbering := .claiming n none }, link := s.link.writeClaim ⟨n, s.serial⟩ } := by
  unfold State.chooseCandidate
  rw [candidate_of_chosen hc hm h]
  rfl

theorem chooseCandidate_of_none_free (hc : s.config = some cfg) (hm : cfg.mode = .claim lo hi p)
    (h : ∀ q, ¬ s.FreeIn lo hi q) :
    s.chooseCandidate = { s with number := { s.number with numbering := .numberless } } := by
  unfold State.chooseCandidate
  rw [candidate_of_none_free hc hm h]
  rfl

theorem chooseCandidate_peers (s : State) : s.chooseCandidate.peers = s.peers := by
  unfold State.chooseCandidate
  split <;> rfl

/-- R33: the retry looks for an absent entry in the claim range. -/
theorem rangeHasAbsent_iff (hc : s.config = some cfg) (hm : cfg.mode = .claim lo hi p) :
    s.rangeHasAbsent = true ↔ ∃ q, lo ≤ q ∧ q ≤ hi ∧ s.peers.get q = none := by
  simp [State.rangeHasAbsent, range_of_claim hc hm, mem_claimRange, and_assoc]

end Reads

/-! ## The number unit at an edge, state by state -/

theorem numberEdge_of_ahead {s : State} (h : s.ahead.number = true) : s.numberEdge = s := by
  unfold State.numberEdge
  exact if_pos h

section NumberEdge

variable {s : State} {n : Station} {k w : Nat} (ha : s.ahead.number = false)

include ha

theorem numberEdge_of_listening (h : s.number.numbering = .listen k) (hk : k < 31) :
    s.numberEdge.number = { s.number with numbering := .listen (k + 1) } := by
  have early : ¬ 32 ≤ k + 1 := by omega
  simp [State.numberEdge, ha, h, early, State.setNumbering]

theorem numberEdge_of_listened (h : s.number.numbering = .listen k) (hk : 31 ≤ k) :
    s.numberEdge = s.chooseCandidate := by
  have due : 32 ≤ k + 1 := by omega
  simp [State.numberEdge, ha, h, due]

theorem numberEdge_of_numberless (h : s.number.numbering = .numberless) :
    s.numberEdge = if s.rangeHasAbsent then s.enterListen else s := by
  simp [State.numberEdge, ha, h]

theorem numberEdge_of_unsent (h : s.number.numbering = .claiming n none) : s.numberEdge = s := by
  simp [State.numberEdge, ha, h]

theorem numberEdge_of_window (h : s.number.numbering = .claiming n (some w)) (hw : w < 7) :
    s.numberEdge.number = { s.number with numbering := .claiming n (some (w + 1)) } := by
  have early : ¬ 8 ≤ w + 1 := by omega
  simp [State.numberEdge, ha, h, early, State.setNumbering]

theorem numberEdge_of_window_end (h : s.number.numbering = .claiming n (some w)) (hw : 7 ≤ w) :
    s.numberEdge = s.enterHolding n := by
  have due : 8 ≤ w + 1 := by omega
  simp [State.numberEdge, ha, h, due]

theorem numberEdge_of_holding (h : s.number.numbering = .holding n) : s.numberEdge = s := by
  simp [State.numberEdge, ha, h]

theorem numberEdge_of_no_duplicate (h : s.number.numbering = .fixed n) (hd : s.number.duplicate = false) :
    s.numberEdge = s := by
  simp [State.numberEdge, ha, h, hd]

theorem numberEdge_of_duplicate (h : s.number.numbering = .fixed n) (hd : s.number.duplicate = true)
    (hq : s.number.duplicateQuiet < 255) :
    s.numberEdge.number = { s.number with duplicateQuiet := s.number.duplicateQuiet + 1 } := by
  have early : ¬ 256 ≤ s.number.duplicateQuiet + 1 := by omega
  simp [State.numberEdge, ha, h, hd, early]

theorem numberEdge_of_duplicate_end (h : s.number.numbering = .fixed n) (hd : s.number.duplicate = true)
    (hq : 255 ≤ s.number.duplicateQuiet) :
    s.numberEdge.number = { s.number with duplicate := false, duplicateQuiet := 0 } := by
  have due : 256 ≤ s.number.duplicateQuiet + 1 := by omega
  simp [State.numberEdge, ha, h, hd, due]

end NumberEdge

/-- R37: only the end of a claim window clears an entry. -/
theorem numberEdge_peers {s : State} (h : ∀ q w, s.number.numbering ≠ .claiming q w) : s.numberEdge.peers = s.peers := by
  unfold State.numberEdge
  split
  · rfl
  · cases hn : s.number.numbering with
    | stopped => rfl
    | fixed n =>
      dsimp only
      repeat' split
      all_goals rfl
    | listen k =>
      dsimp only
      split
      · exact chooseCandidate_peers s
      · rfl
    | claiming q w => exact absurd hn (h q w)
    | holding n => rfl
    | numberless =>
      dsimp only
      split <;> rfl

/-! ## The edge (R44) -/

theorem exec_frameEdge {s : State} {r : TimerRun} {cfg : Config} (hr : s.timer.run = some r) (hc : s.config = some cfg)
    (pins : BitVec 8) : exec (.frameEdge pins) s = .next (s.edge cfg pins) := by
  refine congrArg Host.Outcome.next ?_
  rw [hr, hc]

/-- The state in which the number unit works at an edge: its own items and what commands have done ahead are untouched, and
the peer table is aged. -/
structure BeforeNumberEdge (s u : State) (c : Config) : Prop where
  ahead : u.ahead = s.ahead
  config : u.config = s.config
  number : u.number = s.number
  peers : u.peers = (s.agePeers c).peers

/-- R41: outside RUNNING the number unit takes no edge. -/
theorem edge_numberAlike_of_not_running {s : State} (h : s.startup.phase ≠ .running) (c : Config) (pins : BitVec 8) :
    NumberAlike (s.agePeers c) (s.edge c pins) := by
  have timed := timerEdge_frame (s.agePeers c)
  have stopped : (s.agePeers c).timerEdge.isRunning = false := by
    rw [timed.isRunning, (agePeers_frame s c).isRunning]
    simpa [State.isRunning] using h
  unfold State.edge
  dsimp only
  rw [if_neg (by simp [stopped])]
  exact timed.numberAlike.trans ⟨setAhead_number .., setAhead_peers ..⟩

theorem edge_numberAlike {s : State} (h : s.startup.phase = .running) (c : Config) (pins : BitVec 8) :
    ∃ u, BeforeNumberEdge s u c ∧ NumberAlike u.numberEdge (s.edge c pins) := by
  have aged := agePeers_frame s c
  have timed := timerEdge_frame (s.agePeers c)
  have running : (s.agePeers c).timerEdge.isRunning = true := by
    rw [timed.isRunning, aged.isRunning]
    simp [State.isRunning, h]
  refine ⟨(s.agePeers c).timerEdge.triggerQueueEdge, ⟨?_, ?_, ?_, ?_⟩, ?_⟩
  · exact (setLink_ahead ..).trans (timed.ahead.trans aged.ahead)
  · exact (setLink_config ..).trans (timed.config.trans aged.config)
  · exact (setLink_number ..).trans (timed.number.trans aged.number)
  · exact (setLink_peers ..).trans timed.peers
  · have worked := blocksEdge_numberAlike (s.agePeers c).timerEdge c pins false
    rw [if_neg Bool.false_ne_true] at worked
    unfold State.edge
    dsimp only
    rw [if_pos running]
    exact worked.trans ⟨setAhead_number .., setAhead_peers ..⟩

end Sys2Proof.Machine

end

section
/-! SUPPORT. The rows of the number unit and of the peer table that are parts of an edge, and that edge. -/

namespace Sys2Proof.Machine

open Sys2Proof

/-! ## The rows of the number unit -/

/-- R39: ageing replaces the peer table and the tally table. -/
theorem agePeers_eq (s : State) (c : Config) : ∃ x y, s.agePeers c = (s.setPeers x).setTriggers y :=
  ⟨_, _, (agePeers_frame s c).eq⟩

/-- R44: work on the aged entries puts the entries and the tally table back. -/
theorem onAged_of_config {s : State} {c : Config} (hc : s.config = some c) (work : State → State) :
    s.onAged work = ((work (s.agePeers c)).setPeers s.peers).setTriggers s.triggers := by
  unfold State.onAged
  rw [hc]

section CandidateChoice

variable {s : State} {cfg : Config} {lo hi : Station} {p k : Nat} (hc : s.config = some cfg)
  (hm : cfg.mode = .claim lo hi p) (hn : s.number.numbering = .listen k) (hk : 31 ≤ k)

include hc hn hk

theorem exec_candidateChoice :
    exec .candidateChoice s =
      .next (((s.agePeers cfg).chooseCandidate.setPeers s.peers).setTriggers s.triggers).numberAhead := by
  refine congrArg Host.Outcome.next ?_
  rw [hn]
  dsimp only
  rw [if_pos (by omega), onAged_of_config hc]

include hm

theorem exec_candidateChoice_of_chosen {n : Station} (h : (s.agePeers cfg).Chosen lo hi p n) :
    exec .candidateChoice s = .next
      { s with
        ahead := { s.ahead with number := true }
        number := { s.number with numbering := .claiming n none }
        link := s.link.writeClaim ⟨n, s.serial⟩ } := by
  rw [exec_candidateChoice hc hn hk, chooseCandidate_of_chosen ((agePeers_frame s cfg).config.trans hc) hm h]
  obtain ⟨x, y, ha⟩ := agePeers_eq s cfg
  rw [ha]
  rfl

theorem exec_candidateChoice_of_none_free (h : ∀ n, ¬ (s.agePeers cfg).FreeIn lo hi n) :
    exec .candidateChoice s = .next
      { s with
        ahead := { s.ahead with number := true }
        number := { s.number with numbering := .numberless } } := by
  rw [exec_candidateChoice hc hn hk, chooseCandidate_of_none_free ((agePeers_frame s cfg).config.trans hc) hm h]
  obtain ⟨x, y, ha⟩ := agePeers_eq s cfg
  rw [ha]
  rfl

end CandidateChoice

theorem exec_claimWindowEnd {s : State} {n : Station} {w : Nat} (h : s.number.numbering = .claiming n (some w))
    (hw : 7 ≤ w) : exec .claimWindowEnd s = .next (s.enterHolding n).numberAhead := by
  refine congrArg Host.Outcome.next ?_
  rw [h]
  exact if_pos (by omega)

theorem exec_duplicateClear {s : State} (h : s.number.duplicate = true) (hq : 255 ≤ s.number.duplicateQuiet) :
    exec .duplicateClear s = .next { s with number := { s.number with duplicate := false, duplicateQuiet := 0 } } :=
  congrArg Host.Outcome.next (if_pos ⟨h, by omega⟩)

/-! ## The number unit at an edge -/

section NumberUnitEdge

variable {s u : State} {cfg : Config} {lo hi n : Station} {p : Nat} (hc : s.config = some cfg)
  (hm : cfg.mode = .claim lo hi p) (hu : BeforeNumberEdge s u cfg)

include hc hm hu

/-- R27, R39: the choice at an edge is made on the aged peer table. -/
theorem chooseCandidate_number_of_chosen (h : (s.agePeers cfg).Chosen lo hi p n) :
    u.chooseCandidate.number = { s.number with numbering := .claiming n none } := by
  have chosen : u.Chosen lo hi p n :=
    (chosen_congr (hu.number.trans (agePeers_frame s cfg).number.symm) hu.peers).mpr h
  rw [chooseCandidate_of_chosen (hu.config.trans hc) hm chosen, hu.number]

theorem chooseCandidate_number_of_none_free (h : ∀ q, ¬ (s.agePeers cfg).FreeIn lo hi q) :
    u.chooseCandidate.number = { s.number with numbering := .numberless } := by
  have none_free (q : Station) : ¬ u.FreeIn lo hi q := fun hq =>
    h q ((freeIn_congr (hu.number.trans (agePeers_frame s cfg).number.symm) hu.peers).mp hq)
  rw [chooseCandidate_of_none_free (hu.config.trans hc) hm none_free, hu.number]

/-- R33: so is the retry. -/
theorem numberless_retry (ha : u.ahead.number = false) (h : u.number.numbering = .numberless) :
    ((∃ q, lo ≤ q ∧ q ≤ hi ∧ (s.agePeers cfg).peers.get q = none) → u.numberEdge = u.enterListen) ∧
      ((∀ q, lo ≤ q → q ≤ hi → (s.agePeers cfg).peers.get q ≠ none) → u.numberEdge = u) := by
  have found := rangeHasAbsent_iff (s := u) (hu.config.trans hc) hm
  rw [hu.peers] at found
  rw [numberEdge_of_numberless ha h]
  exact ⟨fun hq => if_pos (found.mpr hq), fun hq => if_neg fun hf =>
    let ⟨q, hlo, hhi, habs⟩ := found.mp hf
    hq q hlo hhi habs⟩

end NumberUnitEdge

/-- Settles O31: the rows do the work of `numberEdge` ahead, and the edge does it on the aged peer table. -/
theorem numberUnitAtEdges : Obligations.NumberUnitAtEdges := by
  refine ⟨fun s cfg lo hi p k hc hm hn hk =>
      ⟨fun n h => exec_candidateChoice_of_chosen hc hm hn hk h, exec_candidateChoice_of_none_free hc hm hn hk⟩,
    fun s n w hn hw => exec_claimWindowEnd hn hw, fun s h hq => exec_duplicateClear h hq,
    fun s pins r cfg hrun hr hc => ?_⟩
  obtain ⟨u, hu, done⟩ := edge_numberAlike hrun cfg pins
  refine ⟨_, exec_frameEdge hr hc pins, rfl, fun ha => ?ahead, fun ha => ?_⟩
  case ahead => rw [done.number, numberEdge_of_ahead (by rw [hu.ahead, ha]), hu.number]
  rw [done.number, done.peers]
  rw [← hu.ahead] at ha
  have same (h : u.numberEdge = u) : u.numberEdge.number = s.number := by rw [h, hu.number]
  rw [← hu.number] at same ⊢
  refine ⟨fun k hn hk => numberEdge_of_listening ha hn hk, fun k lo hi p n hn hk hm h => ?chosen,
    fun k lo hi p hn hk hm h => ?none, fun lo hi p hn hm => ?retry, fun n hn => same (numberEdge_of_unsent ha hn),
    fun n w hn hw => numberEdge_of_window ha hn hw, fun n w hn hw => ?window,
    fun n hn => same (numberEdge_of_holding ha hn), fun n hn hd => same (numberEdge_of_no_duplicate ha hn hd),
    fun n hn hd hq => numberEdge_of_duplicate ha hn hd hq, fun n hn hd hq => numberEdge_of_duplicate_end ha hn hd hq⟩
  case chosen =>
    rw [numberEdge_of_listened ha hn hk, chooseCandidate_number_of_chosen hc hm hu h, hu.number]
  case none =>
    rw [numberEdge_of_listened ha hn hk, chooseCandidate_number_of_none_free hc hm hu h, hu.number]
  case retry =>
    obtain ⟨found, full⟩ := numberless_retry hc hm hu ha hn
    exact ⟨fun hq => by rw [found hq]; rfl, fun hq => same (full hq)⟩
  case window =>
    rw [numberEdge_of_window_end ha hn hw]
    exact ⟨rfl, get_set_same ..⟩

end Sys2Proof.Machine

end

section
/-! SUPPORT. PEER_AGE_OUT (R39, R40, R33) and the ageing of the peer table at an edge. -/

namespace Sys2Proof.Machine

open Sys2Proof

/-! ## What follows an entry that ages out (R40, R33) -/

theorem exec_peerAgeOut {s : State} {n : Station} {cfg : Config} {r : TimerRun} {p : Peer} (hc : s.config = some cfg)
    (hr : s.timer.run = some r) (hp : s.peers.get n = some p) (hd : cfg.ageLimit ≤ p.silence + 1) :
    exec (.peerAgeOut n) s = .next (((s.ageOut n).loseLeader n).retryNumber n) := by
  refine congrArg Host.Outcome.next (if_pos ?_)
  unfold State.dueAgeOut
  rw [hc, hr, hp]
  exact decide_eq_true hd

/-- R40, R65: a timer that did not follow the number, or starts anew at the edge to come, chooses no leader. -/
theorem loseLeader_of_not_followed {s : State} {n : Station} {r : TimerRun} (hr : s.timer.run = some r)
    (h : r.restart = none → ∀ lock j, r.role ≠ .following n lock j) : s.loseLeader n = s := by
  unfold State.loseLeader
  split
  · rfl
  · rename_i r' hr'
    obtain ⟨hrun, hnew⟩ := runDue_eq_some.mp hr'
    obtain rfl : r = r' := Option.some.inj (hr.symm.trans hrun)
    split
    · rename_i leader lock j hrole
      exact if_neg fun (he : leader = n) => h hnew lock j (he ▸ hrole)
    · rfl

theorem retryNumber_of_numbered {s : State} {n : Station} (h : s.number.numbering ≠ .numberless) : s.retryNumber n = s :=
  if_neg fun hn => h hn.1

theorem retryNumber_of_numberless {s : State} {n lo hi : Station} {q : Nat} {cfg : Config}
    (h : s.number.numbering = .numberless) (hc : s.config = some cfg) (hm : cfg.mode = .claim lo hi q) (hlo : lo ≤ n)
    (hhi : n ≤ hi) : s.retryNumber n = s.enterListen.numberAhead := by
  refine if_pos ⟨h, ?_⟩
  rw [range_of_claim hc hm]
  exact List.contains_iff_mem.mpr (mem_claimRange.mpr ⟨hlo, hhi⟩)

/-- R33: of the rest of the part a retry changes the number unit's record ahead of the edge. -/
theorem retryNumber_frame (s : State) (n : Station) :
    (s.retryNumber n).timer = s.timer ∧ (s.retryNumber n).peers = s.peers ∧
      (s.retryNumber n).ahead.lock = s.ahead.lock ∧ (s.retryNumber n).ahead.role = s.ahead.role := by
  unfold State.retryNumber
  split <;> exact ⟨rfl, rfl, rfl, rfl⟩

/-! ## A leader lost while no other station is heard (R40, R50, R52) -/

theorem stationRank_of_absent {s : State} {n : Station} (h : s.peers.get n = none) (tLost : Nat) :
    s.stationRank tLost n = rankBelowAll := by
  unfold State.stationRank
  rw [h]
  rfl

/-- R50: no station is a candidate where no entry is present. -/
theorem bestCandidate_of_no_peers {s : State} (h : ∀ k, s.peers.get k = none) (tLost : Nat) :
    s.bestCandidate tLost = none := by
  have none_better (l : List Station) : l.foldl (s.betterCandidate tLost) none = none := by
    induction l with
    | nil => rfl
    | cons k rest ih =>
      have skipped : s.betterCandidate tLost none k = none :=
        if_neg (by rw [stationRank_of_absent (h k)]; exact Nat.lt_irrefl _)
      rw [List.foldl_cons, skipped, ih]
  exact none_better stations

/-- R44: with nothing done ahead the other blocks see the number held. -/
theorem ownAtEdge_of_not_ahead {s : State} (h : s.ahead.number = false) : s.ownAtEdge = s.heldNumber := by
  unfold State.ownAtEdge State.heldNumber
  cases s.number.numbering <;> simp [h]

/-- R54: accounting the lock of a timer that follows leaves it following, and changes its lock alone. -/
theorem lockEdge_of_following {s : State} {r : TimerRun} {n : Station} {lock : Lock} {j : Bool}
    (h : r.role = .following n lock j) :
    ∃ l, (s.lockEdge r).timer.run = some { r with role := .following n l j } := by
  unfold State.lockEdge
  split
  · exact ⟨lock, by rw [← h]; rfl⟩
  · unfold State.accountLock
    rw [h]
    dsimp only [TimerRole.lock, TimerRole.withLock]
    split
    · exact ⟨_, rfl⟩
    · exact ⟨_, rfl⟩

/-- R52: a timer that follows, without a reference, and hears no station leads where it may, and is FREE otherwise. -/
theorem roleEdge_alone {s : State} {r : TimerRun} {n : Station} {lock : Lock} {j : Bool} (hr : s.timer.run = some r)
    (hrole : r.role = .following n lock j) (hcap : r.capture.valid = false) (ha : s.ahead.role = false)
    (hp : ∀ k, s.peers.get k = none) :
    s.roleEdge.timer.run = some { r with role := if s.mayLead r then .leading else .free } := by
  have left : s.leaveRole r = (s, r) := by
    unfold State.leaveRole
    rw [hrole]
  have chosen : s.roleEdge = s.chooseRole r := by
    unfold State.roleEdge State.evaluateRole State.tableRole
    rw [hr]
    dsimp only
    rw [ha, hrole]
    dsimp only
    rw [hcap, stationRank_of_absent (hp n)]
    rfl
  rw [chosen, State.chooseRole, bestCandidate_of_no_peers hp]
  dsimp only
  split
  · rw [State.enterLeading, left]
    rfl
  · rw [State.enterFree, left]
    rfl

/-- R40: the follower of a leader lost leads or is FREE, its lock accounted and its role evaluated ahead of the edge. -/
theorem loseLeader_alone {s : State} {n : Station} {cfg : Config} {r : TimerRun} {lock : Lock} {j : Bool}
    (hc : s.config = some cfg) (hr : s.timer.run = some r) (hrole : r.role = .following n lock j)
    (hnew : r.restart = none) (hcap : r.capture.valid = false) (hp : ∀ k, s.peers.get k = none)
    (ha : s.ahead = Ahead.none) :
    (s.loseLeader n).timer.run =
        some { r with role := if r.config.leadPermission && s.heldNumber.isSome then .leading else .free } ∧
      (s.loseLeader n).ahead.lock = true ∧ (s.loseLeader n).ahead.role = true := by
  have lost : s.loseLeader n = ((s.lockEdge r).onAged State.roleEdge).roleAhead := by
    unfold State.loseLeader
    rw [runDue_eq_some.mpr ⟨hr, hnew⟩]
    dsimp only
    rw [hrole]
    exact if_pos rfl
  have locked := lockEdge_frame s r
  have aged := agePeers_frame (s.lockEdge r) cfg
  obtain ⟨l, hl⟩ := lockEdge_of_following (s := s) hrole
  have alone (k : Station) : ((s.lockEdge r).agePeers cfg).peers.get k = none :=
    get_agePeers_of_absent (by rw [locked.peers, hp]) cfg
  have before : ((s.lockEdge r).agePeers cfg).ahead = Ahead.none := by rw [aged.ahead, locked.ahead, ha]
  have may : ((s.lockEdge r).agePeers cfg).mayLead { r with role := .following n l j } =
      (r.config.leadPermission && s.heldNumber.isSome) := by
    rw [State.mayLead, ownAtEdge_of_not_ahead (by rw [before]; rfl), aged.heldNumber, locked.heldNumber]
  have role := roleEdge_alone (s := (s.lockEdge r).agePeers cfg) ((congrArg FrameTimer.run aged.timer).trans hl) rfl hcap
    (by rw [before]; rfl) alone
  rw [may] at role
  rw [lost, onAged_of_config (locked.config.trans hc)]
  generalize ((s.lockEdge r).agePeers cfg).roleEdge = done at role
  exact ⟨role, rfl, rfl⟩

/-! ## The peer table at an edge (R39) -/

theorem edge_peers {s : State} (h : ∀ q w, s.number.numbering ≠ .claiming q w) (c : Config) (pins : BitVec 8) :
    (s.edge c pins).peers = (s.agePeers c).peers := by
  by_cases hr : s.startup.phase = .running
  · obtain ⟨u, hu, done⟩ := edge_numberAlike hr c pins
    rw [done.peers, numberEdge_peers (by rwa [hu.number]), hu.peers]
  · exact (edge_numberAlike_of_not_running hr c pins).peers

/-- Settles O32: the number unit and the frame timer act on the entry gone, and FRAME_EDGE ages every entry once. -/
theorem peersAge : Obligations.PeersAge := by
  refine ⟨fun s n cfg r p hc hr hp hd hrole => ⟨fun hn => ?numbered, fun lo hi q hn hm hlo hhi => ?numberless⟩,
    fun s n cfg r p lock j hc hr hp hd hrole hnew hcap hothers ha => ?alone, fun s pins r cfg hr hc hn => ?edge⟩
  case numbered =>
    rw [exec_peerAgeOut hc hr hp hd, loseLeader_of_not_followed (s := s.ageOut n) hr hrole,
      retryNumber_of_numbered (s := s.ageOut n) hn]
    rfl
  case numberless =>
    rw [exec_peerAgeOut hc hr hp hd, loseLeader_of_not_followed (s := s.ageOut n) hr hrole,
      retryNumber_of_numberless (s := s.ageOut n) hn hc hm hlo hhi]
    rfl
  case alone =>
    have gone (k : Station) : (s.ageOut n).peers.get k = none := by
      by_cases hk : k = n
      · exact hk ▸ get_set_same ..
      · exact (get_set_of_ne _ hk _).trans (hothers k hk)
    obtain ⟨timer, peers, hlock, hroles⟩ := retryNumber_frame ((s.ageOut n).loseLeader n) n
    obtain ⟨run, lockDone, roleDone⟩ := loseLeader_alone (s := s.ageOut n) hc hr hrole hnew hcap gone ha
    refine ⟨_, _, exec_peerAgeOut hc hr hp hd, (congrArg FrameTimer.run timer).trans run, rfl, rfl, rfl, fun k => ?_,
      hlock.trans lockDone, hroles.trans roleDone⟩
    rw [peers, (loseLeader_numberAlike ..).peers]
    exact gone k
  case edge =>
    refine ⟨_, exec_frameEdge hr hc pins, fun n => ⟨fun habs => ?_, fun p hp => ?_⟩⟩
    · rw [edge_peers hn]
      exact get_agePeers_of_absent habs cfg
    · rw [edge_peers hn, get_agePeers, hp]
      exact ⟨fun hd => if_pos hd, fun hd => if_neg (Nat.not_le_of_lt hd)⟩

end Sys2Proof.Machine

end

section
/-! SUPPORT. The candidates for leader and their order (R50), and the own edge an estimate pairs with (R60). -/

namespace Sys2Proof.Machine

open Sys2Proof

/-! ## Candidates for leader (R50) -/

/-- R50: a candidate is heard in a SYNC less than T_lost edges ago, in the role ANCHORED or LEADING. -/
theorem candidateRole_eq_some {p : Peer} {tLost : Nat} {x : Role} :
    p.candidateRole tLost = some x ↔
      p.role = some x ∧ (x = .anchored ∨ x = .leading) ∧ ∃ f quiet, p.sync = some (f, quiet) ∧ quiet < tLost := by
  unfold Peer.candidateRole
  cases hs : p.sync with
  | none => simp
  | some heard =>
    obtain ⟨f, quiet⟩ := heard
    by_cases hq : quiet < tLost
    · cases hr : p.role with
      | none => simp [hq]
      | some y => cases y <;> cases x <;> simp [hq]
    · simp [hq]

/-- R50: the role in which a station is a candidate. -/
def State.candidateAs (s : State) (tLost : Nat) (n : Station) : Option Role :=
  (s.peers.get n).bind fun p => p.candidateRole tLost

theorem candidateAs_eq_some {s : State} {tLost : Nat} {n : Station} {x : Role} :
    s.candidateAs tLost n = some x ↔ ∃ p, s.peers.get n = some p ∧ p.candidateRole tLost = some x := Option.bind_eq_some_iff

theorem candidateAs_role {s : State} {tLost : Nat} {n : Station} {x : Role} (h : s.candidateAs tLost n = some x) :
    x = .anchored ∨ x = .leading :=
  have ⟨_, _, hp⟩ := candidateAs_eq_some.mp h
  (candidateRole_eq_some.mp hp).2.1

theorem stationRank_of_candidate {s : State} {tLost : Nat} {n : Station} {x : Role} (h : s.candidateAs tLost n = some x) :
    s.stationRank tLost n = rankOf x n.val := by
  unfold State.stationRank
  unfold State.candidateAs at h
  rw [h]

theorem stationRank_of_no_candidate {s : State} {tLost : Nat} {n : Station} (h : s.candidateAs tLost n = none) :
    s.stationRank tLost n = rankBelowAll := by
  unfold State.stationRank
  unfold State.candidateAs at h
  rw [h]

/-- R50: ANCHORED before LEADING, then the lower number. -/
theorem rankOf_le {x y : Role} (hx : x = .anchored ∨ x = .leading) (hy : y = .anchored ∨ y = .leading) (n k : Station) :
    rankOf x n.val ≤ rankOf y k.val ↔ (x = .anchored ∧ y = .leading) ∨ (x = y ∧ n ≤ k) := by
  have hn := n.isLt
  have hk := k.isLt
  unfold rankOf
  rw [Fin.le_def]
  rcases hx with rfl | rfl <;> rcases hy with rfl | rfl <;> simp <;> omega

theorem rankOf_lt {x y : Role} (hx : x = .anchored ∨ x = .leading) (hy : y = .anchored ∨ y = .leading) (n k : Station) :
    rankOf x n.val < rankOf y k.val ↔ (x = .anchored ∧ y = .leading) ∨ (x = y ∧ n < k) := by
  have hn := n.isLt
  have hk := k.isLt
  unfold rankOf
  rw [Fin.lt_def]
  rcases hx with rfl | rfl <;> rcases hy with rfl | rfl <;> simp <;> omega

theorem rankOf_lt_rankBelowAll (x : Role) (n : Station) : rankOf x n.val < rankBelowAll := by
  have := n.isLt
  unfold rankOf rankBelowAll
  split <;> omega

theorem stationRank_lt_rankBelowAll {s : State} {tLost : Nat} {n : Station} :
    s.stationRank tLost n < rankBelowAll ↔ ∃ x, s.candidateAs tLost n = some x := by
  cases h : s.candidateAs tLost n with
  | none => simp [stationRank_of_no_candidate h]
  | some x => simp [stationRank_of_candidate h, rankOf_lt_rankBelowAll]

/-! ## The best candidate (R50) -/

/-- The best candidate among the stations of a list: of lowest rank, and none only where none is a candidate. -/
def State.BestAmong (s : State) (tLost : Nat) (l : List Station) : Option Station → Prop
  | none => ∀ k ∈ l, ¬ s.stationRank tLost k < rankBelowAll
  | some n => s.stationRank tLost n < rankBelowAll ∧ ∀ k ∈ l, s.stationRank tLost n ≤ s.stationRank tLost k

theorem betterCandidate_bestAmong {s : State} {tLost : Nat} {l : List Station} {best : Option Station}
    (h : s.BestAmong tLost l best) (a : Station) : s.BestAmong tLost (l ++ [a]) (s.betterCandidate tLost best a) := by
  have extend {p : Station → Prop} (hl : ∀ k ∈ l, p k) (ha : p a) : ∀ k ∈ l ++ [a], p k := fun k hk =>
    (List.mem_append.mp hk).elim (hl k) fun hk => List.mem_singleton.mp hk ▸ ha
  unfold State.betterCandidate
  by_cases ha : s.stationRank tLost a < rankBelowAll
  · rw [if_pos ha]
    cases best with
    | none => exact ⟨ha, extend (fun k hk => by have := h k hk; omega) (Nat.le_refl _)⟩
    | some b =>
      obtain ⟨hb, hl⟩ := h
      dsimp only
      split
      · exact ⟨ha, extend (fun k hk => by have := hl k hk; omega) (Nat.le_refl _)⟩
      · exact ⟨hb, extend hl (by omega)⟩
  · rw [if_neg ha]
    cases best with
    | none => exact extend h ha
    | some b => exact ⟨h.1, extend h.2 (by have := h.1; omega)⟩

theorem bestCandidate_bestAmong (s : State) (tLost : Nat) : s.BestAmong tLost stations (s.bestCandidate tLost) := by
  have fold (l : List Station) : s.BestAmong tLost l (l.foldl (s.betterCandidate tLost) none) := by
    induction l using List.reverseRecOn with
    | nil => exact fun k hk => absurd hk List.not_mem_nil
    | append_singleton l a ih =>
      rw [List.foldl_concat]
      exact betterCandidate_bestAmong ih a
  exact fold stations

theorem candidateAs_of_bestCandidate_none {s : State} {tLost : Nat} (h : s.bestCandidate tLost = none) (n : Station) :
    s.candidateAs tLost n = none := by
  have best := bestCandidate_bestAmong s tLost
  rw [h] at best
  exact Option.eq_none_iff_forall_ne_some.mpr fun x hx =>
    best n (mem_stations n) (stationRank_lt_rankBelowAll.mpr ⟨x, hx⟩)

/-- R50: the best candidate is one, and no station ranks before it. -/
theorem bestCandidate_some {s : State} {tLost : Nat} {n : Station} (h : s.bestCandidate tLost = some n) :
    (∃ x, s.candidateAs tLost n = some x) ∧ ∀ k, s.stationRank tLost n ≤ s.stationRank tLost k := by
  have best := bestCandidate_bestAmong s tLost
  rw [h] at best
  exact ⟨stationRank_lt_rankBelowAll.mp best.1, fun k => best.2 k (mem_stations k)⟩

/-- R50: of two candidates one ranks before the other. -/
theorem stationRank_injective {s : State} {tLost : Nat} {n k : Station} {x : Role} (hn : s.candidateAs tLost n = some x)
    (h : s.stationRank tLost n = s.stationRank tLost k) : n = k := by
  have hk : s.stationRank tLost k < rankBelowAll := h ▸ stationRank_lt_rankBelowAll.mpr ⟨x, hn⟩
  obtain ⟨y, hy⟩ := stationRank_lt_rankBelowAll.mp hk
  rw [stationRank_of_candidate hn, stationRank_of_candidate hy] at h
  have below := (rankOf_le (candidateAs_role hn) (candidateAs_role hy) n k).mp (Nat.le_of_eq h)
  have above := (rankOf_le (candidateAs_role hy) (candidateAs_role hn) k n).mp (Nat.le_of_eq h.symm)
  rcases below with ⟨rfl, rfl⟩ | ⟨rfl, hnk⟩
  · simp at above
  · rcases above with ⟨rfl, hx⟩ | ⟨-, hkn⟩
    · cases hx
    · exact Fin.le_antisymm hnk hkn

/-! ## The nearest own edge (R60) -/

theorem nearestEdge_first_nearest (t : Stamp) (l : List (Stamp × FrameNo)) (best : Stamp × FrameNo) :
    ∃ before after, best :: l = before ++ nearestEdge t l best :: after ∧
      (∀ x ∈ before, (tickDiff t (nearestEdge t l best).1).natAbs < (tickDiff t x.1).natAbs) ∧
        ∀ x ∈ after, (tickDiff t (nearestEdge t l best).1).natAbs ≤ (tickDiff t x.1).natAbs := by
  induction l generalizing best with
  | nil => exact ⟨[], [], rfl, by simp, by simp⟩
  | cons x rest ih =>
    unfold nearestEdge
    by_cases hx : (tickDiff t x.1).natAbs < (tickDiff t best.1).natAbs
    · rw [if_pos hx]
      obtain ⟨before, after, he, hb, ha⟩ := ih x
      refine ⟨best :: before, after, by rw [he]; rfl, ?_, ha⟩
      have near : (tickDiff t (nearestEdge t rest x).1).natAbs ≤ (tickDiff t x.1).natAbs := by
        cases before with
        | nil => rw [← (List.cons.inj he).1]
        | cons y before => exact Nat.le_of_lt (hb x ((List.cons.inj he).1 ▸ List.mem_cons_self))
      exact List.forall_mem_cons.mpr ⟨Nat.lt_of_le_of_lt near hx, hb⟩
    · rw [if_neg hx]
      obtain ⟨before, after, he, hb, ha⟩ := ih best
      cases before with
      | nil =>
        obtain ⟨hn, hr⟩ := List.cons.inj he
        refine ⟨[], x :: rest, by rw [← hn]; rfl, by simp, List.forall_mem_cons.mpr ⟨?_, hr ▸ ha⟩⟩
        rw [← hn]
        exact Nat.le_of_not_lt hx
      | cons y before =>
        obtain ⟨rfl, hr⟩ := List.cons.inj he
        obtain ⟨hbest, hb⟩ := List.forall_mem_cons.mp hb
        refine ⟨best :: x :: before, after, congrArg (fun l => best :: x :: l) hr, ?_, ha⟩
        exact List.forall_mem_cons.mpr ⟨hbest, List.forall_mem_cons.mpr ⟨by omega, hb⟩⟩

theorem pairEdge_eq (r : TimerRun) (t : Stamp) : ∃ first rest, r.ownEdges = first :: rest ∧
    r.pairEdge t = nearestEdge t rest first := by
  unfold TimerRun.pairEdge TimerRun.ownEdges
  cases r.previousEdge <;> exact ⟨_, _, rfl, rfl⟩

/-- Settles O34: the fold over the stations keeps one of lowest rank, the walk over the own edges the first nearest. -/
theorem bestCandidateAndNearestEdge : Obligations.BestCandidateAndNearestEdge := by
  refine ⟨fun p tLost x => candidateRole_eq_some, fun s tLost => ⟨fun h n p hp => ?_, fun n h => ?_⟩, fun r t => ?_⟩
  · have absent := candidateAs_of_bestCandidate_none h n
    rwa [State.candidateAs, hp] at absent
  · obtain ⟨⟨x, hx⟩, least⟩ := bestCandidate_some h
    obtain ⟨p, hp, hpx⟩ := candidateAs_eq_some.mp hx
    refine ⟨p, x, hp, hpx, fun k q y hq hy => ?_⟩
    have hk : s.candidateAs tLost k = some y := candidateAs_eq_some.mpr ⟨q, hq, hy⟩
    have before := least k
    rw [stationRank_of_candidate hx, stationRank_of_candidate hk] at before
    exact (rankOf_le (candidateAs_role hx) (candidateAs_role hk) n k).mp before
  · obtain ⟨first, rest, he, hn⟩ := pairEdge_eq r t
    obtain ⟨before, after, split, nearer, near⟩ := nearestEdge_first_nearest t rest first
    rw [← he, ← hn] at split
    rw [← hn] at nearer near
    exact ⟨before, after, split, nearer, near⟩

end Sys2Proof.Machine
end

section
/-! SUPPORT. The pace of the frame timer: which commands leave the frame timer alone, which write only what lies outside the
period loop, and the bounds of the loop at an edge (R45 to R48). -/

namespace Sys2Proof.Machine

open Sys2Proof

/-! ## The period loop (R45 to R47) -/

/-- The configuration and the period loop of a running timer are those of another. -/
structure TimerRun.Paced (r r' : TimerRun) : Prop where
  config : r'.config = r.config := by rfl
  restart : r'.restart = r.restart := by rfl
  pf : r'.pf = r.pf := by rfl
  fraction : r'.fraction = r.fraction := by rfl
  length : r'.length = r.length := by rfl

theorem TimerRun.Paced.trans {a b c : TimerRun} (h : a.Paced b) (k : b.Paced c) : a.Paced c :=
  ⟨k.config.trans h.config, k.restart.trans h.restart, k.pf.trans h.pf, k.fraction.trans h.fraction,
    k.length.trans h.length⟩

theorem TimerRun.Paced.sound {r r' : TimerRun} (h : r.Paced r') (hs : r.Sound) : r'.Sound := by
  unfold TimerRun.Sound at hs ⊢
  rwa [h.config, h.restart, h.pf, h.fraction, h.length]

/-- R45: an adjusted period register lies in its range. -/
theorem adjustPf_bounds (c : TimerConfig) (pf : Nat) (e : Int) :
    pfMin c ≤ adjustPf c pf e ∧ adjustPf c pf e ≤ pfMax c := by
  unfold adjustPf clampInt pfMin pfMax
  omega

theorem jumpLength_bounds (c : TimerConfig) (x : Int) :
    c.pNom ≤ 2 * jumpLength c x ∧ 2 * jumpLength c x ≤ 3 * c.pNom := by
  unfold jumpLength clampInt
  omega

theorem correction_bounds (c : TimerConfig) (e : Int) :
    -(c.slew : Int) ≤ correction c e ∧ correction c e ≤ c.slew := by
  unfold correction clampInt
  omega

/-- R48: a slew of at most 2700 ticks and a period register in its range keep the frame in its bounds. -/
theorem slewLength_bounds {c : TimerConfig} (hc : TimerValuesSound c) {pf carry : Nat} (hmin : pfMin c ≤ pf)
    (hmax : pf ≤ pfMax c) (hcarry : carry ≤ 1) (e : Int) :
    c.pNom ≤ 2 * (((pf / 256 : Nat) : Int) + correction c e + carry).toNat ∧
      2 * (((pf / 256 : Nat) : Int) + correction c e + carry).toNat ≤ 3 * c.pNom := by
  obtain ⟨hlow, hhigh, hslew⟩ := hc
  obtain ⟨hdown, hup⟩ := correction_bounds c e
  unfold pfMin at hmin
  unfold pfMax at hmax
  omega

/-- R45, R46: the phase error of the measurement held, 0 without one. -/
def TimerRun.heldError (r : TimerRun) : Int :=
  match r.held with
  | some m => m.e
  | none => 0

/-- R47: an acquisition jump leaves the period register. -/
theorem newLength_of_jump {r : TimerRun} (h : r.jumps = true) :
    r.newLength =
      { r with
        fraction := (r.fraction + r.pf % 256) % 256
        length := jumpLength r.config (((r.pf / 256 : Nat) : Int) + r.heldError + ((r.fraction + r.pf % 256) / 256 : Nat))
        lastError := if r.held.isSome then r.heldError else r.lastError } := by
  unfold TimerRun.newLength
  simp only [h, if_true]
  rfl

/-- R45, R46: without a jump the period register follows the error and the frame is slewed. -/
theorem newLength_of_slew {r : TimerRun} (h : r.jumps = false) {pf : Nat}
    (hpf : pf = adjustPf r.config r.pf r.heldError) :
    r.newLength =
      { r with
        pf := pf
        fraction := (r.fraction + pf % 256) % 256
        length := (((pf / 256 : Nat) : Int) + correction r.config r.heldError + ((r.fraction + pf % 256) / 256 : Nat)).toNat
        lastError := if r.held.isSome then r.heldError else r.lastError } := by
  subst hpf
  unfold TimerRun.newLength
  simp only [h, Bool.false_eq_true, if_false]
  rfl

/-- R46, R47: the frame an edge begins is sound if the one that ends was. -/
theorem newLength_sound {r : TimerRun} (h : r.Sound) : r.newLength.Sound := by
  obtain ⟨hc, hnew, hmin, hmax, hfraction, -, -⟩ := h
  by_cases hj : r.jumps = true
  · obtain ⟨hshort, hlong⟩ := jumpLength_bounds r.config
      (((r.pf / 256 : Nat) : Int) + r.heldError + ((r.fraction + r.pf % 256) / 256 : Nat))
    rw [newLength_of_jump hj]
    exact ⟨hc, hnew, hmin, hmax, Nat.le_of_lt_succ (Nat.mod_lt _ (by decide)), hshort, hlong⟩
  · obtain ⟨hlow, hhigh⟩ := adjustPf_bounds r.config r.pf r.heldError
    rw [newLength_of_slew (Bool.eq_false_of_not_eq_true hj) rfl]
    generalize adjustPf r.config r.pf r.heldError = pf at hlow hhigh
    obtain ⟨hshort, hlong⟩ := slewLength_bounds hc hlow hhigh (carry := (r.fraction + pf % 256) / 256) (by omega) r.heldError
    exact ⟨hc, hnew, hlow, hhigh, Nat.le_of_lt_succ (Nat.mod_lt _ (by decide)), hshort, hlong⟩

theorem clearAllowance_paced (r : TimerRun) : r.Paced r.clearAllowance := by
  unfold TimerRun.clearAllowance
  split <;> exact {}

theorem advance_sound {r : TimerRun} (h : r.Sound) : r.advance.Sound :=
  have cleared : r.newLength.Paced r.advance := (clearAllowance_paced r.newLength).trans {}
  cleared.sound (newLength_sound h)

/-- R43: a timer just started runs at P_nom. -/
theorem fresh_sound {c : TimerConfig} (h : TimerValuesSound c) (now : Stamp) : (TimerRun.fresh c now).Sound := by
  refine ⟨h, nofun, ?_, ?_, Nat.zero_le _, ?_, ?_⟩
  · exact Nat.sub_le ..
  · exact Nat.le_add_right ..
  · exact Nat.le_mul_of_pos_left _ (by decide)
  · exact Nat.mul_le_mul_right _ (by decide)

/-- R182, R183: a block that passes has its P_nom in range, and its values are those read from it. -/
theorem judgeBlock_ok {b : List Byte} {c : Config} (h : judgeBlock b = .ok c) :
    400000 ≤ fieldAt b 0 3 ∧ fieldAt b 0 3 ≤ 1200000 ∧ ∃ bitTime mode, c = buildConfig b bitTime mode := by
  unfold judgeBlock at h
  split at h
  · cases h
  · split at h
    · cases h
    · rename_i hperiod
      refine ⟨by omega, by omega, ?_⟩
      repeat' split at h
      all_goals cases h
      exact ⟨_, _, rfl⟩

theorem judgeRead_timer_sound {s : State} {c : Config} (h : s.judgeRead = .ok c) : TimerValuesSound c.timer := by
  obtain ⟨hlow, hhigh, bitTime, mode, rfl⟩ := judgeBlock_ok h
  refine ⟨hlow, hhigh, ?_⟩
  unfold buildConfig readTimerConfig replaced
  dsimp only
  split <;> omega

/-! ## The role (R49 to R53) -/

/-- R53: what the frame timer `r` makes of its role: it keeps it, counts in START, or enters a role it is not in. -/
inductive RoleMove (s : State) (r : TimerRun) : State → Prop
  | keep : RoleMove s r (s.setRun r)
  | count (k : Nat) (h : r.role = .start k) : RoleMove s r (s.setRun { r with role := .start (k + 1) })
  | anchored (h : r.role.role ≠ .anchored) : RoleMove s r (s.enterAnchored r)
  | leading (h : r.role.role ≠ .leading) : RoleMove s r (s.enterLeading r)
  | free (h : r.role.role ≠ .free) : RoleMove s r (s.enterFree r)
  | follow (n : Station) (h : ∀ lock j, r.role ≠ .following n lock j) : RoleMove s r (s.follow r n)

/-- R52: "choose", where the node is not FREE, does not follow a candidate, and leads only without permission. -/
theorem chooseRole_move {s : State} {r : TimerRun} (hfree : r.role.role ≠ .free)
    (hlead : r.role.role = .leading → s.mayLead r = false)
    (hfollow : ∀ n lock j, r.role = .following n lock j → s.candidateAs r.config.tLost n = none) :
    RoleMove s r (s.chooseRole r) := by
  unfold State.chooseRole
  split
  · rename_i n hn
    obtain ⟨⟨x, hx⟩, -⟩ := bestCandidate_some hn
    exact .follow n fun lock j h => by simp [hfollow n lock j h] at hx
  · split
    · exact .leading fun h => by simp_all
    · exact .free hfree

section EndStart

variable {s : State} {r : TimerRun}

theorem endStart_of_valid (h : r.capture.valid = true) : s.endStart r = s.enterAnchored r := if_pos h

theorem endStart_of_none (h : r.capture.valid = false) (hb : s.bestCandidate r.config.tLost = none) :
    s.endStart r = if s.mayLead r then s.enterLeading r else s.enterFree r := by
  simp [State.endStart, h, hb]

theorem endStart_of_best (h : r.capture.valid = false) {n : Station} (hb : s.bestCandidate r.config.tLost = some n) :
    s.endStart r =
      if s.stationRank r.config.tLost n < if s.mayLead r then leadingRank s.ownAtEdge else rankBelowAll then s.follow r n
      else if s.mayLead r then s.enterLeading r
      else s.enterFree r := by
  simp [State.endStart, h, hb]

theorem endStart_move {k : Nat} (h : r.role = .start k) : RoleMove s r (s.endStart r) := by
  have alone : RoleMove s r (if s.mayLead r then s.enterLeading r else s.enterFree r) := by
    split
    · exact .leading (by simp [h, TimerRole.role])
    · exact .free (by simp [h, TimerRole.role])
  cases hv : r.capture.valid with
  | true =>
    rw [endStart_of_valid hv]
    exact .anchored (by simp [h, TimerRole.role])
  | false =>
    cases hb : s.bestCandidate r.config.tLost with
    | none => exact endStart_of_none hv hb ▸ alone
    | some n =>
      rw [endStart_of_best hv hb]
      by_cases hn : s.stationRank r.config.tLost n < if s.mayLead r then leadingRank s.ownAtEdge else rankBelowAll
      · rw [if_pos hn]
        exact .follow n (by simp [h])
      · rw [if_neg hn]
        exact alone

end EndStart

/-- R52: every row of Table 4-3 is such a move. -/
theorem tableRole_move (s : State) (r : TimerRun) : RoleMove s r (s.tableRole r) := by
  unfold State.tableRole
  split
  · exact .keep
  · rename_i l h
    split
    · exact .keep
    · exact chooseRole_move (by simp [h, TimerRole.role]) (by simp [h, TimerRole.role]) (by simp [h])
  · rename_i h
    split
    · exact .anchored (by simp [h, TimerRole.role])
    · split
      · rename_i hm
        exact chooseRole_move (by simp [h, TimerRole.role]) (fun _ => by simpa using hm) (by simp [h])
      · split
        · split
          · exact .follow _ (by simp [h])
          · exact .keep
        · exact .keep
  · rename_i leader l j h
    split
    · exact .anchored (by simp [h, TimerRole.role])
    · split
      · rename_i hr
        refine chooseRole_move (by simp [h, TimerRole.role]) (by simp [h, TimerRole.role]) fun n lock j' hn => ?_
        obtain ⟨rfl, -, -⟩ : leader = n ∧ l = lock ∧ j = j' := by simpa [h] using hn
        refine Option.eq_none_iff_forall_ne_some.mpr fun x hx => ?_
        exact absurd (stationRank_lt_rankBelowAll.mpr ⟨x, hx⟩) (by omega)
      · split
        · split
          · rename_i n hn hlt
            refine .follow n fun lock j' hf => ?_
            obtain ⟨rfl, -, -⟩ : leader = n ∧ l = lock ∧ j = j' := by simpa [h] using hf
            exact absurd hlt (Nat.lt_irrefl _)
          · exact .keep
        · exact .keep
  · rename_i h
    split
    · exact .anchored (by simp [h, TimerRole.role])
    · split
      · exact .follow _ (by simp [h])
      · split
        · exact .leading (by simp [h, TimerRole.role])
        · exact .keep

/-- R49, R52: the role at an edge. -/
theorem evaluateRole_move (s : State) (r : TimerRun) : RoleMove s r (s.evaluateRole r) := by
  unfold State.evaluateRole
  split
  · rename_i k h
    split
    · exact endStart_move h
    · exact .count k h
  · exact tableRole_move s r

/-! ## What a role entered leaves (R53) -/

/-- R53 d: the frame timer leaves ANCHORED or LEADING. -/
def TimerRun.Leaves (r r' : TimerRun) : Prop :=
  (r.role.role = .anchored ∨ r.role.role = .leading) ∧ r'.role.role ≠ r.role.role

/-- R53: the frame timer has gone from `r` to `r'` by a move of its role: nothing but role, measurement and numbering pair
changes, a leader taken up is counted, and the SYNC is withdrawn where ANCHORED or LEADING is left. -/
structure RoleTaken (s : State) (r : TimerRun) (t : State) (r' : TimerRun) : Prop where
  run : t.timer.run = some r'
  tick : t.tick = s.tick
  timer : r' = { r with role := r'.role, held := r'.held, numbering := r'.numbering }
  edges : t.timer.edges = s.timer.edges
  counters : t.timer.counters = { s.timer.counters with leaderChange := t.timer.counters.leaderChange }
  sameLeader : r'.role.leader = none ∨ r'.role.leader = r.role.leader →
    t.timer.counters.leaderChange = s.timer.counters.leaderChange
  newLeader : r'.role.leader ≠ none → r'.role.leader ≠ r.role.leader →
    t.timer.counters.leaderChange = raise16 s.timer.counters.leaderChange
  withdrawn : r.Leaves r' → t.link = s.link.withdrawSync
  linkKept : ¬ r.Leaves r' → t.link = s.link

theorem leaveRole_timer (s : State) (r : TimerRun) : (s.leaveRole r).1.timer = s.timer := by
  unfold State.leaveRole
  split <;> rfl

theorem leaveRole_tick (s : State) (r : TimerRun) : (s.leaveRole r).1.tick = s.tick := by
  unfold State.leaveRole
  split <;> rfl

theorem leaveRole_numbering (s : State) (r : TimerRun) :
    (s.leaveRole r).2 = { r with numbering := (s.leaveRole r).2.numbering } := by
  unfold State.leaveRole
  split <;> rfl

theorem leaveRole_link (s : State) (r : TimerRun) :
    (s.leaveRole r).1.link =
      if r.role.role = .anchored ∨ r.role.role = .leading then s.link.withdrawSync else s.link := by
  unfold State.leaveRole
  cases h : r.role <;> rfl

/-- R53: entry to a role without a leader. -/
theorem leaveRole_setRun_taken (s : State) {r r' : TimerRun} (hrole : r'.role.role ≠ r.role.role)
    (hleader : r'.role.leader = none)
    (hrun : r' = { (s.leaveRole r).2 with role := r'.role, held := r'.held }) :
    RoleTaken s r ((s.leaveRole r).1.setRun r') r' where
  run := rfl
  tick := leaveRole_tick s r
  timer := by
    rw [hrun, leaveRole_numbering]
  edges := by
    show (s.leaveRole r).1.timer.edges = s.timer.edges
    rw [leaveRole_timer]
  counters := by
    show (s.leaveRole r).1.timer.counters =
      { s.timer.counters with leaderChange := (s.leaveRole r).1.timer.counters.leaderChange }
    rw [leaveRole_timer]
  sameLeader := fun _ => by
    show (s.leaveRole r).1.timer.counters.leaderChange = s.timer.counters.leaderChange
    rw [leaveRole_timer]
  newLeader := fun h => absurd hleader h
  withdrawn := fun h => (leaveRole_link s r).trans (if_pos h.1)
  linkKept := fun h => (leaveRole_link s r).trans (if_neg fun hr => h ⟨hr, hrole⟩)

theorem follow_taken (s : State) {r : TimerRun} {n : Station} (h : ∀ lock j, r.role ≠ .following n lock j) :
    RoleTaken s r (s.follow r n) { (s.leaveRole r).2 with role := .following n Lock.fresh r.role.allowsJump } where
  run := rfl
  tick := leaveRole_tick s r
  timer := by rw [leaveRole_numbering]
  edges := by
    show (s.leaveRole r).1.timer.edges = s.timer.edges
    rw [leaveRole_timer]
  counters := by
    show ({ (s.leaveRole r).1.timer.counters with leaderChange := _ } : TimerCounters) = _
    rw [leaveRole_timer]
    rfl
  sameLeader := fun hl => by
    rcases hl with hl | hl
    · cases hl
    · cases hr : r.role with
      | following m lock j =>
        rw [hr] at hl
        cases hl
        exact absurd hr (h lock j)
      | _ => rw [hr] at hl; cases hl
  newLeader := fun _ _ => by
    show raise16 (s.leaveRole r).1.timer.counters.leaderChange = raise16 s.timer.counters.leaderChange
    rw [leaveRole_timer]
  withdrawn := fun hl => (leaveRole_link s r).trans (if_pos hl.1)
  linkKept := fun hl => (leaveRole_link s r).trans (if_neg fun hr => hl ⟨hr, fun he => by
    rw [← he] at hr
    rcases hr with hr | hr <;> cases hr⟩)

theorem setRun_taken (s : State) {r r' : TimerRun} (hrole : r'.role.role = r.role.role)
    (hleader : r'.role.leader = r.role.leader) (hrun : r' = { r with role := r'.role }) :
    RoleTaken s r (s.setRun r') r' where
  run := rfl
  tick := rfl
  timer := by rw [hrun]
  edges := rfl
  counters := rfl
  sameLeader := fun _ => rfl
  newLeader := fun _ h => absurd hleader h
  withdrawn := fun h => absurd hrole h.2
  linkKept := fun _ => rfl

theorem RoleMove.taken {s t : State} {r : TimerRun} (h : RoleMove s r t) : ∃ r', RoleTaken s r t r' := by
  cases h with
  | keep => exact ⟨_, setRun_taken s rfl rfl rfl⟩
  | count k h => exact ⟨_, setRun_taken s (by rw [h]; rfl) (by rw [h]; rfl) rfl⟩
  | anchored h => exact ⟨_, leaveRole_setRun_taken s h.symm rfl rfl⟩
  | leading h => exact ⟨_, leaveRole_setRun_taken s h.symm rfl rfl⟩
  | free h => exact ⟨_, leaveRole_setRun_taken s h.symm rfl rfl⟩
  | follow n h => exact ⟨_, follow_taken s h⟩

theorem RoleTaken.paced {s t : State} {r r' : TimerRun} (h : RoleTaken s r t r') : r.Paced r' := by
  rw [h.timer]
  exact {}

end Sys2Proof.Machine
end

section
/-! SUPPORT. R45, R48: every command keeps the range of the period register and the bounds of the frame. -/

namespace Sys2Proof.Machine

open Sys2Proof

/-! ## Lock quality (R54) -/

/-- R54: a lock accounted with the measurement held. -/
def TimerRun.account (r : TimerRun) (l : Lock) : Lock :=
  l.account r.config.window r.config.tLost (r.held.map fun m => m.e)

/-- R54: the timer with its lock accounted. -/
def TimerRun.lockAccounted (r : TimerRun) : TimerRun :=
  match r.role.lock with
  | none => r
  | some l => { r with role := r.role.withLock (r.account l) }

/-- R54: accounting the lock loses it. -/
def TimerRun.LosesLock (r : TimerRun) : Prop :=
  ∃ l, r.role.lock = some l ∧ l.quality = .locked ∧ (r.account l).quality = .unlocked

theorem lockAccounted_of_lock {r : TimerRun} {l : Lock} (h : r.role.lock = some l) :
    r.lockAccounted = { r with role := r.role.withLock (r.account l) } := by
  unfold TimerRun.lockAccounted
  rw [h]

theorem lockAccounted_of_none {r : TimerRun} (h : r.role.lock = none) : r.lockAccounted = r := by
  unfold TimerRun.lockAccounted
  rw [h]

theorem lockAccounted_eq (r : TimerRun) : r.lockAccounted = { r with role := r.lockAccounted.role } := by
  unfold TimerRun.lockAccounted
  split <;> rfl

theorem lockAccounted_paced (r : TimerRun) : r.Paced r.lockAccounted := by
  rw [lockAccounted_eq]
  exact {}

/-- R54: accounting the lock changes neither the role nor its leader. -/
theorem lockAccounted_role (r : TimerRun) :
    r.lockAccounted.role.role = r.role.role ∧ r.lockAccounted.role.leader = r.role.leader := by
  unfold TimerRun.lockAccounted
  cases h : r.role <;> simp [TimerRole.lock, TimerRole.withLock, TimerRole.role, TimerRole.leader, h]

theorem accountLock_of_lost {r : TimerRun} (h : r.LosesLock) (s : State) :
    s.accountLock r =
      (s.setRun r.lockAccounted).setTimerCounters
        { s.timer.counters with lockLoss := raise16 s.timer.counters.lockLoss } := by
  obtain ⟨l, hl, before, after⟩ := h
  unfold State.accountLock
  rw [lockAccounted_of_lock hl, hl]
  exact if_pos ⟨before, after⟩

theorem accountLock_of_not_lost {r : TimerRun} (h : ¬ r.LosesLock) (s : State) :
    s.accountLock r = s.setRun r.lockAccounted := by
  unfold State.accountLock
  cases hl : r.role.lock with
  | none => rw [lockAccounted_of_none hl]
  | some l =>
    rw [lockAccounted_of_lock hl]
    exact if_neg fun hq => h ⟨l, hl, hq.1, hq.2⟩

theorem accountLock_run (s : State) (r : TimerRun) : (s.accountLock r).timer.run = some r.lockAccounted := by
  by_cases h : r.LosesLock
  · rw [accountLock_of_lost h]
    rfl
  · rw [accountLock_of_not_lost h]
    rfl

theorem lockEdge_run (s : State) (r : TimerRun) :
    (s.lockEdge r).timer.run = some (if s.ahead.lock then r else r.lockAccounted) := by
  unfold State.lockEdge
  split
  · rfl
  · exact accountLock_run s r

/-! ## Sound states to sound states -/

/-- R45, R48: a sound frame timer stays sound. -/
structure PaceKept (s t : State) : Prop where
  sound : s.TimerSound → t.TimerSound := by exact id

theorem PaceKept.refl (s : State) : PaceKept s s := {}

theorem PaceKept.trans {a b c : State} (h : PaceKept a b) (k : PaceKept b c) : PaceKept a c := ⟨k.sound ∘ h.sound⟩

theorem PaceKept.ofTimer {s t : State} (h : t.timer = s.timer) : PaceKept s t :=
  ⟨fun hs r hr => hs r (by rwa [h] at hr)⟩

/-- A timer that runs on at its pace stays sound. -/
theorem PaceKept.ofPaced {s t : State} {r r' : TimerRun} (hs : s.timer.run = some r) (ht : t.timer.run = some r')
    (h : r.Paced r') : PaceKept s t :=
  ⟨fun sound x hx => by
    obtain rfl : r' = x := Option.some.inj (ht.symm.trans hx)
    exact h.sound (sound r hs)⟩

theorem PaceKept.ofStopped {s t : State} (h : t.timer.run = none) : PaceKept s t :=
  ⟨fun _ _ hx => by simp [h] at hx⟩

theorem PaceKept.ofRun {s t : State} {r : TimerRun} (ht : t.timer.run = some r) (h : r.Sound) : PaceKept s t :=
  ⟨fun _ _ hx => Option.some.inj (ht.symm.trans hx) ▸ h⟩

theorem RoleMove.pace {s t : State} {r : TimerRun} (h : RoleMove s r t) (hr : s.timer.run = some r) : PaceKept s t :=
  have ⟨_, taken⟩ := h.taken
  .ofPaced hr taken.run taken.paced

theorem lockEdge_pace {s : State} {r : TimerRun} (hr : s.timer.run = some r) : PaceKept s (s.lockEdge r) := by
  refine .ofPaced hr (lockEdge_run s r) ?_
  split
  · exact {}
  · exact lockAccounted_paced r

theorem roleEdge_pace (s : State) : PaceKept s s.roleEdge := by
  unfold State.roleEdge
  split
  · exact .refl s
  · rename_i r hr
    split
    · exact .refl s
    · exact (evaluateRole_move s r).pace hr

/-- R44: work on the aged entries finds the frame timer as it is. -/
theorem onAged_pace {s : State} {work : State → State} (h : ∀ t, t.timer = s.timer → PaceKept t (work t)) :
    PaceKept s (s.onAged work) := by
  unfold State.onAged
  split
  · exact h s rfl
  · rename_i c _
    have aged := (agePeers_frame s c).timer
    exact .trans (.ofTimer aged) (.trans (h _ aged) {})

/-! ## Measurement (R51, R59) -/

theorem follow_run (s : State) (r : TimerRun) (n : Station) :
    (s.follow r n).timer.run = some { (s.leaveRole r).2 with role := .following n Lock.fresh r.role.allowsJump } := rfl

theorem followAndMeasure_pace {s : State} {r : TimerRun} (hr : s.timer.run = some r) (o : Station) (f : SyncFields)
    (a : Stamp) : PaceKept s (s.followAndMeasure r o f a) := by
  have followed : r.Paced { (s.leaveRole r).2 with role := .following o Lock.fresh r.role.allowsJump } := by
    rw [leaveRole_numbering]
    exact {}
  unfold State.followAndMeasure
  dsimp only
  rw [follow_run]
  exact .ofPaced hr rfl (followed.trans {})

/-- R51: a SYNC changes neither period register nor frame length. -/
theorem takeSync_pace (s : State) (own : Option Station) (o : Station) (f : SyncFields) (a : Stamp) :
    PaceKept s (s.takeSync own o f a) := by
  unfold State.takeSync
  split
  · exact .refl s
  · rename_i r hr
    dsimp only
    split
    · exact {}
    · split
      · exact .refl s
      · repeat' split
        · exact .refl s
        · exact .ofPaced hr rfl {}
        · exact .refl s
        · exact followAndMeasure_pace hr o f a
        · exact .refl s
        · exact followAndMeasure_pace hr o f a
        · exact .refl s
        · exact .ofPaced hr rfl {}
        · exact followAndMeasure_pace hr o f a
        · exact .refl s

/-! ## The edge (R44) -/

/-- The tick counter and the frame timer are as they were. -/
structure ClockAlike (s t : State) : Prop where
  tick : t.tick = s.tick := by rfl
  timer : t.timer = s.timer := by rfl

theorem ClockAlike.trans {a b c : State} (h : ClockAlike a b) (k : ClockAlike b c) : ClockAlike a c :=
  ⟨k.tick.trans h.tick, k.timer.trans h.timer⟩

/-- R44: no block but the frame timer writes the tick counter or the frame timer at an edge. -/
theorem blocksEdge_clock (s : State) (c : Config) (pins : BitVec 8) (first : Bool) :
    ClockAlike s (s.blocksEdge c pins first) := by
  have numbered (t : State) : ClockAlike t (if first = true then t else t.numberEdge) := by
    split
    · exact {}
    · exact ⟨(numberEdge_frame t).tick, (numberEdge_frame t).timer⟩
  have walled (t : State) : ClockAlike t (t.wallEdge c) := by
    have h := wallEdge_frame t c t.ingest t.wall
    exact ⟨by simpa using congrArg State.tick h, by simpa using congrArg State.timer h⟩
  have reported (t : State) (own : Option Station) : ClockAlike t (t.reportEdge c own) := by
    have h := reportEdge_frame t c own t.link
    exact ⟨by simpa using congrArg State.tick h, by simpa using congrArg State.timer h⟩
  have lanes {t u : State} (h : LanesAndFetch t u) : ClockAlike t u := ⟨h.tick, h.timer⟩
  have pinned {t u : State} (h : PinsAndLanes t u) : ClockAlike t u := ⟨h.tick, h.timer⟩
  unfold State.blocksEdge
  dsimp only
  refine .trans ?_ (reported _ _)
  refine .trans ?_ (pinned (pinsEdge_frame _ c pins))
  refine .trans ?_ ⟨setBudget_tick .., setBudget_timer ..⟩
  refine .trans ?_ ⟨setOutput_tick .., setOutput_timer ..⟩
  refine .trans ?_ (lanes (lanesEdge_frame _ c))
  refine .trans ?_ (lanes (fetchEdge_frame _ c))
  refine .trans ?_ (walled _)
  refine .trans ?_ ⟨setIngest_tick .., setIngest_timer ..⟩
  exact .trans (b := s.triggerQueueEdge) {} (numbered _)

theorem edge_clock (s : State) (c : Config) (pins : BitVec 8) :
    ClockAlike (s.agePeers c).timerEdge (s.edge c pins) := by
  unfold State.edge
  dsimp only
  refine .trans ?_ ⟨setAhead_tick .., setAhead_timer ..⟩
  split
  · exact blocksEdge_clock ..
  · exact {}

theorem runEdge_pace {s : State} {r : TimerRun} (h : r.Sound) : (s.runEdge r).TimerSound := by
  have begun : ((s.countEdge r).setRun r.advance).TimerSound := fun x hx => by
    cases hx
    exact advance_sound h
  have locked : PaceKept ((s.countEdge r).setRun r.advance) ((s.countEdge r).lockEdge r.advance) :=
    .ofPaced rfl (lockEdge_run ..) (by
      split
      · exact {}
      · exact lockAccounted_paced _)
  have written (t : State) : PaceKept t t.writeBeacon := by
    unfold State.writeBeacon
    repeat' split
    all_goals exact {}
  have cleared (t : State) : PaceKept t t.clearHeld := by
    unfold State.clearHeld
    split
    · exact {}
    · exact .ofPaced ‹_› rfl {}
  unfold State.runEdge
  dsimp only
  generalize (s.countEdge r).lockEdge r.advance = t at locked
  have stale : PaceKept t.roleEdge (t.roleEdge.setLink t.roleEdge.link.cancelStale) := {}
  exact (locked.trans ((roleEdge_pace t).trans (stale.trans ((written _).trans (cleared _))))).sound begun

theorem timerEdge_pace (s : State) : PaceKept s s.timerEdge := by
  unfold State.timerEdge
  split
  · exact .refl s
  · rename_i r hr
    dsimp only
    split
    · rename_i c hc
      exact ⟨fun sound x hx => by
        cases hx
        exact fresh_sound ((sound r hr).2.1 c hc) _⟩
    · exact ⟨fun sound => runEdge_pace (sound r hr)⟩

theorem edge_pace (s : State) (c : Config) (pins : BitVec 8) : PaceKept s (s.edge c pins) :=
  .trans (.ofTimer (agePeers_frame s c).timer) (.trans (timerEdge_pace _) (.ofTimer (edge_clock s c pins).timer))

/-! ## Delivery -/

theorem firstStep_timer (s : State) (m : LinkMessage) (sync : Option SyncFields) (isClaim : Bool) :
    (s.firstStep m sync isClaim).timer = s.timer := by
  have entered (t : State) : (t.hearPeer m.origin sync).timer = t.timer := by
    simpa using congrArg State.timer ((hearPeer_frame t m.origin sync).same t.peers)
  exact (hearOrigin_frame ..).timer.trans ((entered _).trans (advanceTo_timer ..))

theorem receive_pace (s : State) (k : MessageKind) (m : LinkMessage) {consumer : State → Option Station → State}
    (h : ∀ t own, PaceKept t (consumer t own)) : PaceKept s (s.receive k m consumer) := by
  have first (sync : Option SyncFields) (isClaim : Bool) : PaceKept s (s.firstStep m sync isClaim) :=
    .ofTimer (firstStep_timer ..)
  unfold State.receive
  dsimp only
  split
  · split
    · exact (first _ _).trans (h ..)
    · exact (first _ _).trans {}
  · exact .refl s

theorem selfReceive_pace (s : State) (a : Attempt) (head : Option CueMessage) : PaceKept s (s.selfReceive a head) := by
  have sent (n : Nat) : PaceKept s (s.ownSyncSent n) := by
    unfold State.ownSyncSent
    split
    · exact .refl s
    · exact .ofPaced ‹_› rfl {}
  unfold State.selfReceive
  repeat' split
  · exact sent _
  · exact .ofTimer (ownClaimSent_frame ..).timer
  · exact {}
  · exact {}
  · exact {}
  · exact .ofTimer (deliverCue_frame ..).timer
  · exact {}

theorem askRead_pace (s : State) : PaceKept s s.askRead :=
  .ofTimer (by simpa using congrArg State.timer (askRead_frame s s.startup s.fetch))

theorem takeRestart_pace (s : State) (own : Option Station) (target : Nat) : PaceKept s (s.takeRestart own target) := by
  unfold State.takeRestart
  repeat' split
  · exact {}
  · unfold State.warmRestart
    exact ⟨fun hs => (askRead_pace _).sound hs⟩
  · exact {}
  · exact {}

theorem takeQuery_pace (s : State) (own : Option Station) (o : Station) (q : QueryFields) :
    PaceKept s (s.takeQuery own o q) := by
  unfold State.takeQuery
  dsimp only
  repeat' split
  all_goals exact {}

/-! ## Starts and parts of an edge -/

/-- R43, R65: a block that passes starts the timer, or leaves it its pace, or its next edge a sound P_nom to start with. -/
theorem pass_pace (s : State) {c : Config} (hc : TimerValuesSound c.timer) (now : Stamp) (pins : BitVec 8) :
    PaceKept s (s.pass c now pins) := by
  have continued {t : State} {r : TimerRun} (hr : t.timer.run = some r) : PaceKept t (t.continueTimer r c) := by
    unfold State.continueTimer
    split
    · rename_i hp
      refine ⟨fun hs x hx => ?_⟩
      cases hx
      obtain ⟨-, -, hmin, hmax, hfraction, hshort, hlong⟩ := hs r hr
      unfold pfMin at hmin
      unfold pfMax at hmax
      rw [← hp] at hmin hmax hshort hlong
      exact ⟨hc, nofun, hmin, hmax, hfraction, hshort, hlong⟩
    · refine ⟨fun hs x hx => ?_⟩
      cases hx
      obtain ⟨hold, -, rest⟩ := hs r hr
      exact ⟨hold, fun _ he => Option.some.inj he ▸ hc, rest⟩
  have started (t : State) : PaceKept t (t.startTimer c now pins) :=
    .ofRun (r := TimerRun.fresh c.timer now) (congrArg FrameTimer.run (blocksEdge_clock _ c pins true).timer)
      (fresh_sound hc now)
  have emptied : PaceKept s s.peersAtPass := by
    unfold State.peersAtPass
    split <;> exact {}
  have numbered : PaceKept ((s.peersAtPass.setStartup (s.peersAtPass.startup.pass c)).startBlocks c)
      (((s.peersAtPass.setStartup (s.peersAtPass.startup.pass c)).startBlocks c).startNumber c) :=
    .ofTimer (startNumber_frame ..).timer
  unfold State.pass
  dsimp only
  refine emptied.trans (.trans (b := (s.peersAtPass.setStartup (s.peersAtPass.startup.pass c)).startBlocks c) {}
    (numbered.trans ?_))
  split
  · exact continued ‹_›
  · exact started _

theorem choosePort_pace (s : State) : PaceKept s s.choosePort :=
  .ofTimer (LanesAndFetch.ofFetch (choosePort_frame s)).timer

theorem execConfigReadEnd_pace (now : Stamp) (pins : BitVec 8) (s : State) :
    ∃ t, execConfigReadEnd now pins s = .next t ∧ PaceKept s t := by
  have ended (t : State) : PaceKept t t.endRead :=
    .trans (b := (t.setStartup { t.startup with readAsked := false }).setFetch { t.fetch with port := .none }) {}
      (choosePort_pace _)
  refine ⟨_, rfl, ?_⟩
  dsimp only
  split
  · refine .trans (.ofTimer (advanceTo_timer s now)) ?_
    split
    · rename_i c hc
      exact (ended _).trans (pass_pace _ (judgeRead_timer_sound hc) now pins)
    · exact .ofStopped rfl
  · exact .refl s

theorem execStartEnd_pace (s : State) : ∃ t, execStartEnd s = .next t ∧ PaceKept s t := by
  refine ⟨_, rfl, ?_⟩
  split
  · exact .refl s
  · rename_i r hr
    obtain ⟨hrun, -⟩ := runDue_eq_some.mp hr
    split
    · rename_i k hk
      split
      · exact .trans (onAged_pace fun t ht => (endStart_move hk).pace (by rw [ht, hrun])) {}
      · exact .refl s
    · exact .refl s

theorem execLockQuietLoss_pace (s : State) : ∃ t, execLockQuietLoss s = .next t ∧ PaceKept s t := by
  refine ⟨_, rfl, ?_⟩
  split
  · exact .refl s
  · rename_i r hr
    obtain ⟨hrun, -⟩ := runDue_eq_some.mp hr
    repeat' split
    · exact .refl s
    · exact .ofPaced hrun rfl {}
    · exact .refl s

theorem execPeerAgeOut_pace (n : Station) (s : State) : ∃ t, execPeerAgeOut n s = .next t ∧ PaceKept s t := by
  have lost (t : State) : PaceKept t (t.loseLeader n) := by
    unfold State.loseLeader
    split
    · exact .refl t
    · rename_i r hr
      obtain ⟨hrun, -⟩ := runDue_eq_some.mp hr
      repeat' split
      · exact .trans (lockEdge_pace hrun) (.trans (onAged_pace fun u _ => roleEdge_pace u) {})
      · exact .refl t
      · exact .refl t
  refine ⟨_, rfl, ?_⟩
  split
  · exact .trans (.ofTimer (ageOut_frame s n).timer) (.trans (lost _) (.ofTimer (retryNumber_frame _ n).1))
  · exact .refl s

theorem execReferencePulse_pace (now : Stamp) (s : State) :
    ∃ t, execReferencePulse now s = .next t ∧ PaceKept s t := by
  refine ⟨_, rfl, .trans (.ofTimer (advanceTo_timer s now)) ?_⟩
  generalize s.advanceTo now = t
  split
  · exact .refl t
  · dsimp only
    repeat' split
    all_goals exact .ofPaced ‹_› rfl {}

theorem execReferenceTimeout_pace (s : State) : ∃ t, execReferenceTimeout s = .next t ∧ PaceKept s t := by
  refine ⟨_, rfl, ?_⟩
  split
  · exact .refl s
  · split
    · exact .refl s
    · exact .ofPaced ‹_› rfl {}

/-! ## Commands of other blocks -/

theorem execLinkFault_pace (k : LinkFaultKind) (phase : SignalPhase) (s : State) :
    ∃ t, execLinkFault k phase s = .next t ∧ PaceKept s t := by
  refine ⟨_, rfl, ?_⟩
  split
  · exact .trans (b := s.setLink { s.link with lastFault := FaultCode.ofKind k }) {} <|
      .trans (.ofTimer (attemptFailed_frame _).timer) <| .trans (.ofTimer (countFault_frame ..).timer) {}
  · exact .refl s

theorem raiseRequest_pace (s : State) : PaceKept s s.raiseRequest := by
  unfold State.raiseRequest
  dsimp only
  repeat' split
  · exact {}
  · exact .trans (b := s.setFetch { s.fetch with loaderRequest := true }) {} (choosePort_pace _)
  · exact {}

theorem execLoaderRelease_pace (drop : LoaderDrop) (s : State) :
    ∃ t, execLoaderRelease drop s = .next t ∧ PaceKept s t := by
  have ended (t : State) (b : Bool) : PaceKept t (if b = true then t.endGrant drop.writes else t) := by
    unfold State.endGrant
    dsimp only
    repeat' split
    all_goals exact {}
  have chosen (t : State) (b : Bool) : PaceKept t
      (if drop.risesAgain = true then t.raiseRequest else if b && decide (t.startup.phase ≠ .reset) then t.choosePort
       else t) := by
    repeat' split
    · exact raiseRequest_pace t
    · exact choosePort_pace t
    · exact .refl t
  exact ⟨_, rfl, .trans (b := s.setFetch { s.fetch with loaderRequest := false }) {}
    (.trans (ended _ s.fetch.grant) (chosen _ s.fetch.grant))⟩

/-- Every command answers a next state with a sound frame timer kept sound. -/
theorem exec_pace (c : Instr) (s : State) : ∃ t, exec c s = .next t ∧ PaceKept s t := by
  cases c with
  | coldReset by_ => cases by_ <;> exact ⟨_, rfl, .ofStopped rfl⟩
  | resetRelease by_ =>
    refine ⟨_, rfl, ?_⟩
    dsimp only
    repeat' split
    · exact {}
    · exact .trans (b := (State.setTick _ 0).setFetch _ |>.setStartup _) {}
        (askRead_pace _)
    · exact {}
  | configReadEnd now pins => exact execConfigReadEnd_pace now pins s
  | linkFault kind phase => exact execLinkFault_pace kind phase s
  | attemptStart now =>
    refine ⟨_, rfl, .trans (.ofTimer (advanceTo_timer s now)) ?_⟩
    split <;> exact {}
  | arbitrationLoss => exact ⟨_, rfl, .ofTimer (attemptFailed_frame s).timer⟩
  | claimLoss =>
    refine ⟨_, rfl, ?_⟩
    repeat' split
    · exact .trans (.ofTimer (attemptFailed_frame s).timer) (.ofTimer (claimLost_frame ..).timer)
    · exact .refl s
    · exact .refl s
  | messageSent =>
    refine ⟨_, rfl, ?_⟩
    split
    · exact .refl s
    · exact .trans (b := s.setLink _) {} (selfReceive_pace ..)
  | syncReceived m => exact ⟨_, rfl, receive_pace s _ m fun _ _ => takeSync_pace ..⟩
  | claimReceived m => exact ⟨_, rfl, receive_pace s _ m fun _ _ => .ofTimer (hearClaim_frame ..).timer⟩
  | goReceived m => exact ⟨_, rfl, receive_pace s _ m fun _ _ => .ofTimer (deliverCue_frame ..).timer⟩
  | holdReceived m => exact ⟨_, rfl, receive_pace s _ m fun _ _ => .ofTimer (deliverCue_frame ..).timer⟩
  | releaseReceived m => exact ⟨_, rfl, receive_pace s _ m fun _ _ => .ofTimer (deliverCue_frame ..).timer⟩
  | tallyReceived m => exact ⟨_, rfl, receive_pace s _ m fun _ _ => {}⟩
  | queryReceived m => exact ⟨_, rfl, receive_pace s _ m fun _ _ => takeQuery_pace ..⟩
  | answerReceived m => exact ⟨_, rfl, receive_pace s _ m fun _ _ => {}⟩
  | statusReceived m =>
    refine ⟨_, rfl, receive_pace s _ m fun t _ => ?_⟩
    split
    · exact .refl t
    · exact .ofTimer (by simpa using congrArg State.timer ((hearStatusRole_frame t _ _).same t.peers))
  | unknownMessageReceived cls kind m =>
    refine ⟨_, rfl, ?_⟩
    split
    · exact .ofTimer (firstStep_timer ..)
    · exact .refl s
  | restartReceived m => exact ⟨_, rfl, receive_pace s _ m fun t own => takeRestart_pace t own _⟩
  | frameEdge pins =>
    refine ⟨_, rfl, ?_⟩
    split
    · exact edge_pace ..
    · exact .refl s
  | startEnd => exact execStartEnd_pace s
  | lockQuietLoss => exact execLockQuietLoss_pace s
  | candidateChoice =>
    refine ⟨_, rfl, ?_⟩
    repeat' split
    · exact .trans (onAged_pace fun t _ => .ofTimer (chooseCandidate_frame t).timer) {}
    · exact .refl s
    · exact .refl s
  | claimWindowEnd =>
    refine ⟨_, rfl, ?_⟩
    repeat' split
    all_goals exact {}
  | triggerQualified e =>
    refine ⟨_, rfl, ?_⟩
    repeat' split
    · exact .trans (.ofTimer (samplePins_frame ..).timer) {}
    · exact .refl s
    · exact .refl s
  | peerAgeOut n => exact execPeerAgeOut_pace n s
  | referencePulse now => exact execReferencePulse_pace now s
  | referenceTimeout => exact execReferenceTimeout_pace s
  | rowArrival levels =>
    exact ⟨_, rfl, .trans (b := s.setPixelPort (s.pixelPort.run levels).1) {}
      (foldl_frame PaceKept _ .refl (fun _ _ _ => .trans)
        (fun t p => .ofTimer (by simpa using congrArg State.timer (takePacket_frame t p t.ingest))) _ _)⟩
  | fetchComplete => exact ⟨_, rfl, .ofTimer (completeFetch_frame s).timer⟩
  | fetchTimeout lane =>
    refine ⟨_, rfl, ?_⟩
    split
    · exact .ofTimer (timeOut_frame ..).timer
    · exact .refl s
  | loaderRequest => exact ⟨_, rfl, raiseRequest_pace s⟩
  | loaderRelease drop => exact execLoaderRelease_pace drop s
  | detachedRecovery levels =>
    refine ⟨_, rfl, ?_⟩
    dsimp only
    repeat' split
    all_goals exact {}
  | linkJoin | staleBeacon | triggerExpired | duplicateClear | wallHeld | limitStepUp | rowCommit
  | railSample =>
    refine ⟨_, rfl, ?_⟩
    repeat' split
    all_goals exact {}

/-- Settles O59: a tick leaves the frame timer, and every command keeps it sound. -/
theorem framesKeepTheirLength : Obligations.FramesKeepTheirLength := by
  intro s t hs h
  unfold step at h
  split at h
  · cases h
    unfold State.idle
    split <;> exact hs
  · rename_i c rest _
    obtain ⟨u, hu, hk⟩ := exec_pace c (s.setPending rest)
    rw [hu] at h
    cases h
    exact hk.sound hs

end Sys2Proof.Machine
end

section
/-! SUPPORT. What an edge makes of the frame timer: stamps, loop and number, lock and role (R44 to R54, R62, R63, R65). -/

namespace Sys2Proof.Machine

open Sys2Proof

/-! ## The frame timer's own work (R44) -/

/-- The running timer as it is: no move of the role. -/
theorem RoleTaken.refl {s : State} {r : TimerRun} (h : s.timer.run = some r) : RoleTaken s r s r where
  run := h
  tick := rfl
  timer := rfl
  edges := rfl
  counters := rfl
  sameLeader := fun _ => rfl
  newLeader := fun _ hr => absurd rfl hr
  withdrawn := fun hl => absurd rfl hl.2
  linkKept := fun _ => rfl

theorem roleEdge_of_run {s : State} {r : TimerRun} (h : s.timer.run = some r) :
    s.roleEdge = if s.ahead.role then s else s.evaluateRole r := by
  unfold State.roleEdge
  rw [h]

theorem roleEdge_taken {s : State} {r : TimerRun} (h : s.timer.run = some r) : ∃ r', RoleTaken s r s.roleEdge r' := by
  rw [roleEdge_of_run h]
  split
  · exact ⟨r, .refl h⟩
  · exact (evaluateRole_move s r).taken

/-- R44: the timer whose role an edge evaluates: moved on, its lock accounted unless a command has done so. -/
def State.timerAtRole (s : State) (r : TimerRun) : TimerRun :=
  if s.ahead.lock then r.advance else r.advance.lockAccounted

/-- R44: the state in which an edge evaluates the role. -/
def State.stateAtRole (s : State) (r : TimerRun) : State := (s.countEdge r).lockEdge r.advance

/-- R44: what an edge has done before the role is evaluated: the counts of the edge and of a lock lost. -/
structure BeforeRole (s : State) (r : TimerRun) (a : State) : Prop where
  run : a.timer.run = some (s.timerAtRole r)
  tick : a.tick = s.tick
  ahead : a.ahead = s.ahead
  startup : a.startup = s.startup
  number : a.number = s.number
  peers : a.peers = s.peers
  link : a.link = s.link
  edges : a.timer.edges = s.timer.edges
  jump : a.timer.counters.jump = if r.jumps then raise16 s.timer.counters.jump else s.timer.counters.jump
  leaderChange : a.timer.counters.leaderChange = s.timer.counters.leaderChange
  lost : s.ahead.lock = false → r.advance.LosesLock →
    a.timer.counters.lockLoss = raise16 s.timer.counters.lockLoss
  notLost : ¬ r.advance.LosesLock → a.timer.counters.lockLoss = s.timer.counters.lockLoss

theorem stateAtRole_spec (s : State) (r : TimerRun) : BeforeRole s r (s.stateAtRole r) := by
  have run := lockEdge_run (s.countEdge r) r.advance
  unfold State.stateAtRole
  unfold State.lockEdge at run ⊢
  cases ha : s.ahead.lock with
  | true =>
    rw [show (s.countEdge r).ahead.lock = true from ha] at run ⊢
    exact ⟨by rw [run, State.timerAtRole, ha], rfl, rfl, rfl, rfl, rfl, rfl, rfl, rfl, rfl,
      fun h => by simp [ha] at h, fun _ => rfl⟩
  | false =>
    rw [show (s.countEdge r).ahead.lock = false from ha] at run ⊢
    rw [if_neg Bool.false_ne_true] at run ⊢
    by_cases hl : r.advance.LosesLock
    · rw [accountLock_of_lost hl] at run ⊢
      exact ⟨by rw [run, State.timerAtRole, ha], rfl, rfl, rfl, rfl, rfl, rfl, rfl, rfl, rfl,
        fun _ _ => rfl, fun h => absurd hl h⟩
    · rw [accountLock_of_not_lost hl] at run ⊢
      exact ⟨by rw [run, State.timerAtRole, ha], rfl, rfl, rfl, rfl, rfl, rfl, rfl, rfl, rfl,
        fun _ h => absurd h hl, fun _ => rfl⟩

theorem timerAtRole_eq (s : State) (r : TimerRun) :
    s.timerAtRole r = { r.advance with role := (s.timerAtRole r).role } := by
  unfold State.timerAtRole
  split
  · rfl
  · exact lockAccounted_eq _

/-- R44: the edge of the timer `r` after its role: beacons written, measurement and pair gone. -/
theorem runEdge_spec (s : State) (r : TimerRun) :
    ∃ r2, RoleTaken (s.stateAtRole r) (s.timerAtRole r) (s.stateAtRole r).roleEdge r2 ∧
      (s.runEdge r).tick = s.tick ∧
      (s.runEdge r).timer =
        { (s.stateAtRole r).roleEdge.timer with run := some { r2 with held := none, numbering := none } } ∧
      (s.runEdge r).link =
        ((s.stateAtRole r).roleEdge.setLink (s.stateAtRole r).roleEdge.link.cancelStale).writeBeacon.link := by
  have before := stateAtRole_spec s r
  obtain ⟨r2, taken⟩ := roleEdge_taken before.run
  have written (t : State) : ClockAlike t t.writeBeacon := by
    unfold State.writeBeacon
    repeat' split
    all_goals exact {}
  have cleared {t : State} (h : t.timer.run = some r2) :
      t.clearHeld = t.setRun { r2 with held := none, numbering := none } := by
    unfold State.clearHeld
    rw [h]
  have whole : s.runEdge r =
      ((s.stateAtRole r).roleEdge.setLink (s.stateAtRole r).roleEdge.link.cancelStale).writeBeacon.clearHeld := rfl
  have kept := written ((s.stateAtRole r).roleEdge.setLink (s.stateAtRole r).roleEdge.link.cancelStale)
  rw [whole, cleared ((congrArg FrameTimer.run kept.timer).trans taken.run)]
  refine ⟨r2, taken, kept.tick.trans (taken.tick.trans before.tick), ?_, rfl⟩
  show ({ State.timer _ with run := _ } : FrameTimer) = _
  rw [kept.timer]
  rfl

/-! ## The whole edge -/

/-- R44: the state in which the frame timer `r` takes its edge, the entries aged and the edge counted. -/
def State.stateAtEdge (s : State) (c : Config) (r : TimerRun) : State :=
  ((s.agePeers c).advanceTo r.nextEdge).countOrder

structure AtEdge (s : State) (c : Config) (r : TimerRun) (u : State) : Prop where
  tick : u.tick = (s.advanceTo r.nextEdge).tick
  timer : u.timer = { s.timer with edges := s.timer.edges + 1 }
  ahead : u.ahead = s.ahead
  startup : u.startup = s.startup
  number : u.number = s.number
  peers : u.peers = (s.agePeers c).peers
  link : u.link = s.link

theorem advanceTo_tick_congr {s t : State} (h : t.tick = s.tick) (now : Stamp) :
    (t.advanceTo now).tick = (s.advanceTo now).tick := by
  unfold State.advanceTo
  rw [h]
  split
  · rfl
  · exact h

theorem stateAtEdge_spec (s : State) (c : Config) (r : TimerRun) : AtEdge s c r (s.stateAtEdge c r) := by
  have aged := agePeers_frame s c
  refine ⟨advanceTo_tick_congr aged.tick _, ?_, (advanceTo_ahead ..).trans aged.ahead,
    (advanceTo_startup ..).trans aged.startup, (advanceTo_number ..).trans aged.number, advanceTo_peers ..,
    (advanceTo_link ..).trans aged.link⟩
  show ({ State.timer _ with edges := _ } : FrameTimer) = _
  rw [advanceTo_timer, aged.timer]

theorem timerEdge_of_running {s : State} {r : TimerRun} (hr : s.timer.run = some r) (hn : r.restart = none) (c : Config) :
    (s.agePeers c).timerEdge = (s.stateAtEdge c r).runEdge r := by
  have aged := (agePeers_frame s c).timer
  unfold State.timerEdge
  rw [aged, hr]
  dsimp only
  rw [hn]
  rfl

/-- R65: an edge that starts the timer anew. -/
theorem timerEdge_of_restart {s : State} {r : TimerRun} {x : TimerConfig} (hr : s.timer.run = some r)
    (hn : r.restart = some x) (c : Config) :
    (s.agePeers c).timerEdge = (s.stateAtEdge c r).restartEdge x r.nextEdge := by
  have aged := (agePeers_frame s c).timer
  unfold State.timerEdge
  rw [aged, hr]
  dsimp only
  rw [hn]
  rfl

/-- R62, R63: of the timer only role, measurement and pair are other than the move on to the next frame leaves them. -/
theorem edge_run {s : State} {r : TimerRun} (hr : s.timer.run = some r) (hn : r.restart = none) (c : Config)
    (pins : BitVec 8) :
    ∃ r2, RoleTaken ((s.stateAtEdge c r).stateAtRole r) ((s.stateAtEdge c r).timerAtRole r)
        ((s.stateAtEdge c r).stateAtRole r).roleEdge r2 ∧
      (s.edge c pins).timer.run = some { r.advance with role := r2.role, held := none, numbering := none } ∧
      (s.edge c pins).timer.edges = s.timer.edges + 1 ∧
      (s.edge c pins).timer.counters = ((s.stateAtEdge c r).stateAtRole r).roleEdge.timer.counters ∧
      (s.edge c pins).tick = (s.advanceTo r.nextEdge).tick := by
  have arrived := stateAtEdge_spec s c r
  obtain ⟨r2, taken, tick, timer, -⟩ := runEdge_spec (s.stateAtEdge c r) r
  have clock := edge_clock s c pins
  rw [timerEdge_of_running hr hn] at clock
  have same : ({ r2 with held := none, numbering := none } : TimerRun) =
      { r.advance with role := r2.role, held := none, numbering := none } := by
    rw [taken.timer, timerAtRole_eq]
  refine ⟨r2, taken, ?_, ?_, ?_, clock.tick.trans (tick.trans arrived.tick)⟩
  · rw [clock.timer, timer, same]
  · rw [clock.timer, timer]
    exact taken.edges.trans ((stateAtRole_spec ..).edges.trans (by rw [arrived.timer]))
  · rw [clock.timer, timer]

/-! ## The frame begun (R45 to R47, R62, R63) -/

theorem advance_eq (r : TimerRun) :
    r.advance =
      { r.newLength with
        role := r.advance.role
        frame := r.nextNumber
        previousEdge := some r.lastEdge
        lastEdge := r.nextEdge } := by
  have cleared : r.newLength.clearAllowance = { r.newLength with role := r.newLength.clearAllowance.role } := by
    unfold TimerRun.clearAllowance
    split <;> rfl
  unfold TimerRun.advance
  rw [cleared]

theorem nextNumber_of_no_pair {r : TimerRun} (hn : r.restart = none) (h : r.adoptedPair = none) :
    r.nextNumber = r.frame + 1 := by
  unfold TimerRun.nextNumber
  rw [hn, h]
  rfl

/-- R62: a pair of equal numbers moves the number by nothing. -/
theorem nextNumber_of_pair {r : TimerRun} (hn : r.restart = none) {a b : FrameNo}
    (h : r.adoptedPair = (some ⟨a, b⟩ : Option FramePair).filter fun p => decide (p.n ≠ p.m)) :
    r.nextNumber = r.frame + 1 + (a - b) := by
  unfold TimerRun.nextNumber
  rw [hn, h]
  by_cases hab : a = b
  · simp [Option.filter, hab]
  · simp [Option.filter, hab]

theorem jumps_eq (r : TimerRun) :
    r.jumps = (r.role.jumpSet && r.held.isSome && decide (r.config.window < r.heldError.natAbs)) := by
  unfold TimerRun.jumps TimerRun.heldError
  cases r.held <;> simp

/-- R46, R47: the jump count of an edge. -/
theorem edge_jump {s : State} {r : TimerRun} (hr : s.timer.run = some r) (hn : r.restart = none) (c : Config)
    (pins : BitVec 8) :
    (s.edge c pins).timer.counters.jump = if r.jumps then raise16 s.timer.counters.jump else s.timer.counters.jump := by
  obtain ⟨r2, taken, -, -, counters, -⟩ := edge_run hr hn c pins
  rw [counters, taken.counters]
  exact (stateAtRole_spec ..).jump.trans (by rw [(stateAtEdge_spec s c r).timer])

/-- R45 to R47: the loop of the frame an edge begins. -/
theorem newLength_loop (r : TimerRun) {pf : Nat} (hpf : pf = if r.jumps then r.pf else adjustPf r.config r.pf r.heldError) :
    r.newLength.pf = pf ∧ r.newLength.fraction = (r.fraction + pf % 256) % 256 ∧
      (r.jumps = true →
        r.newLength.length =
          jumpLength r.config ((pf / 256 : Nat) + r.heldError + ((r.fraction + pf % 256) / 256 : Nat))) ∧
      (r.jumps = false →
        r.newLength.length =
          ((pf / 256 : Nat) + correction r.config r.heldError + ((r.fraction + pf % 256) / 256 : Nat)).toNat) := by
  cases hj : r.jumps with
  | true =>
    obtain rfl : pf = r.pf := hpf.trans (if_pos hj)
    rw [newLength_of_jump hj]
    exact ⟨rfl, rfl, fun _ => rfl, nofun⟩
  | false =>
    rw [newLength_of_slew hj (hpf.trans (if_neg (by simp [hj])))]
    exact ⟨rfl, rfl, nofun, fun _ => rfl⟩

/-! ## The role at an edge (R49 to R52) -/

/-- The role of the frame timer while it runs. -/
def State.timerRole (s : State) : Option TimerRole := s.timer.run.map fun r => r.role

section TimerRole

variable (s : State) (r : TimerRun)

@[simp] theorem timerRole_setRun : (s.setRun r).timerRole = some r.role := rfl
@[simp] theorem timerRole_follow (n : Station) :
    (s.follow r n).timerRole = some (.following n Lock.fresh r.role.allowsJump) := rfl

theorem timerRole_leadOrFree :
    (if s.mayLead r then s.enterLeading r else s.enterFree r).timerRole =
      some (if s.mayLead r then .leading else .free) := by
  split <;> rfl

end TimerRole

section ChooseRole

variable {s : State} {r : TimerRun}

theorem chooseRole_of_best {n : Station} (h : s.bestCandidate r.config.tLost = some n) :
    s.chooseRole r = s.follow r n := by
  unfold State.chooseRole
  rw [h]

theorem chooseRole_of_none (h : s.bestCandidate r.config.tLost = none) :
    s.chooseRole r = if s.mayLead r then s.enterLeading r else s.enterFree r := by
  unfold State.chooseRole
  rw [h]

end ChooseRole

/-! ### Table 4-3, row by row -/

section EvaluateRole

variable {s : State} {r : TimerRun}

theorem evaluateRole_of_start {k : Nat} (h : r.role = .start k) :
    s.evaluateRole r = if 2 * r.config.tLost ≤ k + 1 then s.endStart r else s.setRun { r with role := .start (k + 1) } := by
  unfold State.evaluateRole
  rw [h]

theorem evaluateRole_of_anchored {l : Lock} (h : r.role = .anchored l) :
    s.evaluateRole r = if r.capture.valid then s.setRun r else s.chooseRole r := by
  unfold State.evaluateRole State.tableRole
  rw [h]

/-- R52: a valid capture makes any other role ANCHORED. -/
theorem evaluateRole_of_valid (h : r.role = .leading ∨ r.role = .free ∨ ∃ n l j, r.role = .following n l j)
    (hv : r.capture.valid = true) : s.evaluateRole r = s.enterAnchored r := by
  unfold State.evaluateRole State.tableRole
  obtain h | h | ⟨n, l, j, h⟩ := h <;> rw [h] <;> exact if_pos hv

theorem evaluateRole_of_leading_unfit (h : r.role = .leading) (hv : r.capture.valid = false) (hm : s.mayLead r = false) :
    s.evaluateRole r = s.chooseRole r := by
  unfold State.evaluateRole State.tableRole
  rw [h]
  simp [hv, hm]

theorem evaluateRole_of_leading_alone (h : r.role = .leading) (hv : r.capture.valid = false) (hm : s.mayLead r = true)
    (hb : s.bestCandidate r.config.tLost = none) : s.evaluateRole r = s.setRun r := by
  unfold State.evaluateRole State.tableRole
  rw [h]
  simp [hv, hm, hb]

theorem evaluateRole_of_leading_rivalled (h : r.role = .leading) (hv : r.capture.valid = false)
    (hm : s.mayLead r = true) {n : Station} (hb : s.bestCandidate r.config.tLost = some n) :
    s.evaluateRole r =
      if s.stationRank r.config.tLost n < leadingRank s.ownAtEdge then s.follow r n else s.setRun r := by
  unfold State.evaluateRole State.tableRole
  rw [h]
  simp [hv, hm, hb]

section Following

variable {leader : Station} {l : Lock} {j : Bool} (h : r.role = .following leader l j) (hv : r.capture.valid = false)

include h hv

theorem evaluateRole_of_leader_lost (hl : s.candidateAs r.config.tLost leader = none) :
    s.evaluateRole r = s.chooseRole r := by
  unfold State.evaluateRole State.tableRole
  rw [h]
  simp [hv, stationRank_of_no_candidate hl]

theorem evaluateRole_of_leader_rivalled (hl : s.candidateAs r.config.tLost leader ≠ none) {n : Station}
    (hb : s.bestCandidate r.config.tLost = some n) :
    s.evaluateRole r =
      if s.stationRank r.config.tLost n < s.stationRank r.config.tLost leader then s.follow r n else s.setRun r := by
  obtain ⟨x, hx⟩ := Option.ne_none_iff_exists'.mp hl
  have ranked : s.stationRank r.config.tLost leader ≠ rankBelowAll :=
    Nat.ne_of_lt (stationRank_lt_rankBelowAll.mpr ⟨x, hx⟩)
  unfold State.evaluateRole State.tableRole
  rw [h]
  simp [hv, ranked, hb]

/-- R52: of two candidates the better is another one, unless they are the same. -/
theorem evaluateRole_of_best_leader (hl : s.candidateAs r.config.tLost leader ≠ none) {n : Station}
    (hb : s.bestCandidate r.config.tLost = some n) :
    s.evaluateRole r = if n = leader then s.setRun r else s.follow r n := by
  rw [evaluateRole_of_leader_rivalled h hv hl hb]
  obtain ⟨⟨x, hx⟩, least⟩ := bestCandidate_some hb
  by_cases hn : n = leader
  · rw [hn, if_neg (Nat.lt_irrefl _), if_pos rfl]
  · rw [if_neg hn, if_pos (Nat.lt_of_le_of_ne (least leader) fun he => hn (stationRank_injective hx he))]

end Following

theorem evaluateRole_of_free_found (h : r.role = .free) (hv : r.capture.valid = false) {n : Station}
    (hb : s.bestCandidate r.config.tLost = some n) : s.evaluateRole r = s.follow r n := by
  unfold State.evaluateRole State.tableRole
  rw [h]
  simp [hv, hb]

theorem evaluateRole_of_free_alone (h : r.role = .free) (hv : r.capture.valid = false)
    (hb : s.bestCandidate r.config.tLost = none) :
    s.evaluateRole r = if s.mayLead r then s.enterLeading r else s.setRun r := by
  unfold State.evaluateRole State.tableRole
  rw [h]
  simp [hv, hb]

/-- R50: a candidate ranks before the LEADING node of a number if it is ANCHORED or of a lower number. -/
theorem stationRank_lt_leadingRank {tLost : Nat} {n own : Station} {x : Role} (h : s.candidateAs tLost n = some x) :
    s.stationRank tLost n < leadingRank (some own) ↔ s.candidateAs tLost n = some .anchored ∨ n < own := by
  have ranks := rankOf_lt (candidateAs_role h) (.inr rfl) n own
  rw [stationRank_of_candidate h, h]
  refine ranks.trans ?_
  rcases candidateAs_role h with rfl | rfl <;> simp

/-! ### What the evaluation reads -/

theorem stationRank_congr {u : State} (h : u.peers = s.peers) : u.stationRank = s.stationRank := by
  funext tLost n
  unfold State.stationRank
  rw [h]

theorem bestCandidate_congr {u : State} (h : u.peers = s.peers) (tLost : Nat) :
    u.bestCandidate tLost = s.bestCandidate tLost := by
  have better : u.betterCandidate tLost = s.betterCandidate tLost := by
    funext best n
    unfold State.betterCandidate
    rw [stationRank_congr h]
  unfold State.bestCandidate
  rw [better]

theorem candidateAs_congr {u : State} (h : u.peers = s.peers) (tLost : Nat) (n : Station) :
    u.candidateAs tLost n = s.candidateAs tLost n := by
  unfold State.candidateAs
  rw [h]

end EvaluateRole

/-! ## The lock at an edge (R54) -/

theorem account_of_held {r : TimerRun} {m : Measurement} (h : r.held = some m) (l : Lock) :
    r.account l =
      if m.e.natAbs ≤ r.config.window then
        { quality := if l.quality ≠ .locked ∧ 8 ≤ l.inRun + 1 then .locked else l.quality
          inRun := min 8 (l.inRun + 1)
          outRun := 0
          quiet := 0 }
      else if l.quality ≠ .locked then { l with inRun := 0, quiet := 0 }
      else if l.outRun + 1 < 3 then { l with outRun := l.outRun + 1, quiet := 0 }
      else ⟨.unlocked, 0, 3, 0⟩ := by
  have full : min 8 (l.inRun + 1) = 8 ↔ 8 ≤ l.inRun + 1 := by omega
  unfold TimerRun.account Lock.account
  rw [h]
  dsimp only [Option.map]
  split
  · simp only [full]
  · cases hq : l.quality with
    | locked => by_cases ho : l.outRun + 1 < 3 <;> simp [ho, Nat.not_le_of_lt, Nat.le_of_not_lt]
    | acquiring => simp
    | unlocked => simp

theorem account_of_quiet {r : TimerRun} (h : r.held = none) (l : Lock) :
    r.account l =
      if l.quality ≠ .locked then { l with quiet := min 64 (l.quiet + 1) }
      else if l.quiet + 1 < r.config.tLost then { l with quiet := l.quiet + 1 }
      else ⟨.unlocked, 0, l.outRun, l.quiet + 1⟩ := by
  unfold TimerRun.account Lock.account
  rw [h]
  dsimp only [Option.map]
  cases hq : l.quality with
  | locked => by_cases ho : l.quiet + 1 < r.config.tLost <;> simp [ho, Nat.not_le_of_lt, Nat.le_of_not_lt]
  | acquiring => simp
  | unlocked => simp

section Advanced

variable {r : TimerRun}

theorem advance_rest (r : TimerRun) :
    r.advance.config = r.config ∧ r.advance.capture = r.capture ∧ r.advance.held = r.held := by
  rw [advance_eq]
  exact ⟨rfl, rfl, rfl⟩

/-- R47: the allowance is cleared at the first edge with a measurement. -/
theorem advance_role_of_following {n : Station} {l : Lock} {j : Bool} (h : r.role = .following n l j) :
    r.advance.role = .following n l (j && r.held.isNone) := by
  have role : r.advance.role = r.newLength.clearAllowance.role := rfl
  rw [role]
  unfold TimerRun.clearAllowance
  rw [show r.newLength.role = r.role from rfl, show r.newLength.held = r.held from rfl, h]
  cases hh : r.held
  · exact h.trans (by simp)
  · simp

theorem advance_role_of_other (h : ∀ n l j, r.role ≠ .following n l j) : r.advance.role = r.role := by
  have role : r.advance.role = r.newLength.clearAllowance.role := rfl
  rw [role]
  unfold TimerRun.clearAllowance
  split
  · exact absurd ‹_› (h _ _ _)
  · rfl

theorem advance_kind (r : TimerRun) :
    r.advance.role.role = r.role.role ∧ r.advance.role.leader = r.role.leader ∧ r.advance.role.lock = r.role.lock := by
  by_cases h : ∃ n l j, r.role = .following n l j
  · obtain ⟨n, l, j, h⟩ := h
    rw [advance_role_of_following h, h]
    exact ⟨rfl, rfl, rfl⟩
  · rw [advance_role_of_other fun n l j hr => h ⟨n, l, j, hr⟩]
    exact ⟨rfl, rfl, rfl⟩

theorem advance_account (r : TimerRun) (l : Lock) : r.advance.account l = r.account l := by
  obtain ⟨config, -, held⟩ := advance_rest r
  unfold TimerRun.account
  rw [config, held]

theorem advance_losesLock : r.advance.LosesLock ↔ r.LosesLock := by
  unfold TimerRun.LosesLock
  simp only [(advance_kind r).2.2, advance_account]

/-- R44, R54: the timer whose role an edge evaluates where no command has accounted its lock. -/
theorem accounted_rest (r : TimerRun) :
    r.advance.lockAccounted.config = r.config ∧ r.advance.lockAccounted.capture = r.capture := by
  obtain ⟨config, capture, -⟩ := advance_rest r
  rw [lockAccounted_eq]
  exact ⟨config, capture⟩

theorem accounted_role_of_anchored {l : Lock} (h : r.role = .anchored l) :
    r.advance.lockAccounted.role = .anchored (r.account l) := by
  have role : r.advance.role = .anchored l := (advance_role_of_other (by simp [h])).trans h
  rw [lockAccounted_of_lock (l := l) (by rw [role]; rfl), role, advance_account]
  rfl

theorem accounted_role_of_following {n : Station} {l : Lock} {j : Bool} (h : r.role = .following n l j) :
    r.advance.lockAccounted.role = .following n (r.account l) (j && r.held.isNone) := by
  have role := advance_role_of_following h
  rw [lockAccounted_of_lock (l := l) (by rw [role]; rfl), role, advance_account]
  rfl

theorem accounted_role_of_unlocked (h : r.role.lock = none) : r.advance.lockAccounted.role = r.role := by
  rw [lockAccounted_of_none ((advance_kind r).2.2.trans h)]
  refine advance_role_of_other fun n l j hr => ?_
  rw [hr] at h
  cases h

end Advanced

theorem leader_eq_some {x : TimerRole} {n : Station} : x.leader = some n ↔ ∃ l j, x = .following n l j := by
  cases x <;> simp [TimerRole.leader]

theorem leader_eq_none {x : TimerRole} : x.leader = none ↔ ∀ n l j, x ≠ .following n l j := by
  cases x <;> simp [TimerRole.leader]

end Sys2Proof.Machine
end

section
/-! SUPPORT. The SYNC and STATUS slots at an edge: which work touches neither, and what the edge makes of a SYNC (R18, R53,
R57). -/

namespace Sys2Proof.Machine

open Sys2Proof

/-! ## Work that touches neither slot -/

/-- The SYNC and STATUS slots and the stale count are as they were, and no attempt has begun. -/
structure SlotsKept (s t : State) : Prop where
  sync : t.link.sync = s.link.sync := by rfl
  status : t.link.status = s.link.status := by rfl
  stale : t.link.counters.stale = s.link.counters.stale := by rfl
  idle : s.link.attempt = none → t.link.attempt = none := by exact id

theorem SlotsKept.trans {a b c : State} (h : SlotsKept a b) (k : SlotsKept b c) : SlotsKept a c :=
  ⟨k.sync.trans h.sync, k.status.trans h.status, k.stale.trans h.stale, k.idle ∘ h.idle⟩

theorem SlotsKept.ofLink {s t : State} (h : t.link = s.link) : SlotsKept s t :=
  ⟨by rw [h], by rw [h], by rw [h], by rw [h]; exact id⟩

/-- So are they, and the lane conditions handed are as they were. -/
structure ReportKept (s t : State) : Prop extends SlotsKept s t where
  conditions : t.lanes.conditions = s.lanes.conditions := by rfl

theorem ReportKept.refl (s : State) : ReportKept s s := {}

theorem ReportKept.trans {a b c : State} (h : ReportKept a b) (k : ReportKept b c) : ReportKept a c :=
  ⟨h.toSlotsKept.trans k.toSlotsKept, k.conditions.trans h.conditions⟩

/-- R19: the end of a trigger message's lifetime at most marks the attempt in progress. -/
theorem triggerQueueEdge_report (s : State) : ReportKept s s.triggerQueueEdge := by
  unfold State.triggerQueueEdge Link.expireTriggers
  dsimp only
  split
  · exact { idle := fun h => by simp [Link.fateTrigger, h] }
  · exact {}

theorem numberEdge_report (s : State) : ReportKept s s.numberEdge := by
  have chosen : ReportKept s s.chooseCandidate := by
    unfold State.chooseCandidate
    split <;> exact {}
  unfold State.numberEdge
  split
  · exact {}
  · split
    · exact {}
    · repeat' split
      all_goals exact {}
    · split
      · exact chosen
      · exact {}
    · repeat' split
      all_goals exact {}
    · exact {}
    · split <;> exact {}

theorem applyUnsentAt_report (s : State) (f : FrameNo) (m : CueMessage) : ReportKept s (s.applyUnsentAt f m) := by
  have moved : (s.atFrame f).link = s.link ∧ (s.atFrame f).lanes = s.lanes := by
    unfold State.atFrame
    split <;> exact ⟨rfl, rfl⟩
  have link : (s.applyUnsentAt f m).link = ((s.atFrame f).applyUnsent m).link := rfl
  rw [applyUnsent_link, moved.1] at link
  refine ⟨⟨by rw [link], by rw [link], by rw [link], by rw [link]; exact id⟩, ?_⟩
  exact (deliverCue_conditions ..).trans (congrArg LaneEngine.conditions moved.2)

theorem formTrigger_report (s : State) (f : FrameNo) (m : CueMessage) : ReportKept s (s.formTrigger f m) := by
  unfold State.formTrigger Link.offerTrigger
  dsimp only
  split
  · split <;> exact {}
  · exact .trans (b := s.setTriggers { s.triggers with formed := raise16 s.triggers.formed }) {}
      (applyUnsentAt_report ..)

/-- R169 to R172: the messages of the pins go to the trigger queue and the TALLY slot. -/
theorem pinActs_report (s : State) (pin : PinConfig) (level : Bool) (f : FrameNo) :
    ReportKept s (s.pinActs pin level f) := by
  unfold State.pinActs
  split
  · cases pin.function with
    | none => exact {}
    | goNext p =>
      dsimp only [State.goNextPin]
      split
      · exact formTrigger_report ..
      · exact {}
    | hold p => exact formTrigger_report ..
    | release p => exact formTrigger_report ..
    | tally c => exact {}
  · exact {}

theorem samplePin_report (s : State) (c : Config) (i : Fin 8) (level : Bool) (f : FrameNo) :
    ReportKept s (s.samplePin c i level f) := by
  unfold State.samplePin
  dsimp only
  split
  · exact {}
  · split
    · exact {}
    · split
      · exact .trans (b := s.setPin i ⟨some level, 0⟩) {} (pinActs_report ..)
      · exact {}

theorem pinsEdge_report (s : State) (c : Config) (pins : BitVec 8) : ReportKept s (s.pinsEdge c pins) :=
  foldl_frame ReportKept _ .refl (fun _ _ _ => .trans) (fun t i => samplePin_report t c i _ _) _ s

/-- The state in which the lanes work at an edge. -/
def State.beforeLanes (s : State) (c : Config) : State :=
  (s.triggerQueueEdge.numberEdge.flushEdge.wallEdge c).fetchEdge c

/-- The state in which the report unit works at an edge. -/
def State.beforeReport (s : State) (c : Config) (pins : BitVec 8) : State :=
  ((((s.beforeLanes c).lanesEdge c).outputEdge c).budgetEdge c).pinsEdge c pins

theorem blocksEdge_eq (s : State) (c : Config) (pins : BitVec 8) :
    s.blocksEdge c pins false = (s.beforeReport c pins).reportEdge c s.ownAtEdge := rfl

/-- R44: before the report unit no block touches the two slots. -/
theorem beforeReport_slots (s : State) (c : Config) (pins : BitVec 8) : SlotsKept s (s.beforeReport c pins) := by
  unfold State.beforeReport State.beforeLanes
  refine .trans ?_ (pinsEdge_report _ c pins).toSlotsKept
  refine .trans ?_ (.ofLink (budgetEdge_link _ c))
  refine .trans ?_ (.ofLink (outputEdge_link _ c))
  refine .trans ?_ (.ofLink (lanesEdge_frame _ c).link)
  refine .trans ?_ (.ofLink (fetchEdge_frame _ c).link)
  refine .trans ?_ (.ofLink (wallEdge_link _ c))
  refine .trans ?_ (.ofLink (flushEdge_link _))
  exact ((triggerQueueEdge_report s).trans (numberEdge_report _)).toSlotsKept

/-- R174: the report unit writes no slot but that of the STATUS. -/
theorem reportEdge_sync (s : State) (c : Config) (own : Option Station) :
    (s.reportEdge c own).link.sync = s.link.sync ∧
      (s.reportEdge c own).link.counters.stale = s.link.counters.stale := by
  unfold State.reportEdge
  split <;> exact ⟨rfl, rfl⟩

/-- R57: the SYNC of an edge stands as the frame timer leaves it. -/
theorem edge_sync (s : State) (c : Config) (pins : BitVec 8) :
    (s.edge c pins).link.sync = (s.agePeers c).timerEdge.link.sync ∧
      (s.edge c pins).link.counters.stale = (s.agePeers c).timerEdge.link.counters.stale := by
  unfold State.edge
  dsimp only
  rw [setAhead_link]
  split
  · rw [blocksEdge_eq]
    have slots := beforeReport_slots (s.agePeers c).timerEdge c pins
    have report := reportEdge_sync ((s.agePeers c).timerEdge.beforeReport c pins) c (s.agePeers c).timerEdge.ownAtEdge
    exact ⟨report.1.trans slots.sync, report.2.trans slots.stale⟩
  · exact ⟨rfl, rfl⟩

/-! ## The SYNC at an edge (R18, R57) -/

/-- R18: with no attempt in progress the SYNC that pends is cancelled and counted. -/
theorem cancelStale_of_no_attempt {l : Link} (h : l.attempt = none) :
    l.cancelStale =
      { l with
        sync := Slot.empty
        counters :=
          { l.counters with stale := if l.sync.pending.isSome then raise16 l.counters.stale else l.counters.stale } } := by
  unfold Link.cancelStale
  simp [busy_of_no_attempt h]

theorem withdrawSync_of_no_attempt {l : Link} (h : l.attempt = none) : l.withdrawSync = { l with sync := Slot.empty } := by
  unfold Link.withdrawSync Slot.withdraw
  simp [busy_of_no_attempt h]

theorem writeBeacon_of_silent {s : State} {r : TimerRun} (hr : s.timer.run = some r)
    (h : ¬ (r.role.role = .anchored ∨ r.role.role = .leading)) : s.writeBeacon = s := by
  unfold State.writeBeacon
  rw [hr]
  dsimp only
  split
  · exact absurd (.inl ‹_›) h
  · exact absurd (.inr ‹_›) h
  · rfl

theorem writeBeacon_of_unnumbered {s : State} (h : s.ownAtEdge = none ∨ s.linkHeld = true) : s.writeBeacon = s := by
  have unfit : ¬ (s.ownAtEdge.isSome && !s.linkHeld) = true := by
    rcases h with h | h <;> simp [h]
  unfold State.writeBeacon
  split
  · rfl
  · rw [if_neg unfit]
    split <;> rfl

theorem writeBeacon_of_beacon {s : State} {r : TimerRun} (hr : s.timer.run = some r)
    (h : r.role.role = .anchored ∨ r.role.role = .leading) {n : Station} (hn : s.ownAtEdge = some n)
    (hl : s.linkHeld = false) :
    s.writeBeacon = s.setLink (s.link.writeSync ⟨r.frame, r.lastEdge, r.role.role, r.config.position⟩) := by
  have fit : (s.ownAtEdge.isSome && !s.linkHeld) = true := by simp [hn, hl]
  unfold State.writeBeacon
  rw [hr]
  dsimp only
  rw [if_pos fit]
  rcases h with h | h <;> rw [h]

/-- R18, R53 d: with no attempt in progress the SYNC that pends before the edge is withdrawn with its role, or else cancelled
and counted. -/
theorem RoleTaken.cancelled {s t : State} {r r' : TimerRun} (h : RoleTaken s r t r') (hidle : s.link.attempt = none) :
    t.link.cancelStale.sync = Slot.empty ∧ t.link.cancelStale.attempt = none ∧
      (r.Leaves r' → t.link.cancelStale.counters.stale = s.link.counters.stale) ∧
      (¬ r.Leaves r' →
        t.link.cancelStale.counters.stale =
          if s.link.sync.pending.isSome then raise16 s.link.counters.stale else s.link.counters.stale) := by
  by_cases hl : r.Leaves r'
  · have link := (h.withdrawn hl).trans (withdrawSync_of_no_attempt hidle)
    have idle : t.link.attempt = none := by rw [link]; exact hidle
    rw [cancelStale_of_no_attempt idle]
    exact ⟨rfl, idle, fun _ => by rw [link]; rfl, fun hn => absurd hl hn⟩
  · have link := h.linkKept hl
    have idle : t.link.attempt = none := by rw [link]; exact hidle
    rw [cancelStale_of_no_attempt idle]
    exact ⟨rfl, idle, fun hy => absurd hy hl, fun _ => by rw [link]⟩

theorem timerAtRole_kind (s : State) (r : TimerRun) : (s.timerAtRole r).role.role = r.role.role := by
  unfold State.timerAtRole
  split
  · exact (advance_kind r).1
  · exact (lockAccounted_role _).1.trans (advance_kind r).1

theorem ownAtEdge_congr {s t : State} (hn : t.number = s.number) (ha : t.ahead = s.ahead) : t.ownAtEdge = s.ownAtEdge := by
  unfold State.ownAtEdge State.heldNumber
  rw [hn, ha]

/-- R18, R53 d, R57: the SYNC slot and the stale count after an edge at which no message is in transmission, by the timer
`r'` that the edge leaves. -/
structure SyncAtEdge (s : State) (r : TimerRun) (t : State) (r' : TimerRun) : Prop where
  withdrawn : r.Leaves r' → t.link.counters.stale = s.link.counters.stale
  counted : ¬ r.Leaves r' →
    t.link.counters.stale =
      if s.link.sync.pending.isSome then raise16 s.link.counters.stale else s.link.counters.stale
  silent : ¬ (r'.role.role = .anchored ∨ r'.role.role = .leading) → t.link.sync = Slot.empty
  unnumbered : s.ownAtEdge = none ∨ s.linkHeld = true → t.link.sync = Slot.empty
  beacon : r'.role.role = .anchored ∨ r'.role.role = .leading → ∀ n, s.ownAtEdge = some n → s.linkHeld = false →
    t.link.sync = ⟨some ⟨r'.frame, r.nextEdge, r'.role.role, r'.config.position⟩, none, false⟩

theorem edge_syncAtEdge {s : State} {r r' : TimerRun} (hr : s.timer.run = some r) (hn : r.restart = none)
    (hidle : s.link.attempt = none) {c : Config} {pins : BitVec 8} (hrun : (s.edge c pins).timer.run = some r') :
    SyncAtEdge s r (s.edge c pins) r' := by
  obtain ⟨r2, taken, run, -⟩ := edge_run hr hn c pins
  have arrived := stateAtEdge_spec s c r
  have before := stateAtRole_spec (s.stateAtEdge c r) r
  have kind := timerAtRole_kind (s.stateAtEdge c r) r
  have timer : r2 = { r.advance with role := r2.role, held := r2.held, numbering := r2.numbering } :=
    taken.timer.trans (by rw [timerAtRole_eq])
  have same := edge_sync s c pins
  obtain ⟨-, -, -, -, link⟩ := runEdge_spec (s.stateAtEdge c r) r
  rw [timerEdge_of_running hr hn, link] at same
  generalize hb : ((s.stateAtEdge c r).stateAtRole r).roleEdge = b at taken same
  have evaluated := roleEdge_frame ((s.stateAtEdge c r).stateAtRole r)
  rw [hb] at evaluated
  have sameLink := before.link.trans arrived.link
  obtain ⟨empty, idle, withdrawn, counted⟩ := taken.cancelled ((congrArg Link.attempt sameLink).trans hidle)
  rw [sameLink] at withdrawn counted
  have leaves : ((s.stateAtEdge c r).timerAtRole r).Leaves r2 ↔ r.Leaves r2 := by
    unfold TimerRun.Leaves
    rw [kind]
  have own : (b.setLink b.link.cancelStale).ownAtEdge = s.ownAtEdge :=
    ownAtEdge_congr (evaluated.number.trans (before.number.trans arrived.number))
      (evaluated.ahead.trans (before.ahead.trans arrived.ahead))
  have held : (b.setLink b.link.cancelStale).linkHeld = s.linkHeld := by
    have startup : b.startup = s.startup := evaluated.startup.trans (before.startup.trans arrived.startup)
    simp [State.linkHeld, State.isRunning, startup]
  obtain ⟨sync, stale⟩ := same
  obtain rfl := Option.some.inj (run.symm.trans hrun)
  have keeps : (b.setLink b.link.cancelStale).writeBeacon.link.counters.stale = b.link.cancelStale.counters.stale := by
    unfold State.writeBeacon
    repeat' split
    all_goals rfl
  rw [keeps] at stale
  have running : (b.setLink b.link.cancelStale).timer.run = some r2 := taken.run
  refine ⟨fun h => stale.trans (withdrawn (leaves.mpr h)), fun h => stale.trans (counted (mt leaves.mp h)), fun h => ?_,
    fun h => ?_, fun h n hown hheld => ?_⟩
  · rw [sync, writeBeacon_of_silent running h]
    exact empty
  · rw [sync, writeBeacon_of_unnumbered (by rwa [own, held])]
    exact empty
  · rw [sync, writeBeacon_of_beacon running h (own.trans hown) (held.trans hheld)]
    have written : (b.link.cancelStale.writeSync ⟨r2.frame, r2.lastEdge, r2.role.role, r2.config.position⟩).sync =
        ⟨some ⟨r2.frame, r2.lastEdge, r2.role.role, r2.config.position⟩, none, false⟩ := by
      unfold Link.writeSync Slot.write
      simp [busy_of_no_attempt idle, empty, Slot.empty]
    refine written.trans ?_
    rw [timer]
    rfl

end Sys2Proof.Machine
end

section
/-! SUPPORT. FRAME_EDGE and the frame timer: the frame begun, the timer started anew, the lock accounted and the role
evaluated (R44 to R54, R62, R63, R65). -/

namespace Sys2Proof.Machine

open Sys2Proof

/-! ## The role evaluated at an edge of which nothing was done ahead -/

/-- R44, R52: `role` is what the evaluation of the timer `q` in the state `a` leaves, of which the entries are those of
`aged`; `own` is the number held. -/
structure Evaluated (aged a : State) (q : TimerRun) (own : Option Station) (role : TimerRole) : Prop where
  role : (a.evaluateRole q).timerRole = some role
  peers : a.peers = aged.peers
  own : a.ownAtEdge = own

section Evaluated

variable {aged a : State} {q : TimerRun} {own : Option Station} {role : TimerRole} (h : Evaluated aged a q own role)

include h

theorem Evaluated.best : a.bestCandidate q.config.tLost = aged.bestCandidate q.config.tLost :=
  bestCandidate_congr h.peers _

theorem Evaluated.candidate (n : Station) : a.candidateAs q.config.tLost n = aged.candidateAs q.config.tLost n :=
  candidateAs_congr h.peers _ n

theorem Evaluated.mayLead : a.mayLead q = (q.config.leadPermission && own.isSome) := by rw [State.mayLead, h.own]

/-- R52: "choose" follows the best candidate, or leads where it may, or is FREE. -/
theorem Evaluated.chosen (hj : q.role.allowsJump = false) (hc : a.evaluateRole q = a.chooseRole q) :
    (∀ n, aged.bestCandidate q.config.tLost = some n → role = .following n Lock.fresh false) ∧
      (aged.bestCandidate q.config.tLost = none →
        role = if q.config.leadPermission && own.isSome then .leading else .free) := by
  have done := h.role
  rw [hc] at done
  rw [← h.best, ← h.mayLead]
  refine ⟨fun n hb => ?_, fun hb => ?_⟩
  · rw [chooseRole_of_best hb, timerRole_follow, hj] at done
    exact (Option.some.inj done).symm
  · rw [chooseRole_of_none hb, timerRole_leadOrFree] at done
    exact (Option.some.inj done).symm

/-- R49: the end of START. -/
theorem Evaluated.ofStart {k : Nat} (hk : q.role = .start k) :
    (k + 1 < 2 * q.config.tLost → role = .start (k + 1)) ∧
      (2 * q.config.tLost ≤ k + 1 →
        (q.capture.valid = true → role = .anchored Lock.fresh) ∧
          (q.capture.valid = false →
            (aged.bestCandidate q.config.tLost = none →
              role = if q.config.leadPermission && own.isSome then .leading else .free) ∧
              ∀ n, aged.bestCandidate q.config.tLost = some n →
                ((q.config.leadPermission && own.isSome) = false → role = .following n Lock.fresh true) ∧
                  ∀ o, (q.config.leadPermission && own.isSome) = true → own = some o →
                    role =
                      if aged.candidateAs q.config.tLost n = some .anchored ∨ n < o then .following n Lock.fresh true
                      else .leading)) := by
  have done := h.role
  rw [evaluateRole_of_start hk] at done
  rw [← h.best, ← h.mayLead]
  refine ⟨fun hlt => ?_, fun hle => ?_⟩
  · rw [if_neg (by omega)] at done
    exact (Option.some.inj done).symm
  · rw [if_pos hle] at done
    refine ⟨fun hv => ?_, fun hv => ⟨fun hb => ?_, fun n hb => ⟨fun hm => ?_, fun o hm ho => ?_⟩⟩⟩
    · rw [endStart_of_valid hv] at done
      exact (Option.some.inj done).symm
    · rw [endStart_of_none hv hb, timerRole_leadOrFree] at done
      exact (Option.some.inj done).symm
    · obtain ⟨found, -⟩ := bestCandidate_some hb
      rw [endStart_of_best hv hb, hm, if_neg Bool.false_ne_true, if_pos (stationRank_lt_rankBelowAll.mpr found),
        timerRole_follow, hk] at done
      exact (Option.some.inj done).symm
    · obtain ⟨⟨x, hx⟩, -⟩ := bestCandidate_some hb
      rw [endStart_of_best hv hb, hm, if_pos rfl, if_pos rfl, h.own, ho] at done
      simp only [stationRank_lt_leadingRank hx, h.candidate] at done
      split at done
      · rw [if_pos ‹_›]
        rw [timerRole_follow, hk] at done
        exact (Option.some.inj done).symm
      · rw [if_neg ‹_›]
        exact (Option.some.inj done).symm

theorem Evaluated.ofAnchored {l : Lock} (hl : q.role = .anchored l) :
    (q.capture.valid = true → role = .anchored l) ∧
      (q.capture.valid = false → a.evaluateRole q = a.chooseRole q) := by
  have done := h.role
  rw [evaluateRole_of_anchored hl] at done ⊢
  refine ⟨fun hv => ?_, fun hv => by rw [hv]; rfl⟩
  rw [if_pos hv, timerRole_setRun, hl] at done
  exact (Option.some.inj done).symm

theorem Evaluated.ofValid (hr : q.role = .leading ∨ q.role = .free ∨ ∃ n l j, q.role = .following n l j)
    (hv : q.capture.valid = true) : role = .anchored Lock.fresh := by
  have done := h.role
  rw [evaluateRole_of_valid hr hv] at done
  exact (Option.some.inj done).symm

theorem Evaluated.ofLeading (hr : q.role = .leading) (hv : q.capture.valid = false)
    (hm : (q.config.leadPermission && own.isSome) = true) :
    (aged.bestCandidate q.config.tLost = none → role = .leading) ∧
      ∀ n o, aged.bestCandidate q.config.tLost = some n → own = some o →
        role =
          if aged.candidateAs q.config.tLost n = some .anchored ∨ n < o then .following n Lock.fresh false
          else .leading := by
  have done := h.role
  rw [← h.mayLead] at hm
  rw [← h.best]
  refine ⟨fun hb => ?_, fun n o hb ho => ?_⟩
  · rw [evaluateRole_of_leading_alone hr hv hm hb, timerRole_setRun, hr] at done
    exact (Option.some.inj done).symm
  · obtain ⟨⟨x, hx⟩, -⟩ := bestCandidate_some hb
    rw [evaluateRole_of_leading_rivalled hr hv hm hb, h.own, ho] at done
    simp only [stationRank_lt_leadingRank hx, h.candidate] at done
    split at done
    · rw [if_pos ‹_›]
      rw [timerRole_follow, hr] at done
      exact (Option.some.inj done).symm
    · rw [if_neg ‹_›]
      rw [timerRole_setRun, hr] at done
      exact (Option.some.inj done).symm

theorem Evaluated.ofFollowing {leader : Station} {l : Lock} {j : Bool} (hr : q.role = .following leader l j)
    (hv : q.capture.valid = false) (hl : aged.candidateAs q.config.tLost leader ≠ none) {n : Station}
    (hb : aged.bestCandidate q.config.tLost = some n) :
    role = if n = leader then .following leader l j else .following n Lock.fresh false := by
  have done := h.role
  rw [← h.candidate] at hl
  rw [← h.best] at hb
  rw [evaluateRole_of_best_leader hr hv hl hb] at done
  split at done
  · rw [if_pos ‹_›]
    rw [timerRole_setRun, hr] at done
    exact (Option.some.inj done).symm
  · rw [if_neg ‹_›]
    rw [timerRole_follow, hr] at done
    exact (Option.some.inj done).symm

theorem Evaluated.ofFree (hr : q.role = .free) (hv : q.capture.valid = false) :
    (∀ n, aged.bestCandidate q.config.tLost = some n → role = .following n Lock.fresh true) ∧
      (aged.bestCandidate q.config.tLost = none →
        role = if q.config.leadPermission && own.isSome then .leading else .free) := by
  have done := h.role
  rw [← h.best, ← h.mayLead]
  refine ⟨fun n hb => ?_, fun hb => ?_⟩
  · rw [evaluateRole_of_free_found hr hv hb, timerRole_follow, hr] at done
    exact (Option.some.inj done).symm
  · rw [evaluateRole_of_free_alone hr hv hb] at done
    split at done
    · rw [if_pos ‹_›]
      exact (Option.some.inj done).symm
    · rw [if_neg ‹_›]
      rw [timerRole_setRun, hr] at done
      exact (Option.some.inj done).symm

end Evaluated

/-- R44: where no command has done a part ahead, the edge accounts the lock and evaluates the role over the aged entries. -/
theorem edge_evaluated {s : State} {r : TimerRun} (hr : s.timer.run = some r) (hn : r.restart = none)
    (ha : s.ahead = Ahead.none) (c : Config) (pins : BitVec 8) :
    ∃ a r2, a = (s.stateAtEdge c r).stateAtRole r ∧ RoleTaken a r.advance.lockAccounted a.roleEdge r2 ∧
      Evaluated (s.agePeers c) a r.advance.lockAccounted s.heldNumber r2.role ∧
      (s.edge c pins).timer.run = some { r.advance with role := r2.role, held := none, numbering := none } ∧
      (s.edge c pins).timer.counters = a.roleEdge.timer.counters := by
  obtain ⟨r2, taken, run, -, counters, -⟩ := edge_run hr hn c pins
  have arrived := stateAtEdge_spec s c r
  have before := stateAtRole_spec (s.stateAtEdge c r) r
  have timer : (s.stateAtEdge c r).timerAtRole r = r.advance.lockAccounted :=
    if_neg (by rw [arrived.ahead, ha]; exact Bool.false_ne_true)
  have ahead : ((s.stateAtEdge c r).stateAtRole r).ahead = Ahead.none := before.ahead.trans (arrived.ahead.trans ha)
  have evaluated : ((s.stateAtEdge c r).stateAtRole r).roleEdge =
      ((s.stateAtEdge c r).stateAtRole r).evaluateRole r.advance.lockAccounted := by
    rw [roleEdge_of_run before.run, timer]
    exact if_neg (by rw [ahead]; exact Bool.false_ne_true)
  have held : ((s.stateAtEdge c r).stateAtRole r).heldNumber = s.heldNumber := by
    unfold State.heldNumber
    rw [before.number, arrived.number]
  rw [timer] at taken
  refine ⟨_, r2, rfl, taken, ⟨?_, before.peers.trans arrived.peers, ?_⟩, run, counters⟩
  · rw [← evaluated, State.timerRole, taken.run]
    rfl
  · rw [ownAtEdge_of_not_ahead (by rw [ahead]; rfl), held]

/-- Settles O33: the frame begun, the timer started anew, and the role by the row of Table 4-3. -/
theorem timerAtEdge : Obligations.TimerAtEdge := by
  refine ⟨fun s pins r cfg hr hc hn => ?frame, fun s pins r cfg c hr hc hn => ?anew, fun s pins r cfg hr hc hn ha => ?role⟩
  case frame =>
    intro c e jump low high pf sum
    have hjump : r.jumps = jump := jumps_eq r
    have hlow : (pfMin c : Int) = low := by
      unfold pfMin
      omega
    have hpf : pf = if r.jumps then r.pf else adjustPf c r.pf e := by
      unfold adjustPf clampInt
      rw [hlow, hjump]
      rfl
    obtain ⟨r2, -, run, edges, -, tick⟩ := edge_run hr hn cfg pins
    obtain ⟨hnew, hfraction, hlong, hslewed⟩ := newLength_loop r hpf
    rw [hjump] at hlong hslewed
    rw [advance_eq] at run
    refine ⟨_, _, exec_frameEdge hr hc pins, run, tick, rfl, rfl, hnew, hfraction, hlong, hslewed, fun hh hp => ?_,
      fun n lock j x a b hrole hh => ?_, fun lock a b hrole hp => ?_, rfl, rfl, rfl, rfl, edges, ?_⟩
    · refine nextNumber_of_no_pair hn ?_
      unfold TimerRun.adoptedPair
      rw [hh, hp]
      cases r.role <;> rfl
    · refine nextNumber_of_pair hn ?_
      unfold TimerRun.adoptedPair
      rw [hrole, hh]
      rfl
    · refine nextNumber_of_pair hn ?_
      unfold TimerRun.adoptedPair
      rw [hrole, hp]
    · rw [edge_jump hr hn, hjump]
      rfl
  case anew =>
    have arrived := stateAtEdge_spec s cfg r
    have clock := edge_clock s cfg pins
    rw [timerEdge_of_restart hr hn] at clock
    refine ⟨_, exec_frameEdge hr hc pins, clock.timer.trans ?_, clock.tick.trans arrived.tick⟩
    show ({ (s.stateAtEdge cfg r).timer with run := _ } : FrameTimer) = _
    rw [arrived.timer]
    rfl
  case role =>
    intro c fresh accounted lost valid lead aged best roleOf chosen
    obtain ⟨a, r2, hat, taken, evaluated, run, counters⟩ := edge_evaluated hr hn ha cfg pins
    have arrived := stateAtEdge_spec s cfg r
    have before := stateAtRole_spec (s.stateAtEdge cfg r) r
    rw [← hat] at before
    have account : r.account = accounted := by
      funext l
      cases hh : r.held with
      | some m => rw [account_of_held hh]; simp only [accounted, hh]; rfl
      | none => rw [account_of_quiet hh]; simp only [accounted, hh]; rfl
    have lost_iff : r.advance.LosesLock ↔ lost := by
      rw [advance_losesLock, TimerRun.LosesLock, account]
    have unlocked (h : r.role.lock = none) := accounted_role_of_unlocked h
    obtain ⟨config, capture⟩ := accounted_rest r
    have leader : r.advance.lockAccounted.role.leader = r.role.leader :=
      (lockAccounted_role _).2.trans (advance_kind r).2.1
    have leaderChange : a.timer.counters.leaderChange = s.timer.counters.leaderChange :=
      before.leaderChange.trans (by rw [arrived.timer])
    have lockLoss : a.roleEdge.timer.counters.lockLoss = a.timer.counters.lockLoss := by rw [taken.counters]
    refine ⟨_, _, exec_frameEdge hr hc pins, run, fun hl => ?lost, fun hl => ?kept, fun k hk => ?start, fun l hl => ?anchored,
      fun hl => ?leading, fun n l j hf => ?following, fun hf => ?free, fun n l j hf => ?follows, fun hf => ?alone,
      fun hled hnl hna hidle => ?sync⟩
    case lost =>
      rw [counters, lockLoss, before.lost (by rw [arrived.ahead, ha]; rfl) (lost_iff.mpr hl), arrived.timer]
      rfl
    case kept =>
      rw [counters, lockLoss, before.notLost (mt lost_iff.mp hl), arrived.timer]
    case start =>
      have h := evaluated.ofStart ((unlocked (by rw [hk]; rfl)).trans hk)
      rw [config, capture] at h
      exact h
    case anchored =>
      have role := accounted_role_of_anchored hl
      obtain ⟨keeps, chooses⟩ := evaluated.ofAnchored role
      have h (hv) := evaluated.chosen (by rw [role]; rfl) (chooses hv)
      rw [config, capture] at h
      rw [capture, account] at keeps
      exact ⟨keeps, h⟩
    case leading =>
      have role := (unlocked (by rw [hl]; rfl)).trans hl
      have h (hv) (hm) := evaluated.chosen (by rw [role]; rfl) (evaluateRole_of_leading_unfit role hv (evaluated.mayLead.trans hm))
      have v := evaluated.ofValid (.inl role)
      have w := evaluated.ofLeading role
      rw [config, capture] at h w
      rw [capture] at v
      exact ⟨v, h, fun hv hm => (w hv hm).1, fun n own hv hm hb ho => (w hv hm).2 n own hb ho⟩
    case following =>
      have role := accounted_role_of_following hf
      rw [account] at role
      have h (hv) (hlost) := evaluated.chosen (by rw [role]; rfl)
        (evaluateRole_of_leader_lost role hv ((evaluated.candidate n).trans hlost))
      have v := evaluated.ofValid (.inr (.inr ⟨_, _, _, role⟩))
      have w (hv) (hl) (n) := evaluated.ofFollowing role hv hl (n := n)
      rw [config, capture] at h w
      rw [capture] at v
      exact ⟨v, h, fun n hv hl hb => w hv hl n hb⟩
    case free =>
      have role := (unlocked (by rw [hf]; rfl)).trans hf
      have v := evaluated.ofValid (.inr (.inl role))
      have w := evaluated.ofFree role
      rw [config, capture] at w
      rw [capture] at v
      exact ⟨v, fun n hv hb => (w hv).1 n hb, fun hv hb => (w hv).2 hb⟩
    case follows =>
      have now : r2.role.leader = some n := leader_eq_some.mpr ⟨l, j, hf⟩
      rw [counters]
      refine ⟨fun hs => ?_, fun hs => ?_⟩
      · rw [taken.sameLeader (.inr (by rw [now, leader, leader_eq_some.mpr hs])), leaderChange]
      · rw [taken.newLeader (by simp [now]) (by
          rw [now, leader]
          exact fun he => by
            obtain ⟨l', j', h⟩ := leader_eq_some.mp he.symm
            exact hs l' j' h), leaderChange]
        rfl
    case alone =>
      rw [counters, taken.sameLeader (.inl (leader_eq_none.mpr hf)), leaderChange]
    case sync =>
      have led : r.role.role = .anchored ∨ r.role.role = .leading := by
        rcases hled with h | ⟨l, h⟩ <;> simp [h, TimerRole.role]
      have silent : ¬ (r2.role.role = .anchored ∨ r2.role.role = .leading) := by
        cases h : r2.role with
        | anchored l => exact absurd h (hna l)
        | leading => exact absurd h hnl
        | _ => simp [TimerRole.role]
      have sync := edge_syncAtEdge hr hn hidle run
      exact ⟨sync.silent silent, sync.withdrawn ⟨led, fun he => silent (he ▸ led)⟩⟩

end Sys2Proof.Machine
end

section
/-! SUPPORT. The beacon and the STATUS of an edge (R57, R174): the values published at the previous edge, and what the report
unit reads. -/

namespace Sys2Proof.Machine

open Sys2Proof

/-! ## Values published at the previous edge (R89, R136, R164) -/

theorem scheduleFollow_conditions (s : State) (i : Fin 4) (c : CurrentCue) :
    (s.scheduleFollow i c).lanes.conditions = s.lanes.conditions := by
  unfold State.scheduleFollow
  split
  · rfl
  · split
    · rfl
    · split
      · rfl
      · exact congrArg (fun t => t.lanes.conditions) (contestGo_aside s s.link s.number s.lanes.conditions ..)

theorem laneEdge_conditions (s : State) (c : Config) (f : FrameNo) (merged : Vector Nat 36) (zones : Vector Rgb 8)
    (i : Fin 4) : (s.laneEdge c f merged zones i).lanes.conditions = s.lanes.conditions := by
  show (s.startOrStep i f merged zones).lanes.conditions = s.lanes.conditions
  unfold State.startOrStep
  dsimp only
  split
  · exact scheduleFollow_conditions ..
  · rfl

theorem dropOldPending_conditions (s : State) (i : Fin 4) (f : FrameNo) :
    (s.dropOldPending i f).lanes.conditions = s.lanes.conditions := by
  unfold State.dropOldPending
  split
  · rfl
  · split
    · exact congrArg (fun t => t.lanes.conditions) (withdrawRequest_aside s s.link s.number s.lanes.conditions i)
    · rfl

/-- R136: the lane engine publishes its conditions on those of the previous edge. -/
theorem lanesEdge_conditions (s : State) (c : Config) :
    ∃ now, (s.lanesEdge c).lanes.conditions = s.lanes.conditions.publish s.timer.edges now := by
  have keep {f : State → Fin 4 → State} (h : ∀ t i, (f t i).lanes.conditions = t.lanes.conditions) (l : List (Fin 4))
      (t : State) : (l.foldl f t).lanes.conditions = t.lanes.conditions := by
    induction l generalizing t with
    | nil => rfl
    | cons i rest ih => exact (ih (f t i)).trans (h t i)
  refine ⟨_, congrArg (fun p => Published.publish p s.timer.edges _) ?_⟩
  exact (keep (fun t i => laneEdge_conditions t c _ _ _ i) laneIndices _).trans
    (keep (fun t i => dropOldPending_conditions t i _) laneIndices s)

theorem wallEdge_repeatHanded (s : State) (c : Config) :
    ∃ run, (s.wallEdge c).wall.repeatHanded = s.wall.repeatHanded.publish s.timer.edges run := by
  unfold State.wallEdge State.scanEdge State.flip
  dsimp only
  split <;> exact ⟨_, rfl⟩

theorem budgetEdge_scale (s : State) (c : Config) :
    ∃ x, (s.budgetEdge c).budget.scale = s.budget.scale.publish s.timer.edges x := by
  have judged (b : Budget) (k : BudgetConfig) (ahead : Bool) : (b.judgeFrame k ahead).scale = b.scale := by
    unfold Budget.judgeFrame
    dsimp only
    repeat' split
    all_goals rfl
  unfold State.budgetEdge Budget.formScale
  exact ⟨_, congrArg (fun p => Published.publish p s.timer.edges _) (judged ..)⟩

/-- What the lanes find at an edge: the clock of the edge, the repeat run just published, and conditions and scale as they
were. -/
structure BeforeLanes (w x : State) : Prop where
  timer : x.timer = w.timer
  repeatHanded : ∃ run, x.wall.repeatHanded = w.wall.repeatHanded.publish w.timer.edges run
  conditions : x.lanes.conditions = w.lanes.conditions
  budget : x.budget = w.budget

theorem beforeLanes_spec (w : State) (c : Config) : BeforeLanes w (w.beforeLanes c) := by
  have fetched (s : State) : (s.fetchEdge c).lanes.conditions = s.lanes.conditions := by
    have timed (l : List FetchRequest) (t : State) : (l.foldl State.timeOut t).lanes.conditions = t.lanes.conditions := by
      induction l generalizing t with
      | nil => rfl
      | cons r rest ih => exact (ih (t.timeOut r)).trans rfl
    exact timed _ _
  have queued : ReportKept w w.triggerQueueEdge.numberEdge := (triggerQueueEdge_report w).trans (numberEdge_report _)
  have numbered := numberEdge_frame w.triggerQueueEdge
  unfold State.beforeLanes
  generalize w.triggerQueueEdge.numberEdge = n at queued numbered
  have walled := wallEdge_frame n.flushEdge c n.flushEdge.ingest n.flushEdge.wall
  obtain ⟨run, hrun⟩ := wallEdge_repeatHanded n.flushEdge c
  have flushed : n.flushEdge.wall.repeatHanded = w.wall.repeatHanded ∧ n.flushEdge.timer.edges = w.timer.edges :=
    ⟨congrArg Wall.repeatHanded numbered.wall, congrArg FrameTimer.edges numbered.timer⟩
  rw [flushed.1, flushed.2] at hrun
  generalize n.flushEdge.wallEdge c = x at walled hrun
  have after := fetchEdge_frame x c
  have timed : x.timer = n.flushEdge.timer := by simpa using congrArg State.timer walled
  have laned : x.lanes = n.flushEdge.lanes := by simpa using congrArg State.lanes walled
  have budgeted : x.budget = n.flushEdge.budget := by simpa using congrArg State.budget walled
  refine ⟨after.timer.trans (timed.trans numbered.timer), ⟨run, (congrArg Wall.repeatHanded after.wall).trans hrun⟩,
    (fetched x).trans ((congrArg LaneEngine.conditions laned).trans queued.conditions),
    after.budget.trans (budgeted.trans numbered.budget)⟩

/-! ## The report unit at an edge (R174) -/

/-- What the output stage and the power budget leave unchanged at an edge. -/
structure StageKept (s t : State) : Prop where
  timer : t.timer = s.timer
  lanes : t.lanes = s.lanes
  wall : t.wall = s.wall

theorem outputEdge_block (s : State) (c : Config) :
    StageKept s (s.outputEdge c) ∧ (s.outputEdge c).budget = s.budget := by
  unfold State.outputEdge
  exact ⟨⟨setOutput_timer .., setOutput_lanes .., setOutput_wall ..⟩, setOutput_budget ..⟩

theorem budgetEdge_block (s : State) (c : Config) : StageKept s (s.budgetEdge c) := by
  unfold State.budgetEdge
  exact ⟨setBudget_timer .., setBudget_lanes .., setBudget_wall ..⟩

/-- R174: what the report unit finds at an edge: the clock of the edge, the values published at the previous one, the number
after the number unit has worked. -/
structure BeforeReport (w v : State) : Prop extends SlotsKept w v where
  timer : v.timer = w.timer
  conditions : v.lanes.conditions.readBefore w.timer.edges = w.lanes.conditions.last
  repeatHanded : v.wall.repeatHanded.readBefore w.timer.edges = w.wall.repeatHanded.last
  scale : v.budget.scale.readBefore w.timer.edges = w.budget.scale.last
  number : v.number = w.triggerQueueEdge.numberEdge.number

theorem beforeReport_spec (w : State) (c : Config) (pins : BitVec 8) : BeforeReport w (w.beforeReport c pins) := by
  have slots := beforeReport_slots w c pins
  have alike := blocksEdge_numberAlike w c pins false
  rw [if_neg Bool.false_ne_true, blocksEdge_eq] at alike
  have number := (reportEdge_numberAlike (w.beforeReport c pins) c w.ownAtEdge).number.symm.trans alike.number
  have before := beforeLanes_spec w c
  unfold State.beforeReport at slots number ⊢
  generalize w.beforeLanes c = x at slots number before
  have lanes := lanesEdge_frame x c
  obtain ⟨now, hnow⟩ := lanesEdge_conditions x c
  rw [before.conditions, before.timer] at hnow
  generalize x.lanesEdge c = y at slots number lanes hnow
  obtain ⟨output, sound⟩ := outputEdge_block y c
  generalize y.outputEdge c = z at slots number output sound
  obtain ⟨k, hk⟩ := budgetEdge_scale z c
  have budget := budgetEdge_block z c
  generalize z.budgetEdge c = u at slots number hk budget
  have pinned := pinsEdge_frame u c pins
  have conditions := (pinsEdge_report u c pins).conditions
  have timer : z.timer = w.timer := output.timer.trans (lanes.timer.trans before.timer)
  refine ⟨slots, pinned.timer.trans (budget.timer.trans timer), ?_, ?_, ?_, number⟩
  · rw [conditions, budget.lanes, output.lanes, hnow, readBefore_publish]
  · obtain ⟨run, hrun⟩ := before.repeatHanded
    rw [pinned.wall, budget.wall, output.wall, lanes.wall, hrun, readBefore_publish]
  · rw [pinned.budget, hk, sound, lanes.budget, before.budget, timer, readBefore_publish]

/-! ## The number held for beacon and STATUS (R57, R174) -/

theorem ownAtEdge_eq_some {s : State} {n : Station} :
    s.ownAtEdge = some n ↔
      s.number.numbering = .fixed n ∨ (s.number.numbering = .holding n ∧ s.ahead.number = false) := by
  unfold State.ownAtEdge State.heldNumber
  cases h : s.number.numbering <;> simp [and_comm]

/-- R28, R44: a number held before an edge is held after it. -/
theorem numberEdge_of_held {s : State} {n : Station} (h : s.ownAtEdge = some n) :
    s.numberEdge.number.numbering = s.number.numbering := by
  cases ha : s.ahead.number with
  | true => rw [numberEdge_of_ahead ha]
  | false =>
    obtain hf | ⟨hh, -⟩ := ownAtEdge_eq_some.mp h
    · cases hd : s.number.duplicate with
      | false => rw [numberEdge_of_no_duplicate ha hf hd]
      | true =>
        by_cases hq : s.number.duplicateQuiet < 255
        · rw [numberEdge_of_duplicate ha hf hd hq]
        · rw [numberEdge_of_duplicate_end ha hf hd (Nat.le_of_not_lt hq)]
    · rw [numberEdge_of_holding ha hh]

theorem heldNumber_of_ownAtEdge {s : State} {n : Station} (h : s.ownAtEdge = some n) : s.heldNumber = some n := by
  obtain hf | ⟨hh, -⟩ := ownAtEdge_eq_some.mp h
  · simp [State.heldNumber, hf]
  · simp [State.heldNumber, hh]

/-! ## The STATUS at its turn (R174) -/

/-- R174: the edge that begins the frame `f` is the turn of the station `n`. -/
def IsTurn (c : Config) (f : FrameNo) (n : Station) : Prop := f.toNat % c.statusPeriod = n.val % c.statusPeriod

theorem statusDue_eq_true {own : Option Station} {c : Config} {f : FrameNo} :
    statusDue own c.statusPeriod f = true ↔ ∃ n, own = some n ∧ IsTurn c f n := by
  cases own <;> simp [statusDue, IsTurn]

theorem reportEdge_of_due {s : State} {c : Config} {own : Option Station} (h : statusDue own c.statusPeriod s.frame = true)
    (held : s.heldNumber.isSome = true) :
    s.reportEdge c own = s.setLink (s.link.writeStatus (s.statusBody s.timer.edges)) :=
  if_pos (by rw [h, held]; rfl)

theorem reportEdge_of_not_due {s : State} {c : Config} {own : Option Station}
    (h : ¬ statusDue own c.statusPeriod s.frame = true) : s.reportEdge c own = s :=
  if_neg (by simp [h])

theorem writeStatus_of_no_attempt {l : Link} (h : l.attempt = none) (v : StatusBody) :
    l.writeStatus v = { l with status := { l.status with pending := some v } } := by
  unfold Link.writeStatus Slot.write
  simp [busy_of_no_attempt h]

/-- R174: the STATUS of a numbered node whose edge leaves the timer `r`, from the state before that edge. -/
def State.statusAtEdge (s : State) (r : TimerRun) (faults : Byte) : StatusBody where
  role := byteOf r.role.role.code
  lock := lockCode r.role.lock
  leader := stationByte r.role.leader
  numbering := byteOf s.number.numbering.code
  faults := faults
  scale := byteOf (s.budget.scale.last / 256)
  lanes01 := lanePair (s.lanes.conditions.last.get 0) (s.lanes.conditions.last.get 1)
  lanes23 := lanePair (s.lanes.conditions.last.get 2) (s.lanes.conditions.last.get 3)
  repeatRun := byteOf (min 255 s.wall.repeatHanded.last)

theorem BeforeReport.statusBody {w v : State} (h : BeforeReport w v) {r : TimerRun} (hr : w.timer.run = some r)
    (hn : v.number.numbering = w.number.numbering) :
    v.statusBody v.timer.edges = w.statusAtEdge r v.faultSummary := by
  unfold State.statusBody
  dsimp only
  rw [h.timer, h.conditions, h.scale, h.repeatHanded, hn, hr]
  rfl

theorem setAhead_faultSummary (s : State) (a : Ahead) : (s.setAhead a).faultSummary = s.faultSummary := rfl

/-- R174: the STATUS slot after an edge at which no message is in transmission, by the timer `r` that the edge leaves. -/
structure StatusAtEdge (s : State) (c : Config) (t : State) (r : TimerRun) : Prop where
  kept : (s.isRunning = false ∨ ∀ n, s.ownAtEdge = some n → ¬ IsTurn c r.frame n) → t.link.status = s.link.status
  written : s.isRunning = true → ∀ n, s.ownAtEdge = some n → IsTurn c r.frame n →
    t.link.status = { s.link.status with pending := some (s.statusAtEdge r t.faultSummary) }

/-- R44, R174: the report unit works when every other block has, by the number held before the edge. -/
theorem blocksEdge_status {w : State} {r : TimerRun} (hr : w.timer.run = some r) (hidle : w.link.attempt = none)
    (c : Config) (pins : BitVec 8) :
    ((∀ n, w.ownAtEdge = some n → ¬ IsTurn c r.frame n) →
      (w.blocksEdge c pins false).link.status = w.link.status) ∧
    ∀ n, w.ownAtEdge = some n → IsTurn c r.frame n →
      (w.blocksEdge c pins false).link.status =
        { w.link.status with pending := some (w.statusAtEdge r (w.blocksEdge c pins false).faultSummary) } := by
  have before := beforeReport_spec w c pins
  rw [blocksEdge_eq]
  generalize w.beforeReport c pins = v at before
  have frame : v.frame = r.frame := by simp [State.frame, before.timer, hr]
  refine ⟨fun h => ?_, fun n hn turn => ?_⟩
  · rw [reportEdge_of_not_due, before.status]
    rw [frame, statusDue_eq_true]
    exact fun ⟨n, hn, turn⟩ => h n hn turn
  · have numbering : v.number.numbering = w.number.numbering := by
      rw [before.number]
      exact numberEdge_of_held (s := w.triggerQueueEdge) hn
    have held : v.heldNumber = some n := by
      rw [State.heldNumber, numbering]
      exact heldNumber_of_ownAtEdge hn
    rw [reportEdge_of_due (by rw [frame, statusDue_eq_true]; exact ⟨n, hn, turn⟩) (by simp [held]),
      before.statusBody hr numbering, writeStatus_of_no_attempt (before.idle hidle), before.status.symm]
    rfl

theorem edge_statusAtEdge {s : State} {r : TimerRun} {c : Config} {pins : BitVec 8}
    (hrun : (s.edge c pins).timer.run = some r) (hidle : s.link.attempt = none) :
    StatusAtEdge s c (s.edge c pins) r := by
  have aged := agePeers_frame s c
  have timed := timerEdge_frame (s.agePeers c)
  obtain ⟨⟨-, -, ⟨x, k, link⟩, -⟩, -⟩ := timerEdge_work (s.agePeers c)
  have run : (s.agePeers c).timerEdge.timer.run = some r := by rw [← hrun, (edge_clock s c pins).timer]
  have running : (s.agePeers c).timerEdge.isRunning = s.isRunning := timed.isRunning.trans aged.isRunning
  have number := timed.number.trans aged.number
  have own : (s.agePeers c).timerEdge.ownAtEdge = s.ownAtEdge := ownAtEdge_congr number (timed.ahead.trans aged.ahead)
  have status : (s.agePeers c).timerEdge.link.status = s.link.status := by rw [link, aged.link]
  have body (f : Byte) : (s.agePeers c).timerEdge.statusAtEdge r f = s.statusAtEdge r f := by
    unfold State.statusAtEdge
    rw [number, timed.budget, aged.budget, timed.lanes, aged.lanes, timed.wall, aged.wall]
  obtain ⟨silent, written⟩ := blocksEdge_status run (by rw [link, aged.link]; exact hidle) c pins
  simp only [own, status, body] at silent written
  unfold State.edge
  dsimp only
  rw [running]
  refine ⟨fun h => ?_, fun hs n hn turn => ?_⟩
  · rw [setAhead_link]
    split
    · exact silent (h.resolve_left (by simp [‹s.isRunning = true›]))
    · exact status
  · rw [if_pos hs, setAhead_link, setAhead_faultSummary]
    exact written n hn turn

end Sys2Proof.Machine
end

section
/-! SUPPORT. Beacon and STATUS at an edge (R53, R57, R174), by the role that the edge leaves. -/

namespace Sys2Proof.Machine

open Sys2Proof

/-! ## A role that no edge changes (R52) -/

theorem timerAtRole_rest (s : State) (r : TimerRun) :
    (s.timerAtRole r).config = r.config ∧ (s.timerAtRole r).capture = r.capture := by
  obtain ⟨config, capture, -⟩ := advance_rest r
  rw [timerAtRole_eq]
  exact ⟨config, capture⟩

/-- R52: the role of an edge is that of the frame before, where the evaluation would change nothing or was done ahead. -/
theorem edge_role_of_kept {s : State} {r r' : TimerRun} (hr : s.timer.run = some r) (hn : r.restart = none) {c : Config}
    {pins : BitVec 8} (hrun : (s.edge c pins).timer.run = some r')
    (h : ((s.stateAtEdge c r).stateAtRole r).evaluateRole ((s.stateAtEdge c r).timerAtRole r) =
      ((s.stateAtEdge c r).stateAtRole r).setRun ((s.stateAtEdge c r).timerAtRole r)) :
    r'.role.role = r.role.role := by
  obtain ⟨r2, taken, run, -⟩ := edge_run hr hn c pins
  have before := (stateAtRole_spec (s.stateAtEdge c r) r).run
  have kind := timerAtRole_kind (s.stateAtEdge c r) r
  have kept : ((s.stateAtEdge c r).stateAtRole r).roleEdge.timer.run = some ((s.stateAtEdge c r).timerAtRole r) := by
    rw [roleEdge_of_run before, h]
    split
    · exact before
    · rfl
  obtain rfl := Option.some.inj (run.symm.trans hrun)
  obtain rfl := Option.some.inj (taken.run.symm.trans kept)
  exact kind

/-- R52: a lone leader that may lead goes on leading. -/
theorem edge_role_of_lone_leader {s : State} {r r' : TimerRun} (hr : s.timer.run = some r) (hn : r.restart = none)
    {c : Config} {pins : BitVec 8} (hrun : (s.edge c pins).timer.run = some r') (hl : r.role = .leading)
    (hv : r.capture.valid = false) (hm : r.config.leadPermission = true) {n : Station} (ho : s.ownAtEdge = some n)
    (hp : ∀ k : Station, s.peers.get k = none) : r'.role.role = .leading := by
  refine (edge_role_of_kept hr hn hrun ?_).trans (by rw [hl]; rfl)
  have arrived := stateAtEdge_spec s c r
  have before := stateAtRole_spec (s.stateAtEdge c r) r
  obtain ⟨config, capture⟩ := timerAtRole_rest (s.stateAtEdge c r) r
  have role : ((s.stateAtEdge c r).timerAtRole r).role = .leading := by
    have kind := timerAtRole_kind (s.stateAtEdge c r) r
    rw [hl] at kind
    cases h : ((s.stateAtEdge c r).timerAtRole r).role <;> simp_all [TimerRole.role]
  have own : ((s.stateAtEdge c r).stateAtRole r).ownAtEdge = some n :=
    (ownAtEdge_congr (before.number.trans arrived.number) (before.ahead.trans arrived.ahead)).trans ho
  refine evaluateRole_of_leading_alone role (capture ▸ hv) ?_ (bestCandidate_of_no_peers (fun k => ?_) _)
  · rw [State.mayLead, config, hm, own]
    rfl
  · rw [before.peers, arrived.peers]
    exact get_agePeers_of_absent (hp k) c

/-- R52: a node with a valid capture stays ANCHORED. -/
theorem edge_role_of_anchored {s : State} {r r' : TimerRun} (hr : s.timer.run = some r) (hn : r.restart = none)
    {c : Config} {pins : BitVec 8} (hrun : (s.edge c pins).timer.run = some r') {l : Lock} (hl : r.role = .anchored l)
    (hv : r.capture.valid = true) : r'.role.role = .anchored := by
  refine (edge_role_of_kept hr hn hrun ?_).trans (by rw [hl]; rfl)
  obtain ⟨-, capture⟩ := timerAtRole_rest (s.stateAtEdge c r) r
  have role : ∃ k, ((s.stateAtEdge c r).timerAtRole r).role = .anchored k := by
    have kind := timerAtRole_kind (s.stateAtEdge c r) r
    rw [hl] at kind
    cases h : ((s.stateAtEdge c r).timerAtRole r).role <;> simp_all [TimerRole.role]
  obtain ⟨k, role⟩ := role
  rw [evaluateRole_of_anchored role, capture, hv, if_pos rfl]

/-! ## The beacon, by the role that the edge leaves (R18, R57) -/

/-- R57: what the edge makes of the SYNC slot, restarts included; `r'` is the timer that the edge leaves. -/
structure BeaconAtEdge (s : State) (r : TimerRun) (t : State) (r' : TimerRun) : Prop where
  withdrawn : r.restart = none ∧ r.Leaves r' → t.link.counters.stale = s.link.counters.stale
  counted : ¬ (r.restart = none ∧ r.Leaves r') →
    t.link.counters.stale =
      if s.link.sync.pending.isSome then raise16 s.link.counters.stale else s.link.counters.stale
  silent : ¬ (r'.role.role = .anchored ∨ r'.role.role = .leading) → t.link.sync = Slot.empty
  unnumbered : s.ownAtEdge = none ∨ s.linkHeld = true → t.link.sync = Slot.empty
  beacon : r'.role.role = .anchored ∨ r'.role.role = .leading → ∀ n, s.ownAtEdge = some n → s.linkHeld = false →
    t.link.sync = ⟨some ⟨r'.frame, r.nextEdge, r'.role.role, r'.config.position⟩, none, false⟩

/-- R18, R65: the edge that starts the timer anew cancels the SYNC that pends. -/
theorem edge_sync_of_restart {s : State} {r : TimerRun} {x : TimerConfig} (hr : s.timer.run = some r)
    (hn : r.restart = some x) (hidle : s.link.attempt = none) (c : Config) (pins : BitVec 8) :
    (s.edge c pins).timer.run = some (TimerRun.fresh x r.nextEdge) ∧ (s.edge c pins).link.sync = Slot.empty ∧
      (s.edge c pins).link.counters.stale =
        if s.link.sync.pending.isSome then raise16 s.link.counters.stale else s.link.counters.stale := by
  have clock := edge_clock s c pins
  have same := edge_sync s c pins
  have link : ((s.stateAtEdge c r).restartEdge x r.nextEdge).link = s.link.cancelStale :=
    congrArg Link.cancelStale (stateAtEdge_spec s c r).link
  rw [timerEdge_of_restart hr hn] at clock same
  rw [link, cancelStale_of_no_attempt hidle] at same
  exact ⟨congrArg FrameTimer.run clock.timer, same⟩

theorem edge_beaconAtEdge {s : State} {r r' : TimerRun} (hr : s.timer.run = some r) (hidle : s.link.attempt = none)
    {c : Config} {pins : BitVec 8} (hrun : (s.edge c pins).timer.run = some r') :
    BeaconAtEdge s r (s.edge c pins) r' := by
  cases hn : r.restart with
  | none =>
    have sync := edge_syncAtEdge hr hn hidle hrun
    exact ⟨fun h => sync.withdrawn h.2, fun h => sync.counted fun hl => h ⟨hn, hl⟩, sync.silent, sync.unnumbered,
      sync.beacon⟩
  | some x =>
    obtain ⟨run, empty, stale⟩ := edge_sync_of_restart hr hn hidle c pins
    obtain rfl := Option.some.inj (run.symm.trans hrun)
    exact ⟨fun h => by simp [hn] at h, fun _ => stale, fun _ => empty, fun _ => empty, fun h => by
      simp [TimerRun.fresh, TimerRole.role] at h⟩

/-- Settles O37: the SYNC by the role after the edge, the STATUS by the number held before it. -/
theorem beaconAndStatusAtEdge : Obligations.BeaconAndStatusAtEdge := by
  intro s pins r cfg hr hc hidle
  obtain ⟨r', hrun⟩ : ∃ r', (s.edge cfg pins).timer.run = some r' := by
    cases hn : r.restart with
    | none =>
      obtain ⟨r2, -, run, -⟩ := edge_run hr hn cfg pins
      exact ⟨_, run⟩
    | some x => exact ⟨_, (edge_sync_of_restart hr hn hidle cfg pins).1⟩
  have sync := edge_beaconAtEdge hr hidle hrun
  have status := edge_statusAtEdge hrun hidle
  refine ⟨_, r', exec_frameEdge hr hc pins, hrun, ?_⟩
  intro running holds beacon led turn
  have own (n : Station) : holds n → s.ownAtEdge = some n := ownAtEdge_eq_some.mpr
  have unheld (h : running) : s.linkHeld = false := by simpa [State.linkHeld, State.isRunning] using h
  have runs : running ↔ s.isRunning = true := by simp [running, State.isRunning]
  have beacons (n) (hs : running) (ho : holds n) (h : r'.role.role = .anchored ∨ r'.role.role = .leading) :
      beacon r'.role.role := sync.beacon h n (own n ho) (unheld hs)
  refine ⟨beacons, fun n hs ho hn hl hv hm hp => ?lone, fun n lock hs ho hn hl hv => ?anchored, fun h => ?silent,
    fun h => ?unnumbered, fun h => sync.withdrawn ⟨h.1, h.2⟩, fun h => sync.counted h, fun h => ?noTurn,
    fun n hs ho ht => ?turn⟩
  case lone =>
    have role := edge_role_of_lone_leader hr hn hrun hl hv hm (own n ho) hp
    exact role ▸ beacons n hs ho (.inr role)
  case anchored =>
    have role := edge_role_of_anchored hr hn hrun hl hv
    exact role ▸ beacons n hs ho (.inl role)
  case silent =>
    refine sync.silent fun hb => ?_
    rcases h with h | h | h <;> simp [h] at hb
  case unnumbered =>
    refine sync.unnumbered (h.symm.imp (fun h => ?_) fun h => ?_)
    · exact Option.eq_none_iff_forall_ne_some.mpr fun n hn => h n (ownAtEdge_eq_some.mp hn)
    · simpa [State.linkHeld, State.isRunning] using h
  case noTurn =>
    refine status.kept (h.imp (fun h => ?_) fun h n hn => h n (ownAtEdge_eq_some.mp hn))
    exact Bool.eq_false_iff.mpr (mt runs.mpr h)
  case turn =>
    refine ⟨_, status.written (runs.mp hs) n (own n ho) ht, rfl, rfl, rfl, ?_, rfl, rfl, rfl, rfl, rfl⟩
    show byteOf s.number.numbering.code = _
    rcases ho with hf | ⟨hh, -⟩
    · rw [hf, if_pos rfl]
      rfl
    · rw [hh, if_neg nofun]
      rfl

end Sys2Proof.Machine
end

section
/-! SUPPORT. A step with no command waiting, the node's own SYNC sent, the reference capture, and the two commands that do a
part of the edge ahead (R42, R49, R54 to R56, R58, R61). -/

namespace Sys2Proof.Machine

open Sys2Proof

/-! ## The step (R42) -/

theorem step_of_idle {s : State} (h : s.pending = []) : step s = .next s.idle := by
  unfold step
  rw [h]

theorem step_next (s : State) : ∃ t, step s = .next t := by
  unfold step
  cases s.pending with
  | nil => exact ⟨_, rfl⟩
  | cons c rest =>
    obtain ⟨t, h, -⟩ := exec_kept c (s.setPending rest)
    exact ⟨t, h⟩

/-- Settles O2: an idle step is a tick outside RESET, and every command answers a next state. -/
theorem idleStepIsATick : Obligations.IdleStepIsATick := by
  refine ⟨fun s h => ⟨fun hr => ?_, fun hr => ?_⟩, fun nbits w s => ⟨rfl, rfl⟩, step_next⟩
  · rw [step_of_idle h, State.idle, if_pos hr]
  · rw [step_of_idle h, State.idle, if_neg hr]
    rfl

/-! ## The node's own SYNC sent (R58) -/

/-- Page 2 reports the last sent lateness in its bytes 21 to 23. -/
theorem page_timing_lateness {s : State} {r : TimerRun} (h : s.timer.run = some r) :
    ((s.page 2).drop 21).take 3 = toBytes 3 r.lastLateness := by
  have split : ∃ pre post, s.timingPage = pre ++ (toBytes 3 r.lastLateness ++ post) ∧ pre.length = 21 := by
    unfold State.timingPage
    rw [h]
    dsimp only
    rw [List.append_assoc]
    refine ⟨_, _, rfl, ?_⟩
    cases r.role.lock <;> simp [countBytes]
  obtain ⟨pre, post, page, length⟩ := split
  show ((padPage s.timingPage).drop 21).take 3 = _
  rw [page, padPage, List.append_assoc, List.append_assoc, List.drop_take, List.take_take, List.drop_left' length]
  exact List.take_left' (length_toBytes ..)

/-- R12, R22, R58: the node's own SYNC, delivered to itself when sent. -/
theorem exec_messageSent_sync {s : State} {a : Attempt} (ha : s.link.attempt = some a) (hs : a.source = .sync) :
    exec .messageSent s = .next ((s.setLink (s.link.countSent .sync)).ownSyncSent a.lateness) := by
  refine congrArg Host.Outcome.next ?_
  rw [ha]
  dsimp only
  unfold State.selfReceive
  rw [hs]

/-- Settles O20: beyond the link controller only the lateness and the beacons sent change. -/
theorem ownSyncCounted : Obligations.OwnSyncCounted := by
  intro s a r ha hs hr
  have sent : (s.setLink (s.link.countSent .sync)).ownSyncSent a.lateness =
      { s with
        link := s.link.countSent .sync
        timer :=
          { s.timer with
            run := some { r with lastLateness := a.lateness }
            counters := { s.timer.counters with beaconsSent := raise16 s.timer.counters.beaconsSent } } } := by
    unfold State.ownSyncSent
    rw [setLink_timer, hr]
    rfl
  refine ⟨_, exec_messageSent_sync ha hs, sent.trans ?_, fun hd => ?_, ?_⟩
  · rw [sent]
    rfl
  · rw [sent]
    show s.link.countSent .sync = _
    rw [countSent_eq, if_neg hd]
    rfl
  · rw [sent]
    exact page_timing_lateness (r := { r with lastLateness := a.lateness }) rfl

/-! ## The reference capture (R55, R56, R61) -/

/-- R61: the timer with the capture that a pulse at `now` leaves, which in ANCHORED, if valid, gives a measurement. -/
def TimerRun.pulsed (r : TimerRun) (c : RefCapture) (now : Stamp) : TimerRun :=
  { r with
    capture := c
    held :=
      match r.role, c.valid with
      | .anchored _, true => some ⟨tickDiff now (r.pairEdge now).1, none⟩
      | _, _ => r.held }

theorem setRun_advanced (s : State) (now : Stamp) (c : TimerCounters) (r : TimerRun) :
    ((s.advanceTo now).setTimerCounters c).setRun r =
      { s.advanceTo now with timer := { s.timer with run := some r, counters := c } } := by
  unfold State.setRun State.setTimerCounters
  simp only [setTimer_timer, advanceTo_timer]
  rfl

theorem exec_referencePulse {s : State} {r : TimerRun} (hr : s.timer.run = some r) (now : Stamp) :
    exec (.referencePulse now) s = .next
      { s.advanceTo now with
        timer :=
          { s.timer with
            run := some (r.pulsed (r.capture.pulse r.config now) now)
            counters :=
              { s.timer.counters with
                intervalFault :=
                  if r.capture.badPulse r.config now then raise16 s.timer.counters.intervalFault
                  else s.timer.counters.intervalFault
                referenceLoss :=
                  if r.capture.valid && !(r.capture.pulse r.config now).valid then raise16 s.timer.counters.referenceLoss
                  else s.timer.counters.referenceLoss } } } := by
  refine congrArg Host.Outcome.next ?_
  dsimp only
  rw [advanceTo_timer, hr]
  dsimp only
  unfold TimerRun.pulsed
  generalize r.capture.pulse r.config now = c
  cases hrole : r.role with
  | anchored l =>
    have same : ({ r with role := .anchored l, capture := c } : TimerRun).pairEdge now = r.pairEdge now := rfl
    cases hv : c.valid <;> simp [setRun_advanced, same]
  | _ => simp [setRun_advanced]

theorem goodInterval_iff {c : TimerConfig} {n : Nat} :
    goodInterval c n = true ↔ c.pNom - c.pNom / 100 ≤ n ∧ n ≤ c.pNom + c.pNom / 100 := by
  simp [goodInterval]

section Pulse

variable {c : RefCapture} {cfg : TimerConfig} {now p : Stamp}

theorem pulse_first (h : c.lastPulse = none) :
    c.pulse cfg now = ⟨some now, 0, c.valid⟩ ∧ c.badPulse cfg now = false := by
  simp [RefCapture.pulse, RefCapture.badPulse, h]

theorem pulse_good (h : c.lastPulse = some p) (hg : goodInterval cfg (ticksSince now p) = true) :
    c.pulse cfg now = ⟨some now, min 4 (c.good + 1), c.valid || decide (3 ≤ c.good)⟩ ∧ c.badPulse cfg now = false := by
  have fourth : min 4 (c.good + 1) = 4 ↔ 3 ≤ c.good := by omega
  simp [RefCapture.pulse, RefCapture.badPulse, h, hg, fourth]

theorem pulse_bad (h : c.lastPulse = some p) (hg : goodInterval cfg (ticksSince now p) = false) :
    c.pulse cfg now = ⟨some now, 0, false⟩ ∧ c.badPulse cfg now = true := by
  simp [RefCapture.pulse, RefCapture.badPulse, h, hg]

end Pulse

/-- Settles O36: a first pulse, a good interval, a bad one, and the timeout. -/
theorem referenceCapture : Obligations.ReferenceCapture := by
  intro s r hr
  refine ⟨fun now => ?_, fun p hp => ?_⟩
  · intro kept
    have pulsed (c : RefCapture) : r.pulsed c now = kept c := rfl
    refine ⟨fun hp => ?_, fun p hp low high => ?_, fun p hp out => ?_⟩
    · obtain ⟨pulse, good⟩ := pulse_first (cfg := r.config) (now := now) hp
      rw [exec_referencePulse hr, pulse, good, pulsed]
      simp
    · obtain ⟨pulse, good⟩ := pulse_good (cfg := r.config) (now := now) hp (goodInterval_iff.mpr ⟨low, high⟩)
      rw [exec_referencePulse hr, pulse, good, pulsed]
      have still : (r.capture.valid && !(r.capture.valid || decide (3 ≤ r.capture.good))) = false := by
        cases r.capture.valid <;> rfl
      simp only [still, Bool.false_eq_true, if_false]
    · have bad : goodInterval r.config (ticksSince now p) = false := by
        rw [Bool.eq_false_iff, ne_eq, goodInterval_iff]
        exact fun ⟨low, high⟩ => out.elim (Nat.not_lt.mpr low) (Nat.not_lt.mpr high)
      obtain ⟨pulse, bad⟩ := pulse_bad (cfg := r.config) (now := now) hp bad
      rw [exec_referencePulse hr, pulse, bad, pulsed]
      simp [raise16]
  · refine congrArg Host.Outcome.next ?_
    rw [hr]
    dsimp only
    rw [hp]
    dsimp only
    simp only [setRun_advanced, advanceTo_timer]
    rfl

/-! ## Leaving a role without a SYNC of its own (R53) -/

section Unled

variable {r : TimerRun} (h : ¬ (r.role.role = .anchored ∨ r.role.role = .leading)) (s : State)

include h

theorem leaveRole_of_unled : s.leaveRole r = (s, r) := by
  unfold State.leaveRole
  cases hr : r.role <;> simp_all [TimerRole.role]

theorem enterAnchored_of_unled :
    s.enterAnchored r =
      s.setTimer { s.timer with run := some { r with role := .anchored Lock.fresh, held := none } } := by
  rw [State.enterAnchored, leaveRole_of_unled h]
  rfl

theorem enterLeading_of_unled :
    s.enterLeading r = s.setTimer { s.timer with run := some { r with role := .leading } } := by
  rw [State.enterLeading, leaveRole_of_unled h]
  rfl

theorem enterFree_of_unled : s.enterFree r = s.setTimer { s.timer with run := some { r with role := .free } } := by
  rw [State.enterFree, leaveRole_of_unled h]
  rfl

theorem follow_of_unled (n : Station) :
    s.follow r n =
      s.setTimer
        { s.timer with
          run := some { r with role := .following n Lock.fresh r.role.allowsJump }
          counters := { s.timer.counters with leaderChange := raise16 s.timer.counters.leaderChange } } := by
  rw [State.follow, leaveRole_of_unled h]
  rfl

end Unled

/-! ## The end of START and the quiet loss, ahead of the edge (R49, R54) -/

/-- R44, R49: what START_END makes of the timer over the aged entries is all it leaves. -/
theorem exec_startEnd {s : State} {cfg : Config} {r : TimerRun} {k : Nat} {T : FrameTimer} (hc : s.config = some cfg)
    (hr : s.runDue = some r) (hk : r.role = .start k) (hle : 2 * r.config.tLost ≤ k + 1)
    (h : (s.agePeers cfg).endStart r = (s.agePeers cfg).setTimer T) :
    exec .startEnd s = .next { s with ahead := { s.ahead with lock := true, role := true }, timer := T } := by
  refine congrArg Host.Outcome.next ?_
  rw [hr]
  dsimp only
  rw [hk]
  dsimp only
  rw [if_pos hle, onAged_of_config hc, h]
  obtain ⟨x, y, aged⟩ := agePeers_eq s cfg
  rw [aged]
  rfl

theorem exec_lockQuietLoss {s : State} {r : TimerRun} {l : Lock} (hr : s.runDue = some r) (hl : r.role.lock = some l)
    (h : l.quality = .locked ∧ r.held = none ∧ r.config.tLost ≤ l.quiet + 1) :
    exec .lockQuietLoss s = .next
      (((s.setRun { r with role := r.role.withLock l.quietLoss }).lockAhead).setTimerCounters
        { s.timer.counters with lockLoss := raise16 s.timer.counters.lockLoss }) := by
  refine congrArg Host.Outcome.next ?_
  rw [hr]
  dsimp only
  rw [hl]
  exact if_pos h

/-- Settles O35: the choice at the end of START, row by row, and the quiet loss. -/
theorem endOfStartAndQuietLoss : Obligations.EndOfStartAndQuietLoss := by
  refine ⟨fun s cfg r k hc hr hn hk hle ha => ?start, fun s r c hr hn => ?anew, fun s r l hr hn hl hq hh ht => ?quiet⟩
  case start =>
    intro fresh lead aged done follows takes
    have due : s.runDue = some r := runDue_eq_some.mpr ⟨hr, hn⟩
    have frame := agePeers_frame s cfg
    have timer : aged.timer = s.timer := frame.timer
    have own : aged.ownAtEdge = s.heldNumber := by
      rw [ownAtEdge_of_not_ahead (by rw [frame.ahead, ha]), frame.heldNumber]
    have may : aged.mayLead r = lead := by rw [State.mayLead, own]
    have unled : ¬ (r.role.role = .anchored ∨ r.role.role = .leading) := by simp [hk, TimerRole.role]
    have follow (n : Station) (h : aged.endStart r = aged.follow r n) : exec .startEnd s = follows n := by
      rw [follow_of_unled unled, timer, hk] at h
      exact exec_startEnd hc due hk hle h
    have leads (h : aged.endStart r = aged.enterLeading r) : exec .startEnd s = takes .leading := by
      rw [enterLeading_of_unled unled, timer] at h
      exact exec_startEnd hc due hk hle h
    refine ⟨fun hv => ?_, fun hv hl n hb => ?_, fun hv hl n p x own' hb hp hx hown => ?_, fun hv hb => ?_⟩
    · refine exec_startEnd hc due hk hle ((endStart_of_valid hv).trans ?_)
      rw [enterAnchored_of_unled unled, frame.timer]
      rfl
    · obtain ⟨found, -⟩ := bestCandidate_some hb
      refine follow n ?_
      rw [endStart_of_best hv hb, may, hl, if_neg Bool.false_ne_true, if_pos (stationRank_lt_rankBelowAll.mpr found)]
    · have cand : aged.candidateAs r.config.tLost n = some x := candidateAs_eq_some.mpr ⟨p, hp, hx⟩
      have ranked := stationRank_lt_leadingRank (own := own') cand
      rw [cand] at ranked
      have best := endStart_of_best hv hb
      rw [may, hl, if_pos rfl, if_pos rfl, own, hown] at best
      refine ⟨fun h => follow n (best.trans (if_pos (ranked.mpr (h.imp_left (congrArg some))))), fun h hle => leads ?_⟩
      refine best.trans (if_neg (mt ranked.mp ?_))
      rintro (he | hlt)
      · simp [h] at he
      · exact absurd hlt (Nat.not_lt.mpr hle)
    · have none := endStart_of_none hv hb
      rw [may] at none
      cases hl : lead with
      | true => exact leads (none.trans (if_pos hl))
      | false =>
        have free := none.trans (if_neg (by simp [hl]))
        rw [enterFree_of_unled unled, timer] at free
        exact exec_startEnd hc due hk hle free
  case anew =>
    have none : s.runDue = none := by simp [State.runDue, hr, hn]
    constructor <;> refine congrArg Host.Outcome.next ?_ <;> rw [none]
  case quiet => exact exec_lockQuietLoss (runDue_eq_some.mpr ⟨hr, hn⟩) hl ⟨hq, hh, ht⟩

end Sys2Proof.Machine
end

section
/-! SUPPORT. A SYNC from a peer: what the first step leaves of its sender, and what the frame timer makes of it, by its role
(R50, R51, R53, R59, R60, R63). -/

namespace Sys2Proof.Machine

open Sys2Proof

/-! ## The measurement of a SYNC (R59, R60) -/

/-- R59, R60: a SYNC as a measurement: the estimate of the sender's edge, paired with the nearest own edge. -/
def State.measurementOf (s : State) (r : TimerRun) (o : Station) (f : SyncFields) (a : Stamp) : Measurement :=
  ⟨tickDiff (s.estimate r o f a) (r.pairEdge (s.estimate r o f a)).1,
    some ⟨f.frame, (r.pairEdge (s.estimate r o f a)).2⟩⟩

theorem measure_eq (s : State) (r : TimerRun) (o : Station) (f : SyncFields) (a : Stamp) :
    s.measure r o f a = s.setRun { r with held := some (s.measurementOf r o f a) } := rfl

/-- The timer that follows `o` anew with a SYNC of `o` as its measurement, the change of leader counted. -/
def State.followsSync (s : State) (r : TimerRun) (o : Station) (f : SyncFields) (a : Stamp) : FrameTimer :=
  { s.timer with
    run :=
      some
        { r with
          role := .following o Lock.fresh r.role.allowsJump
          held := some (s.measurementOf r o f a) }
    counters := { s.timer.counters with leaderChange := raise16 s.timer.counters.leaderChange } }

theorem followAndMeasure_of_unled {s : State} {r : TimerRun} (h : ¬ (r.role.role = .anchored ∨ r.role.role = .leading))
    (o : Station) (f : SyncFields) (a : Stamp) : s.followAndMeasure r o f a = s.setTimer (s.followsSync r o f a) := by
  unfold State.followAndMeasure
  dsimp only
  rw [follow_run, leaveRole_of_unled h, follow_of_unled h]
  rfl

theorem followAndMeasure_of_leading {s : State} {r : TimerRun} (h : r.role = .leading) (o : Station) (f : SyncFields)
    (a : Stamp) :
    s.followAndMeasure r o f a = (s.setLink s.link.withdrawSync).setTimer (s.followsSync r o f a) := by
  have left : s.leaveRole r = (s.setLink s.link.withdrawSync, r) := by
    unfold State.leaveRole
    rw [h]
  have followed : s.follow r o =
      ((s.setLink s.link.withdrawSync).setRun
        { r with role := .following o Lock.fresh r.role.allowsJump }).setTimerCounters
          { s.timer.counters with leaderChange := raise16 s.timer.counters.leaderChange } := by
    rw [State.follow, left]
    rfl
  unfold State.followAndMeasure
  dsimp only
  rw [follow_run, left, followed]
  rfl

/-! ## The numbering source (R63) -/

/-- The stations run in the order of their numbers. -/
theorem find?_stations_eq_some {p : Station → Bool} {o : Station} :
    stations.find? p = some o ↔ p o = true ∧ ∀ k, k < o → p k = false := by
  rw [List.find?_eq_some_iff_append]
  refine and_congr_right fun _ => ⟨fun ⟨before, rest, split, fails⟩ k hk => ?_, fun fails => ?_⟩
  · have sorted := stations_sorted
    have mem := mem_stations k
    rw [split, List.pairwise_append, List.pairwise_cons] at sorted
    rw [split, List.mem_append, List.mem_cons] at mem
    obtain ⟨-, ⟨above, -⟩, -⟩ := sorted
    rcases mem with hb | rfl | hr
    · simpa using fails k hb
    · exact absurd hk (lt_irrefl _)
    · exact absurd (above k hr) (lt_asymm hk)
  · obtain ⟨before, rest, split⟩ := List.append_of_mem (mem_stations o)
    have sorted := stations_sorted
    rw [split, List.pairwise_append] at sorted
    obtain ⟨-, -, below⟩ := sorted
    exact ⟨before, rest, split, fun k hk => by simp [fails k (below k hk o List.mem_cons_self)]⟩

/-- R63: the ANCHORED candidate of lowest number, below the number held if one is. -/
theorem numberingSource_eq_some {s : State} {tLost : Nat} {o : Station} :
    s.numberingSource tLost = some o ↔
      s.candidateAs tLost o = some .anchored ∧ (∀ k, k < o → s.candidateAs tLost k ≠ some .anchored) ∧
        ∀ n, s.heldNumber = some n → o < n := by
  have source : s.numberingSource tLost = stations.find? fun n =>
      decide (s.candidateAs tLost n = some .anchored) && s.heldNumber.all fun own => decide (n < own) := by
    unfold State.numberingSource State.candidateAs
    cases s.heldNumber <;> rfl
  rw [source, find?_stations_eq_some]
  cases s.heldNumber with
  | none => simp
  | some own =>
    simp only [Option.all_some, Bool.and_eq_true, decide_eq_true_eq, Bool.and_eq_false_iff, decide_eq_false_iff_not,
      Option.some.injEq, forall_eq']
    refine ⟨fun ⟨⟨cand, below⟩, least⟩ => ⟨cand, fun k hk => (least k hk).resolve_right ?_, below⟩,
      fun ⟨cand, least, below⟩ => ⟨⟨cand, below⟩, fun k hk => .inl (least k hk)⟩⟩
    exact not_not.mpr (lt_trans hk below)

/-! ## What the frame timer makes of a SYNC, by its role (R51) -/

theorem refused_eq_true {f : SyncFields} {p : Nat} :
    f.refused p = true ↔ 3 * p / 2 ≤ f.lateness ∨ (f.role ≠ .anchored ∧ f.role ≠ .leading) := by
  simp [SyncFields.refused]

section TakeSync

variable {s : State} {r : TimerRun} (hr : s.timer.run = some r) {own : Option Station} {o : Station} {f : SyncFields}
  {a : Stamp}

include hr

theorem takeSync_of_refused (hf : f.refused r.config.pNom = true) :
    s.takeSync own o f a =
      s.setTimerCounters { s.timer.counters with beaconRefused := raise16 s.timer.counters.beaconRefused } := by
  unfold State.takeSync
  rw [hr]
  exact if_pos hf

variable (hf : f.refused r.config.pNom = false) (ho : own ≠ some o)

include hf ho

theorem takeSync_of_start {k : Nat} (h : r.role = .start k) : s.takeSync own o f a = s := by
  simp [State.takeSync, hr, hf, ho, h]

theorem takeSync_of_anchored {l : Lock} (h : r.role = .anchored l) :
    s.takeSync own o f a =
      if s.numberingSource r.config.tLost = some o then s.holdNumbering r o f a else s := by
  simp [State.takeSync, hr, hf, ho, h]

theorem takeSync_of_leading (h : r.role = .leading) :
    s.takeSync own o f a =
      if s.stationRank r.config.tLost o < leadingRank s.heldNumber then s.followAndMeasure r o f a else s := by
  simp [State.takeSync, hr, hf, ho, h]

theorem takeSync_of_free (h : r.role = .free) :
    s.takeSync own o f a =
      if s.stationRank r.config.tLost o < rankBelowAll then s.followAndMeasure r o f a else s := by
  simp [State.takeSync, hr, hf, ho, h]

theorem takeSync_of_leader {l : Lock} {j : Bool} (h : r.role = .following o l j) :
    s.takeSync own o f a = s.measure r o f a := by
  simp [State.takeSync, hr, hf, ho, h]

theorem takeSync_of_following {leader : Station} {l : Lock} {j : Bool} (h : r.role = .following leader l j)
    (hl : leader ≠ o) :
    s.takeSync own o f a =
      if s.stationRank r.config.tLost o < s.stationRank r.config.tLost leader then s.followAndMeasure r o f a else s := by
  simp [State.takeSync, hr, hf, ho, h, hl.symm]

end TakeSync

/-- R50: a candidate ranks before a node that holds no number. -/
theorem stationRank_lt_leadingRank_none {s : State} {tLost : Nat} {n : Station} {x : Role}
    (h : s.candidateAs tLost n = some x) : s.stationRank tLost n < leadingRank none := by
  have := n.isLt
  have leading : leadingRank none = 129 := rfl
  rw [stationRank_of_candidate h, leading]
  unfold rankOf
  split <;> omega

/-- R50: of two stations one that is a candidate ranks before the other where that is none, or one it beats. -/
theorem stationRank_lt_of_candidate {s : State} {tLost : Nat} {n k : Station} {x : Role}
    (h : s.candidateAs tLost n = some x) :
    s.stationRank tLost n < s.stationRank tLost k ↔
      ∀ y, s.candidateAs tLost k = some y → (x = .anchored ∧ y = .leading) ∨ (x = y ∧ n < k) := by
  cases hk : s.candidateAs tLost k with
  | none =>
    rw [stationRank_of_no_candidate hk]
    exact iff_of_true (stationRank_lt_rankBelowAll.mpr ⟨x, h⟩) nofun
  | some y =>
    rw [stationRank_of_candidate h, stationRank_of_candidate hk,
      rankOf_lt (candidateAs_role h) (candidateAs_role hk) n k]
    exact ⟨fun hlt z hz => Option.some.inj hz ▸ hlt, fun hall => hall y rfl⟩

/-! ## A SYNC delivered (R23, R38) -/

/-- R23, R38: what the first step of a SYNC `f` of the origin `o` leaves for the frame timer. -/
structure SyncHeard (s : State) (o : Station) (f : SyncFields) (u : State) : Prop where
  timer : u.timer = s.timer
  heldNumber : u.heldNumber = s.heldNumber
  entry : u.peers.get o = some (s.entryHeard o (some f))
  others : ∀ k, k ≠ o → u.peers.get k = s.peers.get k

theorem firstStep_syncHeard {s : State} {m : LinkMessage} (h : s.Indifferent m.origin) (f : SyncFields) :
    SyncHeard s m.origin f (s.firstStep m (some f) false) := by
  have unheard : (s.entered m (some f)).Indifferent m.origin := by
    unfold State.Indifferent
    rwa [entered_number]
  have entered : s.firstStep m (some f) false = s.entered m (some f) := by
    rw [firstStep_of_entered (heldNumber_of_indifferent h), hearOrigin_of_indifferent unheard]
  refine ⟨firstStep_timer .., ?_, ?_, fun k hk => ?_⟩
  · rw [entered, State.heldNumber, entered_number]
    rfl
  · rw [entered, entered_peer]
  · rw [entered]
    exact get_set_of_ne _ hk _

section Heard

variable {s u : State} {o : Station} {f : SyncFields} (h : SyncHeard s o f u) {tLost : Nat}

include h

theorem SyncHeard.candidate_of_ne {k : Station} (hk : k ≠ o) : u.candidateAs tLost k = s.candidateAs tLost k := by
  unfold State.candidateAs
  rw [h.others k hk]

theorem SyncHeard.candidate (hf : f.role = .anchored ∨ f.role = .leading) (ht : 0 < tLost) :
    u.candidateAs tLost o = some f.role :=
  candidateAs_eq_some.mpr ⟨_, h.entry, candidateRole_eq_some.mpr ⟨rfl, hf, _, _, rfl, ht⟩⟩

theorem SyncHeard.estimate (r : TimerRun) (a : Stamp) :
    u.estimate r o f a =
      a - BitVec.ofNat 32 f.lateness - BitVec.ofNat 32 (linkDelay f.position r.config.position) -
        BitVec.ofNat 32 r.config.rxLatency := by
  unfold State.estimate
  rw [h.entry]
  rfl

end Heard

theorem exec_syncReceived {s : State} {m : LinkMessage} (hr : s.receives = true) (hl : m.payload.length = 8) :
    exec (.syncReceived m) s = .next
      ((s.firstStep m (some (readSync m.payload)) false).takeSync s.heldNumber m.origin (readSync m.payload) m.stamp) := by
  have fits : m.payload.length = MessageKind.sync.length := hl
  refine congrArg Host.Outcome.next ?_
  simp [State.receive, hr, fits]

/-- Settles O26: the SYNC refused, or taken by the role of the timer. -/
theorem syncTakenByRole : Obligations.SyncTakenByRole := by
  intro s m r hrec hlen hr hind ht f after estimate edge held fresh changed candidate
  have heard : SyncHeard s m.origin f after := firstStep_syncHeard hind f
  have run : after.timer.run = some r := by rw [heard.timer, hr]
  have other := heldNumber_of_indifferent hind
  have taken : exec (.syncReceived m) s = .next (after.takeSync s.heldNumber m.origin f m.stamp) :=
    exec_syncReceived hrec hlen
  have measured : some (after.measurementOf r m.origin f m.stamp) = held := by
    unfold State.measurementOf
    rw [heard.estimate]
    rfl
  have candidate_iff (k : Station) (x : Role) : candidate k x ↔ s.candidateAs r.config.tLost k = some x :=
    candidateAs_eq_some.symm
  have followed : after.followsSync r m.origin f m.stamp =
      { s.timer with
        run := some { r with role := .following m.origin fresh r.role.allowsJump, held := held }
        counters := changed } := by
    unfold State.followsSync
    rw [measured, heard.timer]
    rfl
  rw [taken]
  refine ⟨fun hf => ?refused, fun hlate hrole => ?taken⟩
  case refused =>
    rw [takeSync_of_refused run (refused_eq_true.mpr hf), State.setTimerCounters, heard.timer]
    rfl
  have fine : f.refused r.config.pNom = false :=
    Bool.eq_false_iff.mpr (mt refused_eq_true.mp fun h => h.elim (Nat.not_le.mpr hlate) fun h => hrole.elim h.1 h.2)
  have sender := heard.candidate hrole ht
  refine ⟨fun k h => ?start, fun lock h => ?anchored, fun lock j h => ?leader, fun leader lock j h hne => ?following,
    fun h => ?free, fun h => ?leading⟩
  case start => rw [takeSync_of_start run fine other h]
  case anchored =>
    intro source
    have source_iff : after.numberingSource r.config.tLost = some m.origin ↔ source := by
      have lower (k) (hk : k < m.origin) := heard.candidate_of_ne (tLost := r.config.tLost) (ne_of_lt hk)
      rw [numberingSource_eq_some, sender, heard.heldNumber, Option.some.injEq]
      exact and_congr_right fun _ => and_congr_left fun _ => forall₂_congr fun k hk => by
        rw [lower k hk, candidate_iff]
    rw [takeSync_of_anchored run fine other h]
    refine ⟨fun hs => ?_, fun hs => congrArg _ (if_neg (mt source_iff.mp hs))⟩
    rw [if_pos (source_iff.mpr hs), State.holdNumbering, heard.estimate, State.setRun, heard.timer]
    rfl
  case leader =>
    rw [takeSync_of_leader run fine other h, measure_eq, measured, State.setRun, heard.timer]
    rfl
  case following =>
    intro better
    have better_iff : after.stationRank r.config.tLost m.origin < after.stationRank r.config.tLost leader ↔ better := by
      rw [stationRank_lt_of_candidate sender, heard.candidate_of_ne hne]
      simp only [better, candidate_iff]
    rw [takeSync_of_following run fine other h hne]
    refine ⟨fun hb => ?_, fun hb => congrArg _ (if_neg (mt better_iff.mp hb))⟩
    rw [if_pos (better_iff.mpr hb), followAndMeasure_of_unled (by simp [h, TimerRole.role]), followed, h]
    rfl
  case free =>
    rw [takeSync_of_free run fine other h, if_pos (stationRank_lt_rankBelowAll.mpr ⟨_, sender⟩),
      followAndMeasure_of_unled (by simp [h, TimerRole.role]), followed, h]
    rfl
  case leading =>
    rw [takeSync_of_leading run fine other h, heard.heldNumber]
    refine ⟨fun hb => ?_, fun hl n hn hlt => congrArg _ (if_neg ?_)⟩
    · have before : after.stationRank r.config.tLost m.origin < leadingRank s.heldNumber := by
        cases hn : s.heldNumber with
        | none => exact stationRank_lt_leadingRank_none sender
        | some n =>
          rw [stationRank_lt_leadingRank sender, sender]
          exact hb.imp (congrArg some) fun hall => hall n hn
      rw [if_pos before, followAndMeasure_of_leading h, followed, h]
      rfl
    · rw [hn, stationRank_lt_leadingRank sender, sender, hl]
      rintro (he | hgt)
      · cases he
      · exact absurd hlt (Nat.lt_asymm hgt)

end Sys2Proof.Machine
end

section
/-! SUPPORT. The receiver of the pixel port (R191), character by character and rest by rest. -/

namespace Sys2Proof.Machine

open Sys2Proof

/-! ## Characters -/

theorem byteOfBits_bitsOf (b : Byte) : byteOfBits (bitsOf 8 b.toNat).reverse = b := by
  have value : valueOf (bitsOf 8 b.toNat) = b.toNat := by
    rw [valueOf_bitsOf]
    exact Nat.mod_eq_of_lt b.isLt
  rw [byteOfBits, List.reverse_reverse, value, BitVec.ofNat_toNat, BitVec.setWidth_eq]

theorem packetLevels_cons (b : Byte) (bytes : List Byte) :
    packetLevels (b :: bytes) = characterLevels b ++ packetLevels bytes := List.flatMap_cons ..

theorem packetLevels_append (a b : List Byte) : packetLevels (a ++ b) = packetLevels a ++ packetLevels b :=
  List.flatMap_append ..

/-- Data bits are sampled one by one until the last of the 293rd character. -/
theorem port_run_dataBits (bytes : List Byte) (levels bits : List Bool) (h8 : bits.length + levels.length ≤ 8)
    (hlast : bytes.length = 292 → bits.length + levels.length < 8) :
    (PixelPort.char bytes bits).run levels = (.char bytes (levels.reverse ++ bits), []) := by
  induction levels generalizing bits with
  | nil => rfl
  | cons level rest ih =>
    rw [List.length_cons] at h8 hlast
    have sampled : (PixelPort.char bytes bits).take level = (.char bytes (level :: bits), none) := by
      have room : bits.length < 8 := by omega
      have unfinished : ¬ ((level :: bits).length = 8 ∧ bytes.length = 292) := by
        rw [List.length_cons]
        omega
      simp only [PixelPort.take, if_pos room, if_neg unfinished]
    rw [PixelPort.run, sampled, ih (level :: bits) (by rw [List.length_cons]; omega) (by rw [List.length_cons]; omega)]
    simp

/-- The data bits and the stop bit of a character before the 293rd: a low stop bit breaks the packet. -/
theorem port_run_character (bytes : List Byte) (b : Byte) (stop : Bool) (h : bytes.length < 292) :
    (PixelPort.char bytes []).run (bitsOf 8 b.toNat ++ [stop]) =
      if stop then (.gap (b :: bytes) 0, []) else (.idle 0, [.broken]) := by
  rw [PixelPort.run_append, port_run_dataBits bytes _ [] (by simp) (by omega), List.append_nil]
  simp only [PixelPort.run, PixelPort.take, List.length_reverse, length_bitsOf, byteOfBits_bitsOf]
  cases stop <;> rfl

/-- The 293rd character: the packet arrives at its last data bit, and its stop bit breaks nothing. -/
theorem port_run_lastCharacter (bytes : List Byte) (b : Byte) (stop : Bool) (h : bytes.length = 292) :
    (PixelPort.char bytes []).run (bitsOf 8 b.toNat ++ [stop]) =
      (.tail 0 stop 0 false, [.whole (b :: bytes).reverse]) := by
  obtain ⟨bits, last, split⟩ : ∃ bits last, bitsOf 8 b.toNat = bits ++ [last] :=
    ⟨_, _, (List.dropLast_append_getLast (List.ne_nil_of_length_pos (by simp))).symm⟩
  have seven : bits.length = 7 := by simpa [length_bitsOf] using (congrArg List.length split).symm
  have byte : byteOfBits (last :: bits.reverse) = b := by
    simpa [split] using byteOfBits_bitsOf b
  rw [split, List.append_assoc, PixelPort.run_append, port_run_dataBits bytes bits [] (by simp [seven]) (by simp [seven])]
  simp [PixelPort.run, PixelPort.take, seven, h, byte]

/-! ## A packet -/

/-- The receiver that awaits the start bit of the next character of a packet, with the bytes received, latest first. -/
def PixelPort.awaiting : List Byte → PixelPort
  | [] => .idle 20
  | b :: bytes => .gap (b :: bytes) 0

theorem awaiting_take_start (bytes : List Byte) :
    (PixelPort.awaiting bytes).take false = (.char bytes [], none) := by cases bytes <;> rfl

/-- A character with its start bit is received as its data bits and its stop bit are. -/
theorem awaiting_run_start (bytes : List Byte) (levels : List Bool) :
    (PixelPort.awaiting bytes).run (false :: levels) = (PixelPort.char bytes []).run levels := by
  rw [PixelPort.run, awaiting_take_start]
  rfl

theorem port_run_characters (bytes got : List Byte) (h : got.length + bytes.length < 293) :
    (PixelPort.awaiting got).run (packetLevels bytes) = (.awaiting (bytes.reverse ++ got), []) := by
  induction bytes generalizing got with
  | nil => rfl
  | cons b rest ih =>
    rw [List.length_cons] at h
    have first : (PixelPort.awaiting got).run (characterLevels b) = (.awaiting (b :: got), []) := by
      rw [characterLevels, List.cons_append, awaiting_run_start, port_run_character got b true (by omega)]
      rfl
    rw [packetLevels_cons, PixelPort.run_append, first, ih (b :: got) (by rw [List.length_cons]; omega)]
    simp

/-- Up to 292 characters after a rest leave the receiver awaiting the next. -/
theorem port_run_packet_part (bytes : List Byte) (h : bytes.length < 293) :
    (PixelPort.idle 20).run (packetLevels bytes) = (.awaiting bytes.reverse, []) := by
  have received := port_run_characters bytes [] (by simpa using h)
  rwa [List.append_nil] at received

/-- The levels of a character with the stop bit given. -/
def levelsWithStop (b : Byte) (stop : Bool) : List Bool := false :: bitsOf 8 b.toNat ++ [stop]

theorem awaiting_run_levelsWithStop (bytes : List Byte) (b : Byte) (stop : Bool) :
    (PixelPort.awaiting bytes).run (levelsWithStop b stop) =
      (PixelPort.char bytes []).run (bitsOf 8 b.toNat ++ [stop]) := awaiting_run_start ..

theorem port_run_whole_of_stop (bytes : List Byte) (b : Byte) (stop : Bool) (h : bytes.length = 292) :
    (PixelPort.idle 20).run (packetLevels bytes ++ levelsWithStop b stop) =
      (.tail 0 stop 0 false, [.whole (bytes ++ [b])]) := by
  rw [PixelPort.run_append, port_run_packet_part bytes (by omega), awaiting_run_levelsWithStop,
    port_run_lastCharacter _ b stop (by simpa using h)]
  simp

theorem port_run_whole (bytes : List Byte) (h : bytes.length = 293) :
    (PixelPort.idle 20).run (packetLevels bytes) = (.tail 0 true 0 false, [.whole bytes]) := by
  obtain ⟨front, last, rfl⟩ : ∃ front last, bytes = front ++ [last] :=
    ⟨_, _, (List.dropLast_append_getLast (List.ne_nil_of_length_pos (by omega))).symm⟩
  rw [packetLevels_append, show packetLevels [last] = characterLevels last from List.append_nil _]
  exact port_run_whole_of_stop front last true (by simpa using h)

theorem port_run_lowStop (bytes : List Byte) (b : Byte) (h : bytes.length < 292) :
    (PixelPort.idle 20).run (packetLevels bytes ++ levelsWithStop b false) = (.idle 0, [.broken]) := by
  rw [PixelPort.run_append, port_run_packet_part bytes (by omega), awaiting_run_levelsWithStop,
    port_run_character _ b false (by simpa using h)]
  rfl

/-! ## Rests -/

/-- 20 bit times of a high line. -/
def restLevels : List Bool := List.replicate 20 true

theorem awaiting_run_rest {bytes : List Byte} (h : bytes ≠ []) :
    (PixelPort.awaiting bytes).run restLevels = (.idle 20, [.broken]) := by
  cases bytes with
  | nil => exact absurd rfl h
  | cons b rest => rfl

/-- Characters after the 293rd arrive at the end of the rest behind them; without any nothing arrives there. -/
theorem tail_run_rest (line more : Bool) :
    (PixelPort.tail 0 line 0 more).run restLevels = (.idle 20, if more then [.broken] else []) := by
  cases more <;> rfl

theorem idle_run_high (n high : Nat) :
    (PixelPort.idle high).run (List.replicate (n + 1) true) = (.idle (min 20 (high + n + 1)), []) := by
  induction n generalizing high with
  | zero => rfl
  | succ n ih =>
    have next : (PixelPort.idle high).take true = (.idle (min 20 (high + 1)), none) := rfl
    have sum : min 20 (min 20 (high + 1) + n + 1) = min 20 (high + (n + 1) + 1) := by omega
    rw [List.replicate_succ, PixelPort.run, next, ih, sum]
    rfl

theorem idle_run_rest (high : Nat) : (PixelPort.idle high).run restLevels = (.idle 20, []) := by
  have risen := idle_run_high 19 high
  rwa [Nat.min_eq_left (Nat.le_add_left 20 high)] at risen

theorem idle_run_low (high : Nat) (h : high < 20) : (PixelPort.idle high).run [false] = (.idle 0, []) := by
  simp [PixelPort.run, PixelPort.take, Nat.not_le.mpr h]

theorem port_run_partial_rest (bytes : List Byte) (hne : bytes ≠ []) (h : bytes.length < 293) :
    (PixelPort.idle 20).run (packetLevels bytes ++ restLevels) = (.idle 20, [.broken]) := by
  rw [PixelPort.run_append, port_run_packet_part bytes h, awaiting_run_rest (List.reverse_ne_nil_iff.mpr hne)]
  rfl

theorem tail_run_character (b : Byte) (more : Bool) :
    (PixelPort.tail 0 true 0 more).run (characterLevels b) = (.tail 0 true 0 true, []) := rfl

/-- Characters after the 293rd are not received, but that they came is remembered. -/
theorem tail_run_characters (bytes : List Byte) (more : Bool) (hne : bytes ≠ []) :
    (PixelPort.tail 0 true 0 more).run (packetLevels bytes) = (.tail 0 true 0 true, []) := by
  induction bytes generalizing more with
  | nil => exact absurd rfl hne
  | cons b rest ih =>
    rw [packetLevels_cons, PixelPort.run_append, tail_run_character]
    cases rest with
    | nil => rfl
    | cons c others =>
      rw [ih true (List.cons_ne_nil c others)]
      rfl

theorem port_run_whole_lowStop_rest (bytes : List Byte) (b : Byte) (h : bytes.length = 292) :
    (PixelPort.idle 20).run (packetLevels bytes ++ levelsWithStop b false ++ restLevels) =
      (.idle 20, [.whole (bytes ++ [b])]) := by
  rw [PixelPort.run_append, port_run_whole_of_stop bytes b false h, tail_run_rest]
  rfl

theorem port_run_whole_more_rest (bytes more : List Byte) (h : bytes.length = 293) (hne : more ≠ []) :
    (PixelPort.idle 20).run (packetLevels bytes ++ packetLevels more ++ restLevels) =
      (.idle 20, [.whole bytes, .broken]) := by
  rw [PixelPort.run_append, PixelPort.run_append, port_run_whole bytes h, tail_run_characters more false hne, tail_run_rest]
  rfl

end Sys2Proof.Machine
end

section
/-! SUPPORT. Pixel ingest: how a tag is judged (R68), and what an arrival makes of a packet (R66 to R70). -/

namespace Sys2Proof.Machine

open Sys2Proof

/-! ## Judging by tag (R68, R71, R74) -/

theorem judgeTag_eq_stale {tag f : FrameNo} :
    judgeTag tag f = .stale ↔ (tag - f).toNat = 0 ∨ 32768 ≤ (tag - f).toNat := by
  unfold judgeTag later framesAhead
  grind

theorem judgeTag_eq_outOfWindow {tag f : FrameNo} :
    judgeTag tag f = .outOfWindow ↔ 256 ≤ (tag - f).toNat ∧ (tag - f).toNat ≤ 32767 := by
  unfold judgeTag later moreLater framesAhead
  grind

theorem judgeTag_eq_ahead {tag f : FrameNo} :
    judgeTag tag f = .ahead ↔ 1 ≤ (tag - f).toNat ∧ (tag - f).toNat ≤ 255 := by
  unfold judgeTag later moreLater framesAhead
  grind

/-! ## An accepted row (R69, R70) -/

theorem offer_of_idle {u : Ingest} (hq : u.queue = []) (hw : u.writer = none) (trigger : Nat) (r : Row) :
    u.offer trigger r = { u with writer := some r } := if_pos ⟨hq, hw⟩

theorem offer_of_room {u : Ingest} (hb : u.queue ≠ [] ∨ u.writer ≠ none) (hl : u.queue.length < 8) (trigger : Nat)
    (r : Row) :
    u.offer trigger r =
      { u with queue := u.queue ++ [r], pace := if trigger ≤ u.queue.length + 1 then .stop else u.pace } := by
  have busy : ¬ (u.queue = [] ∧ u.writer = none) := fun ⟨hq, hw⟩ => hb.elim (· hq) (· hw)
  unfold Ingest.offer Ingest.paceUp
  rw [if_neg busy, if_pos hl, List.length_append, List.length_singleton]
  split <;> rfl

theorem offer_of_full {u : Ingest} (hl : 8 ≤ u.queue.length) (trigger : Nat) (r : Row) :
    u.offer trigger r = { u with counts := { u.counts with overrun := raise8 u.counts.overrun } } := by
  have busy : ¬ (u.queue = [] ∧ u.writer = none) := fun ⟨hq, _⟩ => by simp [hq] at hl
  rw [Ingest.offer, if_neg busy, if_neg (Nat.not_lt.mpr hl)]

/-! ## A row judged (R68) -/

theorem arrive_of_malformed {u : Ingest} {c : Config} {r : Row} (h : c.tiles ≤ r.tile) (f : FrameNo) :
    u.arrive c f r = { u with counts := { u.counts with malformed := raise8 u.counts.malformed } } := if_pos h

theorem arrive_of_tile {u : Ingest} {c : Config} {f : FrameNo} {r : Row} (h : r.tile < c.tiles) :
    u.arrive c f r =
      if judgeTag r.tag f = .ahead then u.offer c.paceTrigger r
      else { u with counts := u.counts.ofTag (judgeTag r.tag f) } := by
  unfold Ingest.arrive
  rw [if_neg (Nat.not_le.mpr h)]
  cases judgeTag r.tag f <;> rfl

/-! ## A packet (R66, R67) -/

theorem exec_rowArrival {s : State} {levels : List Bool} {port : PixelPort} {packets : List RowPacket}
    (h : s.pixelPort.run levels = (port, packets)) :
    exec (.rowArrival levels) s = .next (packets.foldl State.takePacket (s.setPixelPort port)) := by
  show execRowArrival levels s = _
  rw [execRowArrival, h]

theorem takePacket_of_stopped {s : State} (h : s.isRunning = false) (p : RowPacket) : s.takePacket p = s := by
  unfold State.takePacket
  rw [h]

theorem isRunning_of_phase {s : State} (h : s.startup.phase = .running) : s.isRunning = true := decide_eq_true h

theorem takePacket_of_bad {s : State} {c : Config} (hr : s.startup.phase = .running) (hc : s.config = some c)
    {p : RowPacket} (hp : p.row = none) : s.takePacket p = s.setIngest s.ingest.countBad := by
  unfold State.takePacket
  rw [isRunning_of_phase hr, hc, hp]

theorem takePacket_of_row {s : State} {c : Config} (hr : s.startup.phase = .running) (hc : s.config = some c)
    {p : RowPacket} {r : Row} (hp : p.row = some r) : s.takePacket p = s.setIngest (s.ingest.arrive c s.frame r) := by
  unfold State.takePacket
  rw [isRunning_of_phase hr, hc, hp]

/-- R66 to R70: a stretch of line that brings one packet. -/
theorem exec_rowArrival_packet {s : State} {levels : List Bool} {port : PixelPort} {p : RowPacket}
    (h : s.pixelPort.run levels = (port, [p])) :
    exec (.rowArrival levels) s = .next ((s.setPixelPort port).takePacket p) := exec_rowArrival h

/-- Settles O38: the receiver character by character; the packet it brings judged by check, tile and tag. -/
theorem rowArrivalJudged : Obligations.RowArrivalJudged := by
  refine ⟨fun s cfg levels port hr hc => ?judged, port_run_whole, port_run_lowStop, port_run_partial_rest,
    port_run_whole_lowStop_rest, port_run_whole_more_rest, fun high => ⟨idle_run_rest high, idle_run_low high⟩⟩
  intro u put bad
  have bad_row {p : RowPacket} (hrun : s.pixelPort.run levels = (port, [p])) (hp : p.row = none) :
      exec (.rowArrival levels) s = bad := by
    rw [exec_rowArrival_packet hrun, takePacket_of_bad (s := s.setPixelPort port) hr hc hp]
    rfl
  refine ⟨exec_rowArrival, fun hrun => bad_row hrun rfl, fun bytes hrun hx => bad_row hrun hx,
    fun bytes x hrun hx => ?row⟩
  intro d
  have arrived {v : Ingest} (h : u.arrive cfg s.frame x = v) : exec (.rowArrival levels) s = put v := by
    rw [exec_rowArrival_packet hrun, takePacket_of_row (s := s.setPixelPort port) (p := .whole bytes) hr hc hx, ← h]
    rfl
  have discarded {fate : TagFate} (ht : x.tile < cfg.tiles) (h : judgeTag x.tag s.frame = fate) (hf : fate ≠ .ahead) :
      exec (.rowArrival levels) s = put { u with counts := u.counts.ofTag fate } :=
    arrived (by rw [arrive_of_tile ht, h, if_neg hf])
  refine ⟨fun ht => arrived (arrive_of_malformed ht s.frame), fun ht hd => discarded ht (judgeTag_eq_stale.mpr hd) nofun,
    fun ht h1 h2 => discarded ht (judgeTag_eq_outOfWindow.mpr ⟨h1, h2⟩) nofun, fun ht h1 h2 => ?accepted⟩
  have accepted {v : Ingest} (h : u.offer cfg.paceTrigger x = v) : exec (.rowArrival levels) s = put v :=
    arrived (by rw [arrive_of_tile ht, if_pos (judgeTag_eq_ahead.mpr ⟨h1, h2⟩), h])
  exact ⟨fun hq hw => accepted (offer_of_idle hq hw _ _), fun hb hl => accepted (offer_of_room hb hl _ _),
    fun hl => accepted (offer_of_full hl _ _)⟩

end Sys2Proof.Machine
end

section
/-! SUPPORT. The row writer and the back buffer: a row judged, what its write leaves, and the next row taken (R73 to R79). -/

namespace Sys2Proof.Machine

open Sys2Proof

/-! ## The next row (R70, R73) -/

theorem takeNext_of_empty {u : Ingest} (h : u.queue = []) : u.takeNext = u := by
  unfold Ingest.takeNext
  rw [h]

theorem takeNext_of_cons {u : Ingest} {y : Row} {rest : List Row} (h : u.queue = y :: rest) :
    u.takeNext = { u with queue := rest, writer := some y, pace := if rest = [] then .go else u.pace } := by
  unfold Ingest.takeNext Ingest.paceDown
  rw [h]
  dsimp only
  split <;> rfl

/-- R73: the writer that takes a row touches neither the back buffer nor the counts. -/
theorem takeNext_counts (u : Ingest) : u.takeNext.counts = u.counts := by
  cases h : u.queue with
  | nil => rw [takeNext_of_empty h]
  | cons y rest => rw [takeNext_of_cons h]

/-! ## The writer row judged (R74, R75) -/

/-- R74: the judgement of a row whose gain pass has ended, before the writer takes the next. -/
def Ingest.judged (u : Ingest) (c : Config) (f : FrameNo) (r : Row) : Ingest :=
  if judgeTag r.tag f = .ahead then u.commitTo c f r else { u with counts := u.counts.ofTag (judgeTag r.tag f) }

/-- The writer gives up the row it holds. -/
def Ingest.idled (u : Ingest) : Ingest := { u with writer := none }

theorem commit_of_writer {u : Ingest} {r : Row} (h : u.writer = some r) (c : Config) (f : FrameNo) :
    u.commit c f = (u.idled.judged c f r).takeNext := by
  unfold Ingest.commit Ingest.judged
  rw [h]
  dsimp only
  cases judgeTag r.tag f <;> rfl

/-- The rows waiting, the pace line and the writer are as they were. -/
structure RowsAlike (u v : Ingest) : Prop where
  queue : v.queue = u.queue := by rfl
  pace : v.pace = u.pace := by rfl
  writer : v.writer = u.writer := by rfl

theorem commitTo_rows (u : Ingest) (c : Config) (f : FrameNo) (r : Row) : RowsAlike u (u.commitTo c f r) := by
  unfold Ingest.commitTo
  cases u.back.commitAction f r <;> exact {}

theorem judged_rows (u : Ingest) (c : Config) (f : FrameNo) (r : Row) : RowsAlike u (u.judged c f r) := by
  unfold Ingest.judged
  split
  · exact commitTo_rows ..
  · exact {}

theorem judged_of_discarded {u : Ingest} {f : FrameNo} {r : Row} {fate : TagFate} (h : judgeTag r.tag f = fate)
    (hf : fate ≠ .ahead) (c : Config) : u.judged c f r = { u with counts := u.counts.ofTag fate } := by
  rw [Ingest.judged, h, if_neg hf]

theorem judged_of_ahead {u : Ingest} {f : FrameNo} {r : Row} (h : judgeTag r.tag f = .ahead) (c : Config) :
    u.judged c f r = u.commitTo c f r := if_pos h

section Commit

variable {u : Ingest} {f : FrameNo} {r : Row} (c : Config)

theorem commitTo_of_write (h : u.back.commitAction f r = .write) :
    u.commitTo c f r = { u with back := u.back.writeRow c r } := by
  rw [Ingest.commitTo, h]

theorem commitTo_of_duplicate (h : u.back.commitAction f r = .duplicate) :
    u.commitTo c f r = { u with counts := { u.counts with duplicate := raise8 u.counts.duplicate } } := by
  rw [Ingest.commitTo, h]

theorem commitTo_of_supersede (h : u.back.commitAction f r = .supersede) :
    u.commitTo c f r =
      { u with
        back := (BackBuffer.cleared u.back.store).writeRow c r
        counts := { u.counts with superseded := raise8 u.counts.superseded } } := by
  rw [Ingest.commitTo, h]

theorem commitTo_of_stale (h : u.back.commitAction f r = .stale) :
    u.commitTo c f r = { u with counts := { u.counts with stale := raise8 u.counts.stale } } := by
  rw [Ingest.commitTo, h]

end Commit

section Action

variable {b : BackBuffer} {f : FrameNo} {r : Row}

theorem commitAction_of_empty (h : b.state = .empty) : b.commitAction f r = .write := by
  simp [BackBuffer.commitAction, h, BackState.tag]

theorem commitAction_of_missing (h : b.state.tag = some r.tag) (hr : r.row ∉ b.received.get (Fin.ofNat 4 r.tile)) :
    b.commitAction f r = .write := by
  simp [BackBuffer.commitAction, h, hr, -Fin.ofNat_eq_cast]

theorem commitAction_of_received (h : b.state.tag = some r.tag) (hr : r.row ∈ b.received.get (Fin.ofNat 4 r.tile)) :
    b.commitAction f r = .duplicate := by
  simp [BackBuffer.commitAction, h, hr, -Fin.ofNat_eq_cast]

theorem commitAction_of_old {old : FrameNo} (h : b.state.tag = some old)
    (ho : later r.tag old = true ∨ (r.tag ≠ old ∧ moreLater 255 old f = true)) : b.commitAction f r = .supersede := by
  have other : r.tag ≠ old := by
    rcases ho with hl | hm
    · rintro rfl
      simp at hl
    · exact hm.1
  rcases ho with hl | hm
  · simp [BackBuffer.commitAction, h, other, hl]
  · simp [BackBuffer.commitAction, h, other, hm.2]

theorem commitAction_of_not_later {old : FrameNo} (h : b.state.tag = some old) (hne : r.tag ≠ old)
    (hl : later r.tag old = false) (hm : moreLater 255 old f = false) : b.commitAction f r = .stale := by
  simp [BackBuffer.commitAction, h, hne, hl, hm]

end Action

/-! ## The buffer cleared (R77) -/

section Cleared

variable (p : PixelStore)

theorem cleared_received (k : Fin 4) : (BackBuffer.cleared p).received.get k = [] := Vector.get_replicate ..

theorem cleared_tileSum (k : Fin 4) : (BackBuffer.cleared p).tileSums.get k = Rgb.black := Vector.get_replicate ..

theorem cleared_zoneSum (k : Fin 8) : (BackBuffer.cleared p).zoneSums.get k = Rgb.black := Vector.get_replicate ..

end Cleared

/-! ## A row written (R76, R78, R79) -/

theorem zip_add_black (x : Rgb) : Rgb.zip (· + ·) x Rgb.black = x := rfl

theorem allReceived_iff (tiles : Nat) (received : Vector (List Nat) 4) :
    allReceived tiles received = true ↔ ∀ k < tiles, ∀ row < 64, row ∈ received.get (Fin.ofNat 4 k) := by
  simp [allReceived]

/-- R79: the row lies inside the zone. -/
def Row.Inside (r : Row) (z : Zone) : Prop := z.tile = r.tile ∧ z.firstRow ≤ r.row ∧ r.row ≤ z.lastRow

section Write

variable (b : BackBuffer) (c : Config) (r : Row)

theorem writeRow_tag : (b.writeRow c r).state.tag = some r.tag := by
  unfold BackBuffer.writeRow
  dsimp only
  split <;> rfl

theorem writeRow_complete_iff :
    (b.writeRow c r).state = .complete r.tag ↔
      ∀ k < c.tiles, ∀ row < 64, row ∈ (b.writeRow c r).received.get (Fin.ofNat 4 k) := by
  rw [← allReceived_iff]
  unfold BackBuffer.writeRow
  dsimp only
  split <;> simp_all

theorem writeRow_received :
    (b.writeRow c r).received.get (Fin.ofNat 4 r.tile) = b.received.get (Fin.ofNat 4 r.tile) ++ [r.row] := get_set_same ..

theorem writeRow_tileSum :
    (b.writeRow c r).tileSums.get (Fin.ofNat 4 r.tile) =
      Rgb.zip (· + ·) (b.tileSums.get (Fin.ofNat 4 r.tile)) (sumPixels (r.gainedPixels c.gains)) := get_set_same ..

theorem writeRow_otherTileSum {k : Fin 4} (h : k ≠ Fin.ofNat 4 r.tile) :
    (b.writeRow c r).tileSums.get k = b.tileSums.get k := get_set_of_ne _ h _

theorem writeRow_zoneSum {k : Fin 8} {z : Zone} (hz : c.zones[k.val]? = some z) :
    (b.writeRow c r).zoneSums.get k =
      Rgb.zip (· + ·) (b.zoneSums.get k) (sumPixels (zonePart z r (r.gainedPixels c.gains))) := by
  simp [BackBuffer.writeRow, addZones, Vector.get_eq_getElem, hz]

theorem writeRow_zoneSum_inside {k : Fin 8} {z : Zone} (hz : c.zones[k.val]? = some z) (h : r.Inside z) :
    (b.writeRow c r).zoneSums.get k =
      Rgb.zip (· + ·) (b.zoneSums.get k)
        (sumPixels (((r.gainedPixels c.gains).take (z.lastCol + 1)).drop z.firstCol)) := by
  rw [writeRow_zoneSum b c r hz, zonePart]
  exact congrArg _ (congrArg sumPixels (if_pos h))

theorem writeRow_zoneSum_outside {k : Fin 8} {z : Zone} (hz : c.zones[k.val]? = some z) (h : ¬ r.Inside z) :
    (b.writeRow c r).zoneSums.get k = b.zoneSums.get k := by
  rw [writeRow_zoneSum b c r hz, zonePart]
  exact (congrArg _ (congrArg sumPixels (if_neg h))).trans (zip_add_black _)

variable {b}

theorem writeRow_store_same (h : PixelStore.wf b.store = true) :
    readCell blackRow (b.writeRow c r).store (rowAddress r.tile r.row) = r.gainedPixels c.gains :=
  readCell_write_same _ _ _ 0 _ h

theorem writeRow_store_other (h : PixelStore.wf b.store = true) {a : Nat} (ha : a ≠ rowAddress r.tile r.row) :
    readCell blackRow (b.writeRow c r).store a = readCell blackRow b.store a :=
  readCell_write_other _ _ _ a ha 0 _ h

end Write

/-! ## ROW_COMMIT -/

theorem exec_rowCommit {s : State} {c : Config} {r : Row} (hr : s.startup.phase = .running) (hc : s.config = some c)
    (hw : s.ingest.writer = some r) :
    exec .rowCommit s =
      .next (s.setIngest (s.ingest.idled.judged c s.frame r).takeNext) := by
  show execRowCommit s = _
  unfold execRowCommit
  rw [isRunning_of_phase hr, hc, ← commit_of_writer hw]

/-- Settles O39: the fate of the tag, the action of Table 5-6, the row written, and the oldest row taken next. -/
theorem rowCommitted : Obligations.RowCommitted := by
  intro s cfg x hr hc hw _ d tile b inZone zonePixels
  have rows := judged_rows s.ingest.idled cfg s.frame x
  have back := (takeNext_spec (s.ingest.idled.judged cfg s.frame x)).1
  have counts := takeNext_counts (s.ingest.idled.judged cfg s.frame x)
  refine ⟨_, exec_rowCommit hr hc hw, rfl, fun hq => ?idle, fun y rest hq => ?next, fun hd => ?stale,
    fun h1 h2 => ?window, fun h1 h2 => ?judged⟩
  case idle =>
    rw [setIngest_ingest, takeNext_of_empty (rows.queue.trans hq)]
    exact ⟨rows.writer, rows.queue.trans hq, rows.pace⟩
  case next =>
    rw [setIngest_ingest, takeNext_of_cons (rows.queue.trans hq), rows.pace]
    exact ⟨rfl, rfl, rfl⟩
  all_goals rw [setIngest_ingest, back, counts]
  case stale =>
    rw [judged_of_discarded (judgeTag_eq_stale.mpr hd) nofun]
    exact ⟨rfl, rfl⟩
  case window =>
    rw [judged_of_discarded (judgeTag_eq_outOfWindow.mpr ⟨h1, h2⟩) nofun]
    exact ⟨rfl, rfl⟩
  case judged =>
    rw [judged_of_ahead (judgeTag_eq_ahead.mpr ⟨h1, h2⟩)]
    refine ⟨fun ht hm => ?duplicate, fun old ht hne hl hm => ?older, fun h => ?write, fun old ht ho => ?supersede⟩
    case duplicate =>
      rw [commitTo_of_duplicate (u := s.ingest.idled) _ (commitAction_of_received ht hm)]
      exact ⟨rfl, rfl⟩
    case older =>
      rw [commitTo_of_stale (u := s.ingest.idled) _ (commitAction_of_not_later ht hne hl hm)]
      exact ⟨rfl, rfl⟩
    case write =>
      rw [commitTo_of_write (u := s.ingest.idled) _ (h.elim commitAction_of_empty fun h => commitAction_of_missing h.1 h.2)]
      refine ⟨rfl, writeRow_tag .., ?_, writeRow_tileSum .., fun k hk => writeRow_otherTileSum _ _ _ hk,
        fun k z hz => ⟨writeRow_zoneSum_inside _ _ _ hz, writeRow_zoneSum_outside _ _ _ hz⟩, writeRow_complete_iff ..,
        fun hwf => ⟨writeRow_store_same _ _ hwf, fun a ha => writeRow_store_other _ _ hwf ha⟩⟩
      rw [writeRow_received]
      exact List.mem_append_right _ (List.mem_singleton_self _)
    case supersede =>
      rw [commitTo_of_supersede (u := s.ingest.idled) _ (commitAction_of_old ht ho)]
      refine ⟨rfl, writeRow_tag .., ?_, ?_, fun k z hz => ⟨fun h => ?_, fun h => ?_⟩⟩
      · rw [writeRow_received, cleared_received, List.nil_append]
      · rw [writeRow_tileSum, cleared_tileSum]
      · rw [writeRow_zoneSum_inside _ _ _ hz h, cleared_zoneSum]
      · rw [writeRow_zoneSum_outside _ _ _ hz h, cleared_zoneSum]

end Sys2Proof.Machine
end

section
/-! SUPPORT. The picture at an edge: the flush, the flip, and what the other blocks leave of both (R71, R84 to R89). -/

namespace Sys2Proof.Machine

open Sys2Proof

/-! ## The flush (R71) -/

theorem flush_queue (u : Ingest) (f : FrameNo) :
    (u.flush f).queue = u.queue.filter fun r => decide (1 ≤ (r.tag - f).toNat) && decide ((r.tag - f).toNat ≤ 255) := by
  have kept (r : Row) : decide (judgeTag r.tag f = .ahead) =
      (decide (1 ≤ (r.tag - f).toNat) && decide ((r.tag - f).toNat ≤ 255)) := by
    rw [← Bool.decide_and, decide_eq_decide]
    exact judgeTag_eq_ahead
  simp only [← kept]
  unfold Ingest.flush
  split
  · rename_i h
    rw [h]
    rfl
  · unfold Ingest.paceDown
    split <;> rfl

theorem flush_writer (u : Ingest) (f : FrameNo) : (u.flush f).writer = u.writer := by
  unfold Ingest.flush Ingest.paceDown
  repeat' split
  all_goals rfl

/-! ## The action of the flip (R84, Table 6-2) -/

theorem flipAction_eq_swap {b : BackState} {f : FrameNo} : flipAction b f = .swap ↔ b = .complete f := by
  cases b with
  | empty => simp [flipAction]
  | opened t =>
    simp only [flipAction]
    split <;> simp
  | complete t =>
    simp only [flipAction]
    repeat' split
    all_goals simp [*]

theorem flipAction_of_later {b : BackState} {f : FrameNo}
    (h : b = .empty ∨ ∃ x, b.tag = some x ∧ later x f = true) : flipAction b f = .keep := by
  rcases h with rfl | ⟨x, hx, hl⟩
  · rfl
  cases b with
  | empty => rfl
  | opened t =>
    cases hx
    exact if_pos hl
  | complete t =>
    cases hx
    have other : x ≠ f := by
      rintro rfl
      simp at hl
    exact (if_neg other).trans (if_pos hl)

theorem flipAction_of_not_later {b : BackState} {f x : FrameNo} (hb : b ≠ .complete f) (hx : b.tag = some x)
    (hl : later x f = false) : flipAction b f = .missed := by
  cases b with
  | empty => cases hx
  | opened t =>
    cases hx
    exact if_neg (by simp [hl])
  | complete t =>
    cases hx
    exact (if_neg fun h => hb (congrArg _ h)).trans (if_neg (by simp [hl]))

/-! ## The flip (R84 to R88) -/

section Flip

variable {s : State} (c : Config)

theorem flip_of_swap (h : s.ingest.back.state = .complete s.frame) :
    s.flip c =
      (s.setIngest { s.ingest with back := BackBuffer.cleared s.wall.front }).setWall
        (s.wall.swap c s.timer.edges s.ingest.back) := by
  unfold State.flip
  dsimp only
  rw [flipAction_eq_swap.mpr h]

theorem flip_of_keep (h : flipAction s.ingest.back.state s.frame = .keep) :
    s.flip c = s.setWall (s.wall.repeatFront c s.timer.edges false) := by
  unfold State.flip
  dsimp only
  rw [h]

theorem flip_of_missed (h : flipAction s.ingest.back.state s.frame = .missed) :
    s.flip c =
      (s.setIngest { s.ingest with back := BackBuffer.cleared s.ingest.back.store }).setWall
        (s.wall.repeatFront c s.timer.edges true) := by
  unfold State.flip
  dsimp only
  rw [h]

/-- R87: with nothing to swap the front is repeated. -/
theorem flip_of_repeat (h : s.ingest.back.state ≠ .complete s.frame) :
    ∃ missed, (s.flip c).wall = s.wall.repeatFront c s.timer.edges missed := by
  cases ha : flipAction s.ingest.back.state s.frame with
  | swap => exact absurd (flipAction_eq_swap.mp ha) h
  | keep => exact ⟨false, by rw [flip_of_keep c ha, setWall_wall]⟩
  | missed => exact ⟨true, by rw [flip_of_missed c ha, setWall_wall]⟩

variable (s)

theorem flip_rows : RowsAlike s.ingest (s.flip c).ingest := by
  cases ha : flipAction s.ingest.back.state s.frame with
  | swap =>
    rw [flip_of_swap c (flipAction_eq_swap.mp ha)]
    exact {}
  | keep =>
    rw [flip_of_keep c ha]
    exact {}
  | missed =>
    rw [flip_of_missed c ha]
    exact {}

end Flip

/-! ## The edge -/

/-- Pixel ingest and the wall buffers are as they were. -/
structure PictureAlike (s t : State) : Prop where
  ingest : t.ingest = s.ingest := by rfl
  wall : t.wall = s.wall := by rfl

theorem PictureAlike.trans {a b c : State} (h : PictureAlike a b) (k : PictureAlike b c) : PictureAlike a c :=
  ⟨k.ingest.trans h.ingest, k.wall.trans h.wall⟩

theorem reportEdge_picture (s : State) (c : Config) (own : Option Station) : PictureAlike s (s.reportEdge c own) := by
  unfold State.reportEdge
  split <;> exact {}

/-- R83: after flip and scan no block of the edge touches the picture. -/
theorem blocksEdge_picture (s : State) (c : Config) (pins : BitVec 8) :
    PictureAlike (s.triggerQueueEdge.numberEdge.flushEdge.wallEdge c) (s.blocksEdge c pins false) := by
  have lanes {t u : State} (h : LanesAndFetch t u) : PictureAlike t u := ⟨h.ingest, h.wall⟩
  have pinned {t u : State} (h : PinsAndLanes t u) : PictureAlike t u := ⟨h.ingest, h.wall⟩
  rw [blocksEdge_eq]
  unfold State.beforeReport State.beforeLanes
  refine .trans ?_ (reportEdge_picture _ c _)
  refine .trans ?_ (pinned (pinsEdge_frame _ c pins))
  refine .trans ?_ ⟨setBudget_ingest .., setBudget_wall ..⟩
  refine .trans ?_ ⟨setOutput_ingest .., setOutput_wall ..⟩
  exact .trans (lanes (fetchEdge_frame _ c)) (lanes (lanesEdge_frame _ c))

/-- R91, R92: of the picture the scan writes the profile and the drive alone. -/
theorem wallEdge_picture (s : State) (c : Config) :
    (s.wallEdge c).ingest = (s.flip c).ingest ∧
      ∃ profile drive, (s.wallEdge c).wall = { (s.flip c).wall with profile := profile, drive := drive } :=
  ⟨rfl, _, _, rfl⟩

/-- The state in which the wall buffers flip at an edge. -/
def State.beforeFlip (s : State) (c : Config) : State :=
  (s.agePeers c).timerEdge.triggerQueueEdge.numberEdge.flushEdge

/-- R44, R71: what the flip finds at an edge: the number of the edge, the rows flushed, back buffer and wall as they were. -/
structure BeforeFlip (s : State) (u : State) : Prop where
  frame : u.frame = s.nextFrame
  ingest : u.ingest = s.ingest.flush s.nextFrame
  wall : u.wall = s.wall

theorem beforeFlip_spec (s : State) (c : Config) : BeforeFlip s (s.beforeFlip c) := by
  have aged := agePeers_frame s c
  have timed := timerEdge_frame (s.agePeers c)
  have number : (s.agePeers c).timerEdge.frame = s.nextFrame := by
    rw [(timerEdge_work _).2, State.nextFrame, aged.timer]
    rfl
  unfold State.beforeFlip
  generalize (s.agePeers c).timerEdge = w at timed number
  have numbered := numberEdge_frame w.triggerQueueEdge
  have frame : w.triggerQueueEdge.numberEdge.frame = s.nextFrame := numbered.frame.trans number
  have ingest : w.triggerQueueEdge.numberEdge.ingest = s.ingest :=
    numbered.ingest.trans (timed.ingest.trans aged.ingest)
  refine ⟨frame, ?_, numbered.wall.trans (timed.wall.trans aged.wall)⟩
  show Ingest.flush _ _ = _
  rw [frame, ingest]

/-- R83: the picture after an edge is what the flip makes of it, but for the profile and the drive of the scan. -/
theorem edge_picture {s : State} (hr : s.isRunning = true) (c : Config) (pins : BitVec 8) :
    (s.edge c pins).ingest = ((s.beforeFlip c).flip c).ingest ∧
      ∃ profile drive,
        (s.edge c pins).wall = { ((s.beforeFlip c).flip c).wall with profile := profile, drive := drive } := by
  have running : (s.agePeers c).timerEdge.isRunning = true :=
    (timerEdge_frame _).isRunning.trans ((agePeers_frame s c).isRunning.trans hr)
  have after := blocksEdge_picture (s.agePeers c).timerEdge c pins
  unfold State.edge
  dsimp only
  rw [if_pos running, setAhead_ingest, setAhead_wall, after.ingest, after.wall]
  exact wallEdge_picture (s.beforeFlip c) c

/-- R88: WALL_HELD at an edge that will not swap. -/
theorem exec_wallHeld {s : State} {r : TimerRun} {c : Config} (hr : s.startup.phase = .running)
    (ht : s.timer.run = some r) (hc : s.config = some c) (hb : s.ingest.back.state ≠ .complete r.nextNumber)
    (hl : c.holdLimit < raise16 s.wall.repeatRun) :
    exec .wallHeld s = .next (s.setWall { s.wall with held := true }) := by
  have still : s.swapDue = false := by
    unfold State.swapDue
    rw [ht]
    exact decide_eq_false (mt flipAction_eq_swap.mp hb)
  show execWallHeld s = _
  unfold execWallHeld
  rw [isRunning_of_phase hr, hc]
  exact congrArg _ (if_pos ⟨hl, still⟩)

/-- Settles O40: the flip of Table 6-2 on what the edge brings to it, and the hold condition ahead of an edge. -/
theorem flipAtEdge : Obligations.FlipAtEdge := by
  refine ⟨fun s pins r cfg hr ht hc => ?edge, fun s r cfg hr ht hc hb hl => exec_wallHeld hr ht hc hb hl⟩
  intro f b run
  obtain ⟨ingest, profile, drive, wall⟩ := edge_picture (isRunning_of_phase hr) cfg pins
  have before := beforeFlip_spec s cfg
  refine ⟨_, exec_frameEdge ht hc pins, ?_⟩
  rw [ingest, wall]
  generalize s.beforeFlip cfg = u at before
  have number : u.frame = f := by
    rw [before.frame, State.nextFrame, ht]
  have flushed : u.ingest = s.ingest.flush f := by
    rw [before.ingest, State.nextFrame, ht]
  have back : u.ingest.back = b := by
    rw [flushed]
    exact (flush_spec s.ingest f).1
  have rows := flip_rows u cfg
  refine ⟨?queue, ?writer, fun hb => ?swap, fun hb => ?still⟩
  case queue => rw [rows.queue, flushed, flush_queue]
  case writer => rw [rows.writer, flushed, flush_writer]
  case swap =>
    rw [flip_of_swap cfg (by rw [back, number, hb]), before.wall, back]
    exact ⟨rfl, rfl, rfl, rfl, rfl, rfl, rfl, rfl⟩
  case still =>
    obtain ⟨missed, repeated⟩ := flip_of_repeat cfg (s := u) (by rw [back, number]; exact hb)
    refine ⟨?_, ?_, ?_, ?_, ?_, ?_, fun hk => ?keep, fun x hx hl => ?missed⟩
    case keep =>
      rw [flip_of_keep cfg (by rw [back, number]; exact flipAction_of_later hk), before.wall]
      exact ⟨back, rfl⟩
    case missed =>
      rw [flip_of_missed cfg (by rw [back, number]; exact flipAction_of_not_later hb hx hl), before.wall, back]
      exact ⟨rfl, rfl⟩
    all_goals
      rw [repeated, before.wall]
      rfl

end Sys2Proof.Machine
end

section
/-! SUPPORT. Commands whose event cannot occur: outside RUNNING, with the frame timer stopped, with no attempt in progress,
outside DETACHED, and with no fetch in flight. -/

namespace Sys2Proof.Machine

open Sys2Proof

/-! ## Outside RUNNING -/

section Stopped

variable {s : State} (h : s.startup.phase ≠ .running)

include h

theorem isRunning_of_not_running : s.isRunning = false := decide_eq_false h

theorem takePackets_of_stopped (packets : List RowPacket) : packets.foldl State.takePacket s = s := by
  induction packets with
  | nil => rfl
  | cons p rest ih => rw [List.foldl_cons, takePacket_of_stopped (isRunning_of_not_running h), ih]

/-- R66: while pixel ingest is stopped the receiver follows its line, and what arrives is discarded. -/
theorem exec_rowArrival_of_stopped (levels : List Bool) :
    exec (.rowArrival levels) s = .next { s with pixelPort := (s.pixelPort.run levels).1 } :=
  (exec_rowArrival rfl).trans
    (congrArg Host.Outcome.next (takePackets_of_stopped (s := s.setPixelPort (s.pixelPort.run levels).1) h _))

end Stopped

/-- Settles O4: each command reads the part of the state in which its event cannot occur, and stops there. -/
theorem absentEventsChangeNothing : Obligations.AbsentEventsChangeNothing := by
  refine fun s => ⟨fun h => ?stopped, fun h => ?noTimer, fun h => ?noAttempt, fun h levels => ?attached,
    fun h => ?noFlight⟩
  case stopped =>
    have held : s.linkHeld = true := linkHeld_of_not_running h
    have running : s.isRunning = false := isRunning_of_not_running h
    refine ⟨?join, ?wall, ?limit, ?commit, exec_rowArrival_of_stopped h, fun _ _ _ => ?rail, fun _ => ?pin,
      fun kind phase => ?fault, fun m => ?answer, fun m => ?go⟩ <;> refine congrArg Host.Outcome.next ?_
    case join => exact if_pos held
    case fault => exact if_neg (by simp [State.findsFault, held])
    case answer => exact receive_of_held held ..
    case go => exact receive_of_held held ..
    all_goals rw [running]
  case noTimer =>
    have stopped : ¬ s.timer.run.isSome = true := by simp [h]
    have due : s.runDue = none := by simp [State.runDue, h]
    refine ⟨fun pins => ?edge, ?beacon, ?trigger, ?start, ?quiet, ?reference, fun n => ?age⟩ <;>
      refine congrArg Host.Outcome.next ?_
    case edge => rw [h]
    case beacon => exact if_neg stopped
    case trigger => exact if_neg stopped
    case start => rw [due]
    case quiet => rw [due]
    case reference => rw [h]
    case age => exact if_neg (by simp [State.dueAgeOut, h])
  case noAttempt =>
    refine ⟨?arbitration, ?claim, ?sent⟩ <;> refine congrArg Host.Outcome.next ?_
    case arbitration =>
      unfold State.attemptFailed
      rw [h]
    case claim => rw [h]
    case sent => rw [h]
  case attached => exact congrArg Host.Outcome.next (if_neg h)
  case noFlight =>
    refine congrArg Host.Outcome.next ?_
    unfold State.completeFetch
    rw [h]

end Sys2Proof.Machine
end

section
/-! SUPPORT. The scan profiles of a block that passes (R90): the largest member of an ascending set not above a value. -/

namespace Sys2Proof.Machine

open Sys2Proof

/-! ## The largest member not above a value (R90) -/

/-- The first step of the choice changes nothing: it starts with the first member. -/
theorem largestMember_cons (a : Nat) (l : List Nat) (v : Nat) :
    largestMember (a :: l) v = l.foldl (fun best m => if m ≤ v then m else best) a := by
  simp [largestMember]

/-- In an ascending list of which some member is not above the value, the largest such member is chosen. -/
theorem largestMember_spec {a : Nat} {l : List Nat} {v : Nat} (hs : (a :: l).Pairwise (· < ·)) (ha : a ≤ v) :
    largestMember (a :: l) v ∈ a :: l ∧ largestMember (a :: l) v ≤ v ∧
      ∀ x ∈ a :: l, x ≤ v → x ≤ largestMember (a :: l) v := by
  induction l generalizing a with
  | nil => simp [largestMember_cons, ha]
  | cons b l ih =>
    obtain ⟨above, hbl⟩ := List.pairwise_cons.mp hs
    obtain ⟨hab, hal⟩ := List.forall_mem_cons.mp above
    by_cases hb : b ≤ v
    · have step : largestMember (a :: b :: l) v = largestMember (b :: l) v := by
        simp [largestMember_cons, hb]
      obtain ⟨member, below, largest⟩ := ih hbl hb
      rw [step]
      exact ⟨List.mem_cons_of_mem _ member, below,
        List.forall_mem_cons.mpr ⟨fun _ => hab.le.trans (largest b List.mem_cons_self hb), largest⟩⟩
    · have step : largestMember (a :: b :: l) v = largestMember (a :: l) v := by
        simp [largestMember_cons, hb]
      obtain ⟨member, below, largest⟩ := ih (List.pairwise_cons.mpr ⟨hal, hbl.of_cons⟩) ha
      obtain ⟨first, rest⟩ := List.forall_mem_cons.mp largest
      rw [step]
      exact ⟨List.cons_subset_cons a (List.subset_cons_self b l) member, below,
        List.forall_mem_cons.mpr ⟨first, List.forall_mem_cons.mpr ⟨fun h => absurd h hb, rest⟩⟩⟩

/-! ## The profiles of a block (R90) -/

theorem buildConfig_profile (b : List Byte) (bitTime : Nat) (mode : NumberMode) (i : Fin 9) :
    (buildConfig b bitTime mode).profiles.get i = readProfile b i.val := by
  simp [buildConfig, Vector.get_eq_getElem]

/-- Settles O41: a value of 0 is taken as 1; the first member, 1, is not above any other value, so the choice is the largest
member not above it. -/
theorem profileSlotsClamped : Obligations.ProfileSlotsClamped := by
  intro b c passed i m set p
  obtain ⟨-, -, bitTime, mode, rfl⟩ := judgeBlock_ok passed
  have profile : p = readProfile b i.val := buildConfig_profile b bitTime mode i
  have slots : p.slots = clampSlots m := congrArg ScanProfile.slots profile
  have blank : p.blank ≤ 4095 := by
    rw [profile]
    exact Nat.min_le_left ..
  have ascending : set.Pairwise (· < ·) := by decide
  rw [slots]
  by_cases hm : m = 0
  · have one : clampSlots m = 1 := by
      rw [hm]
      decide
    exact ⟨one ▸ List.mem_cons_self, blank, fun _ => one, fun h => absurd hm h⟩
  · obtain ⟨member, below, largest⟩ := largestMember_spec ascending (Nat.one_le_iff_ne_zero.mpr hm)
    exact ⟨member, blank, fun h => absurd h hm, fun _ => ⟨below, largest⟩⟩

end Sys2Proof.Machine
end

section
/-! SUPPORT. The scan of a frame: the profile (R91), the slots (R92), the pixel chain (R93, R94), and what an edge sets of
them. -/

namespace Sys2Proof.Machine

open Sys2Proof

/-! ## The profile of a frame (R91) -/

/-- R91: the on-air camera of lowest number gives the profile. -/
theorem chooseProfile_of_lowest {cameras : Vector Camera 8} {i : Fin 8} (on : (cameras.get i).onAir = true)
    (lowest : ∀ j : Fin 8, j < i → (cameras.get j).onAir = false) : chooseProfile cameras = i.castSucc := by
  have found : (List.finRange 8).find? (fun i => (cameras.get i).onAir) = some i := by
    rw [← Fin.find?_eq_find?_finRange, Fin.find?_eq_some_iff]
    exact ⟨on, lowest⟩
  unfold chooseProfile
  rw [found]

/-- R91: with no camera on air the default profile holds. -/
theorem chooseProfile_of_none {cameras : Vector Camera 8} (off : ∀ i : Fin 8, (cameras.get i).onAir = false) :
    chooseProfile cameras = 8 := by
  have found : (List.finRange 8).find? (fun i => (cameras.get i).onAir) = none := by
    rw [List.find?_eq_none]
    simp [off]
  unfold chooseProfile
  rw [found]

/-! ## The slots (R92) -/

/-- R92: the last slot ends where the frame ends. -/
theorem form_fills_frame (p : ScanProfile) (length scale : Nat) (merged : Vector Nat 36) (h : 0 < p.slots) :
    (ScanDrive.form p length merged scale).slotStart (p.slots - 1) +
      (ScanDrive.form p length merged scale).lastLength = length := by
  show (p.slots - 1) * (length / p.slots) + (length / p.slots + length % p.slots) = length
  calc (p.slots - 1) * (length / p.slots) + (length / p.slots + length % p.slots)
    _ = (p.slots - 1 + 1) * (length / p.slots) + length % p.slots := by rw [Nat.succ_mul, Nat.add_assoc]
    _ = p.slots * (length / p.slots) + length % p.slots := by rw [Nat.sub_add_cancel h]
    _ = length := Nat.div_add_mod ..

/-! ## The pixel chain (R93, R94) -/

/-- Scaling by a level does not raise a value. -/
theorem scaleBy_le {x level : Nat} (h : level ≤ 65535) : scaleBy x level ≤ x := by
  refine Nat.div_le_of_le_mul ?_
  rw [Nat.mul_comm]
  exact Nat.mul_le_mul_right x (Nat.succ_le_succ h)

/-- The full level passes a value whole. -/
@[simp] theorem scaleBy_full (x : Nat) : scaleBy x 65535 = x := Nat.mul_div_cancel x (by decide)

@[simp] theorem scaleBy_zero (level : Nat) : scaleBy 0 level = 0 := by simp [scaleBy]

section Chain

variable {d : ScanDrive} {i : Fin 3}

/-- R93: levels and scale only take from a stored component. -/
theorem q4_le (hm : d.master ≤ 65535) (ht : d.trims.component i ≤ 65535) (hs : d.scale ≤ 65535) (q : Nat) :
    d.q4 q i ≤ q :=
  calc d.q4 q i
    _ ≤ scaleBy (scaleBy q d.master) (d.trims.component i) := scaleBy_le hs
    _ ≤ scaleBy q d.master := scaleBy_le ht
    _ ≤ q := scaleBy_le hm

theorem q4_of_full (hm : d.master = 65535) (ht : d.trims.component i = 65535) (hs : d.scale = 65535) (q : Nat) :
    d.q4 q i = q := by
  simp [ScanDrive.q4, hm, ht, hs]

/-- R94: a driven component of at most 4095 lights at most the window. -/
theorem onTime_le_lit {q : Nat} (h : d.q4 q i ≤ 4095) : d.onTime q i ≤ d.lit :=
  Nat.div_le_of_le_mul (Nat.mul_le_mul_right d.lit h)

/-- R94: a driven component of 4095 lights the whole window. -/
theorem onTime_of_full {q : Nat} (h : d.q4 q i = 4095) : d.onTime q i = d.lit := by
  unfold ScanDrive.onTime
  rw [h]
  exact Nat.mul_div_cancel_left d.lit (by decide)

/-- R94: a dark component is dark. -/
theorem onTime_zero : d.onTime 0 i = 0 := by
  simp [ScanDrive.onTime, ScanDrive.q4]

end Chain

/-! ## The edge -/

/-- R84: outside the picture the flip changes nothing. -/
theorem flip_eq (s : State) (c : Config) : ∃ x w, s.flip c = (s.setIngest x).setWall w := by
  unfold State.flip
  dsimp only
  split
  · exact ⟨_, _, rfl⟩
  · exact ⟨s.ingest, _, rfl⟩
  · exact ⟨_, _, rfl⟩

/-- R91 to R93: the profile and the drive that the scan sets after the flip. -/
theorem wallEdge_scan {s : State} {r : TimerRun} (hr : s.timer.run = some r) (c : Config) :
    (s.wallEdge c).wall.profile = some (chooseProfile s.triggers.cameras) ∧
      (s.wallEdge c).wall.drive =
        some (ScanDrive.form (c.profiles.get (chooseProfile s.triggers.cameras)) r.length
          (s.output.merged.readBefore s.timer.edges) (s.budget.scale.readBefore s.timer.edges)) := by
  obtain ⟨x, w, flipped⟩ := flip_eq s c
  unfold State.wallEdge State.scanEdge
  rw [flipped]
  simp [hr]

/-- R83: after the scan no block of the edge touches the wall buffers. -/
theorem edge_wall {s : State} (hr : s.isRunning = true) (c : Config) (pins : BitVec 8) :
    (s.edge c pins).wall = ((s.beforeFlip c).wallEdge c).wall := by
  have running : (s.agePeers c).timerEdge.isRunning = true :=
    (timerEdge_frame _).isRunning.trans ((agePeers_frame s c).isRunning.trans hr)
  unfold State.edge
  dsimp only
  rw [if_pos running, setAhead_wall]
  exact (blocksEdge_picture (s.agePeers c).timerEdge c pins).wall

/-- R44: the frame timer runs on through an edge, and the edge is counted. -/
theorem edge_timer {s : State} {r : TimerRun} (hr : s.timer.run = some r) (c : Config) (pins : BitVec 8) :
    ∃ r', (s.edge c pins).timer.run = some r' ∧ (s.edge c pins).timer.edges = s.timer.edges + 1 := by
  cases hn : r.restart with
  | none =>
    obtain ⟨_, -, run, edges, -⟩ := edge_run hr hn c pins
    exact ⟨_, run, edges⟩
  | some x =>
    have begun : (s.edge c pins).timer = ((s.stateAtEdge c r).restartEdge x r.nextEdge).timer := by
      rw [(edge_clock s c pins).timer, timerEdge_of_restart hr hn]
    rw [begun]
    exact ⟨_, rfl, congrArg FrameTimer.edges (stateAtEdge_spec s c r).timer⟩

/-- What the scan reads at an edge: the frame begun, the cameras as the ageing of the edge leaves them, and output stage and
power budget as they were. -/
structure BeforeScan (s : State) (c : Config) (pins : BitVec 8) (u : State) : Prop where
  timer : u.timer = (s.edge c pins).timer
  triggers : u.triggers = (s.agePeers c).triggers
  output : u.output = s.output
  budget : u.budget = s.budget

theorem beforeFlip_scan (s : State) (c : Config) (pins : BitVec 8) : BeforeScan s c pins (s.beforeFlip c) := by
  have aged := agePeers_frame s c
  have timed := timerEdge_frame (s.agePeers c)
  have clock := edge_clock s c pins
  unfold State.beforeFlip
  generalize (s.agePeers c).timerEdge = w at timed clock
  have numbered := numberEdge_frame w.triggerQueueEdge
  exact ⟨numbered.timer.trans clock.timer.symm, numbered.triggers.trans timed.triggers,
    numbered.output.trans (timed.output.trans aged.output), numbered.budget.trans (timed.budget.trans aged.budget)⟩

/-- R91 to R93: profile and drive after an edge. -/
theorem edge_scan {s : State} {r : TimerRun} (running : s.isRunning = true) (hr : s.timer.run = some r)
    (sound : s.LabelsSound) (c : Config) (pins : BitVec 8) :
    ∃ r', (s.edge c pins).timer.run = some r' ∧
      (s.edge c pins).wall.profile = some (chooseProfile (s.agePeers c).triggers.cameras) ∧
      (s.edge c pins).wall.drive =
        some (ScanDrive.form (c.profiles.get (chooseProfile (s.agePeers c).triggers.cameras)) r'.length
          s.output.merged.last s.budget.scale.last) := by
  obtain ⟨-, -, -, merged, scale⟩ := sound
  obtain ⟨r', run, edges⟩ := edge_timer hr c pins
  have before := beforeFlip_scan s c pins
  obtain ⟨profile, drive⟩ := wallEdge_scan ((congrArg FrameTimer.run before.timer).trans run) c
  rw [before.triggers] at profile drive
  rw [before.output, before.budget, before.timer, edges, readBefore_of_lt (Nat.lt_succ_of_le merged),
    readBefore_of_lt (Nat.lt_succ_of_le scale)] at drive
  rw [edge_wall running]
  exact ⟨r', run, profile, drive⟩

/-- Settles O42: the choice of profile, the slots and the pixel chain each by its rule, and the edge by what the scan reads
at it. -/
theorem scanStaysInItsWindow : Obligations.ScanStaysInItsWindow := by
  refine ⟨fun cameras => ⟨chooseProfile_of_none, fun i => chooseProfile_of_lowest⟩, ?slots, ?chain, ?edge⟩
  case slots =>
    intro p length scale merged hp d
    exact ⟨form_fills_frame p length scale merged hp, Nat.le_add_right .., rfl⟩
  case chain =>
    intro d q i hq hm ht hs
    exact ⟨q4_le hm ht hs q, onTime_le_lit ((q4_le hm ht hs q).trans hq),
      fun hm ht hs => ⟨q4_of_full hm ht hs q, onTime_of_full (q4_of_full hm ht hs 4095)⟩, onTime_zero⟩
  case edge =>
    intro s pins r cfg hp hr hc sound p
    obtain ⟨r', run, profile, drive⟩ := edge_scan (isRunning_of_phase hp) hr sound cfg pins
    exact ⟨_, r', exec_frameEdge hr hc pins, run, profile, drive⟩

end Sys2Proof.Machine
end

section
/-! SUPPORT. The rules of the fetch unit: whom the port is given to, what a withdrawal and a handed request leave, and which
lanes have a request after them. -/

namespace Sys2Proof.Machine

set_option Elab.async false

open Sys2Proof

/-! ## The lanes with a request -/

/-- R104: the lane of the fetch in flight and the lanes of the queued requests. -/
def Fetch.requesting (u : Fetch) : List (Fin 4) :=
  u.flight.toList.map (fun fl => fl.request.lane) ++ u.queue.map (fun r => r.lane)

theorem requesting_of_flight {u : Fetch} {fl : Flight} (h : u.flight = some fl) :
    u.requesting = fl.request.lane :: u.queue.map (fun r => r.lane) := by
  simp [Fetch.requesting, h]

theorem requesting_of_no_flight {u : Fetch} (h : u.flight = none) : u.requesting = u.queue.map (fun r => r.lane) := by
  simp [Fetch.requesting, h]

/-- A lane has no request: none of its own flies and none waits. -/
theorem not_mem_requesting {u : Fetch} {i : Fin 4} :
    i ∉ u.requesting ↔ (∀ fl, u.flight = some fl → fl.request.lane ≠ i) ∧ ∀ x ∈ u.queue, x.lane ≠ i := by
  simp [Fetch.requesting, not_or]

/-- Removing the requests of a lane leaves the other lanes theirs, in their order. -/
theorem lanes_filter_sublist (q : List FetchRequest) (i : Fin 4) :
    ((q.filter fun x => decide (x.lane ≠ i)).map fun r => r.lane).Sublist (q.map fun r => r.lane) :=
  List.filter_sublist.map _

theorem not_mem_lanes_filter (q : List FetchRequest) (i : Fin 4) :
    i ∉ (q.filter fun x => decide (x.lane ≠ i)).map fun r => r.lane := by
  simp

/-- A request that joins the queue adds itself to it. -/
theorem insertRequest_perm (f : FrameNo) (r : FetchRequest) (q : List FetchRequest) :
    (insertRequest f r q).Perm (r :: q) := by
  induction q with
  | nil => exact .refl _
  | cons x rest ih =>
    simp only [insertRequest]
    split
    · exact .refl _
    · exact (ih.cons x).trans (.swap r x rest)

/-! ## The choice of the port (R105) -/

theorem firstRequest_eq_none {f : FrameNo} {q : List FetchRequest} : firstRequest f q = none ↔ q = [] := by
  cases q with
  | nil => simp [firstRequest]
  | cons x rest =>
    simp only [firstRequest, reduceCtorEq, iff_false]
    split
    · simp
    · split <;> simp

theorem choosePort_of_loader {s : State} (h : s.fetch.loaderRequest = true) :
    s.choosePort =
      s.setFetch
        { s.fetch with
          port := .loader
          grant := true
          flight := none
          counters := { s.fetch.counters with grant := raise16 s.fetch.counters.grant } } := if_pos h

theorem choosePort_of_read {s : State} (hl : s.fetch.loaderRequest = false) (hr : s.startup.readAsked = true) :
    s.choosePort = s.setFetch { s.fetch with port := .configRead, grant := false, flight := none } := by
  simp [State.choosePort, hl, hr]

theorem choosePort_of_first {s : State} {r : FetchRequest} (hl : s.fetch.loaderRequest = false)
    (hr : s.startup.readAsked = false) (hq : firstRequest s.frame s.fetch.queue = some r) :
    s.choosePort =
      s.setFetch
        { s.fetch with
          port := .fetch
          grant := false
          flight := some ⟨r, s.tick⟩
          queue := s.fetch.queue.filter fun x => decide (x.lane ≠ r.lane) } := by
  simp [State.choosePort, hl, hr, hq]

theorem choosePort_of_nobody {s : State} (hl : s.fetch.loaderRequest = false) (hr : s.startup.readAsked = false)
    (hq : s.fetch.queue = []) :
    s.choosePort = s.setFetch { s.fetch with port := .none, grant := false, flight := none } := by
  simp [State.choosePort, hl, hr, firstRequest_eq_none.mpr hq]

/-- R105: a free port goes to the loader, to a waiting read, to the first request of the queue, or to nobody. -/
theorem choosePort_cases (s : State) {p : State → Prop}
    (loader : s.fetch.loaderRequest = true → p (s.setFetch
      { s.fetch with
        port := .loader
        grant := true
        flight := none
        counters := { s.fetch.counters with grant := raise16 s.fetch.counters.grant } }))
    (read : s.fetch.loaderRequest = false →
      p (s.setFetch { s.fetch with port := .configRead, grant := false, flight := none }))
    (first : s.fetch.loaderRequest = false → ∀ r ∈ s.fetch.queue, p (s.setFetch
      { s.fetch with
        port := .fetch
        grant := false
        flight := some ⟨r, s.tick⟩
        queue := s.fetch.queue.filter fun x => decide (x.lane ≠ r.lane) }))
    (nobody : s.fetch.loaderRequest = false →
      p (s.setFetch { s.fetch with port := .none, grant := false, flight := none })) : p s.choosePort := by
  unfold State.choosePort
  dsimp only
  split
  · exact loader ‹_›
  · rename_i hl
    have low : s.fetch.loaderRequest = false := Bool.eq_false_of_not_eq_true hl
    split
    · exact read low
    · split
      · exact first low _ (firstRequest_mem ‹_›)
      · exact nobody low

/-- R104, R105: the port chosen, the fetch unit is sound where no lane had two requests in the queue. -/
theorem choosePort_sound {s : State} (h : (s.fetch.queue.map fun r => r.lane).Nodup) : s.choosePort.PortSound := by
  apply choosePort_cases
  case first =>
    intro _ r _
    have apart : (r.lane :: (s.fetch.queue.filter fun x => decide (x.lane ≠ r.lane)).map fun x => x.lane).Nodup :=
      List.nodup_cons.mpr ⟨not_mem_lanes_filter _ _, h.sublist (lanes_filter_sublist ..)⟩
    exact ⟨by simp, by simp, apart⟩
  all_goals exact fun _ => ⟨by simp, by simp, h⟩

/-- R105: the choice gives no lane a request. -/
theorem choosePort_requesting {s : State} {i : Fin 4} (h : i ∉ s.fetch.queue.map fun r => r.lane) :
    i ∉ s.choosePort.fetch.requesting := by
  apply choosePort_cases (p := fun t => i ∉ t.fetch.requesting)
  case first =>
    intro _ r hr
    refine not_mem_requesting.mpr ⟨fun fl hfl he => ?_, fun x hx he => ?_⟩
    · cases hfl
      exact h (List.mem_map.mpr ⟨r, hr, he⟩)
    · exact h (List.mem_map.mpr ⟨x, List.mem_of_mem_filter hx, he⟩)
  all_goals exact fun _ => h

/-- R109: the grant stands after the choice where the request stands. -/
theorem choosePort_grant (s : State) :
    s.choosePort.fetch.grant = s.fetch.loaderRequest ∧ s.choosePort.fetch.loaderRequest = s.fetch.loaderRequest := by
  apply choosePort_cases (p := fun t => t.fetch.grant = s.fetch.loaderRequest ∧
    t.fetch.loaderRequest = s.fetch.loaderRequest)
  case first => exact fun low _ _ => ⟨low.symm, rfl⟩
  all_goals exact fun h => ⟨h.symm, rfl⟩

/-- R103, R105: the choice counts no outcome. -/
theorem choosePort_outcomes (s : State) :
    s.choosePort.fetch.counters.done = s.fetch.counters.done ∧ s.choosePort.fetch.lastBad = s.fetch.lastBad := by
  apply choosePort_cases (p := fun t => t.fetch.counters.done = s.fetch.counters.done ∧
    t.fetch.lastBad = s.fetch.lastBad)
  case first => exact fun _ _ _ => ⟨rfl, rfl⟩
  all_goals exact fun _ => ⟨rfl, rfl⟩

/-- The choice reads the lanes nowhere. -/
theorem choosePort_setLanes (s : State) (e : LaneEngine) : (s.setLanes e).choosePort = s.choosePort.setLanes e := by
  unfold State.choosePort
  dsimp only
  rw [show (s.setLanes e).fetch = s.fetch from rfl, show (s.setLanes e).startup = s.startup from rfl,
    show (s.setLanes e).frame = s.frame from rfl]
  split
  · rfl
  · split
    · rfl
    · split <;> rfl

/-! ## A withdrawal (R107) -/

theorem withdrawRequest_of_flight {s : State} {i : Fin 4} {fl : Flight} (h : s.fetch.flight = some fl)
    (hl : fl.request.lane = i) :
    s.withdrawRequest i =
      (s.setFetch
        { s.fetch with
          flight := none
          port := .none
          counters := { s.fetch.counters with abort := raise16 s.fetch.counters.abort } }).choosePort := by
  simp [State.withdrawRequest, h, hl]

theorem flight_any_eq_false {u : Fetch} {i : Fin 4} (h : ∀ fl, u.flight = some fl → fl.request.lane ≠ i) :
    (u.flight.any fun fl => decide (fl.request.lane = i)) = false := by
  cases hf : u.flight with
  | none => rfl
  | some fl => exact decide_eq_false (h fl hf)

theorem withdrawRequest_of_queued {s : State} {i : Fin 4} (hf : ∀ fl, s.fetch.flight = some fl → fl.request.lane ≠ i)
    (hq : ∃ x ∈ s.fetch.queue, x.lane = i) :
    s.withdrawRequest i =
      s.setFetch
        { s.fetch with
          queue := s.fetch.queue.filter fun r => decide (r.lane ≠ i)
          counters := { s.fetch.counters with withdraw := raise16 s.fetch.counters.withdraw } } := by
  have queued : (s.fetch.queue.any fun r => decide (r.lane = i)) = true := by simpa using hq
  unfold State.withdrawRequest
  dsimp only
  rw [flight_any_eq_false hf, queued]
  rfl

theorem withdrawRequest_of_none {s : State} {i : Fin 4} (h : i ∉ s.fetch.requesting) : s.withdrawRequest i = s := by
  obtain ⟨hf, hq⟩ := not_mem_requesting.mp h
  have unqueued : (s.fetch.queue.any fun r => decide (r.lane = i)) = false := by simpa using hq
  unfold State.withdrawRequest
  dsimp only
  rw [flight_any_eq_false hf, unqueued]
  rfl

/-- A lane has its request in flight, or only in the queue, or nowhere. -/
theorem request_of_lane (u : Fetch) (i : Fin 4) :
    (∃ fl, u.flight = some fl ∧ fl.request.lane = i) ∨
      ((∀ fl, u.flight = some fl → fl.request.lane ≠ i) ∧ ∃ x ∈ u.queue, x.lane = i) ∨ i ∉ u.requesting := by
  rw [not_mem_requesting]
  by_cases hf : ∃ fl, u.flight = some fl ∧ fl.request.lane = i
  · exact .inl hf
  · have idle : ∀ fl, u.flight = some fl → fl.request.lane ≠ i := fun fl h he => hf ⟨fl, h, he⟩
    by_cases hq : ∃ x ∈ u.queue, x.lane = i
    · exact .inr (.inl ⟨idle, hq⟩)
    · exact .inr (.inr ⟨idle, fun x h he => hq ⟨x, h, he⟩⟩)

/-- R107: after a withdrawal the fetch unit is sound and the lane has no request. -/
theorem withdrawRequest_sound {s : State} (h : s.PortSound) (i : Fin 4) :
    (s.withdrawRequest i).PortSound ∧ i ∉ (s.withdrawRequest i).fetch.requesting := by
  obtain ⟨hg, hp, hd⟩ := h
  rcases request_of_lane s.fetch i with ⟨fl, hfl, hl⟩ | ⟨hf, hq⟩ | hn
  · have apart : (fl.request.lane :: s.fetch.queue.map fun r => r.lane).Nodup := requesting_of_flight hfl ▸ hd
    obtain ⟨hi, hd'⟩ := List.nodup_cons.mp apart
    rw [withdrawRequest_of_flight hfl hl]
    exact ⟨choosePort_sound hd', choosePort_requesting (hl ▸ hi)⟩
  · rw [withdrawRequest_of_queued hf hq]
    refine ⟨⟨hg, hp, hd.sublist (List.Sublist.append_left (lanes_filter_sublist ..) _)⟩, ?_⟩
    exact not_mem_requesting.mpr ⟨hf, by simp⟩
  · rw [withdrawRequest_of_none hn]
    exact ⟨⟨hg, hp, hd⟩, hn⟩

/-! ## A request handed (R104) -/

/-- R104: a request is taken by a free port at once, or joins the queue. -/
def State.placeRequest (s : State) (r : FetchRequest) : State :=
  if s.fetch.port = .none then s.setFetch { s.fetch with port := .fetch, flight := some ⟨r, s.tick⟩ }
  else s.setFetch { s.fetch with queue := insertRequest s.frame r s.fetch.queue }

theorem handRequest_eq (s : State) (i : Fin 4) (p : Fin 16) (cue : BitVec 16) (e : FrameNo) :
    s.handRequest i p cue e = (s.withdrawRequest i).placeRequest ⟨i, p, cue, e, 0⟩ := rfl

theorem placeRequest_sound {s : State} (h : s.PortSound) {r : FetchRequest} (hr : r.lane ∉ s.fetch.requesting) :
    (s.placeRequest r).PortSound := by
  obtain ⟨hg, hp, hd⟩ := h
  unfold State.placeRequest
  split
  · rename_i free
    have idle : s.fetch.flight = none := by simpa [free] using hp
    rw [requesting_of_no_flight idle] at hr
    have hq : (s.fetch.queue.map fun x => x.lane).Nodup := requesting_of_no_flight idle ▸ hd
    exact ⟨by simpa [free] using hg, by simp, List.nodup_cons.mpr ⟨hr, hq⟩⟩
  · refine ⟨hg, hp, ?_⟩
    have joined : ((insertRequest s.frame r s.fetch.queue).map fun x => x.lane).Perm
        (r.lane :: s.fetch.queue.map fun x => x.lane) := (insertRequest_perm ..).map _
    exact ((joined.append_left _).trans List.perm_middle).nodup_iff.mpr (List.nodup_cons.mpr ⟨hr, hd⟩)

theorem handRequest_sound {s : State} (h : s.PortSound) (i : Fin 4) (p : Fin 16) (cue : BitVec 16) (e : FrameNo) :
    (s.handRequest i p cue e).PortSound := by
  obtain ⟨hs, hi⟩ := withdrawRequest_sound h i
  exact placeRequest_sound hs hi

end Sys2Proof.Machine

end

section
/-! SUPPORT. What every command keeps: the queue of commands, the serial and, but for the loader's writes, show memory; and
the soundness of the fetch unit (R98, R104, R109). -/

namespace Sys2Proof.Machine

set_option Elab.async false

open Sys2Proof

/-- The queue of commands and the serial are as they were, and a sound fetch unit is sound still. -/
structure PortKept (s t : State) : Prop where
  pending : t.pending = s.pending := by rfl
  serial : t.serial = s.serial := by rfl
  port : s.PortSound → t.PortSound := by exact id

/-- And show memory is as it was. -/
structure ShowKept (s t : State) : Prop extends PortKept s t where
  memory : t.showMemory = s.showMemory := by rfl

theorem PortKept.trans {a b c : State} (h : PortKept a b) (k : PortKept b c) : PortKept a c :=
  ⟨k.pending.trans h.pending, k.serial.trans h.serial, k.port ∘ h.port⟩

theorem ShowKept.refl (s : State) : ShowKept s s := {}

theorem ShowKept.trans {a b c : State} (h : ShowKept a b) (k : ShowKept b c) : ShowKept a c :=
  ⟨h.toPortKept.trans k.toPortKept, k.memory.trans h.memory⟩

theorem ShowKept.foldl {α : Type} {f : State → α → State} (h : ∀ s a, ShowKept s (f s a)) (l : List α) (s : State) :
    ShowKept s (l.foldl f s) :=
  foldl_frame ShowKept f .refl (fun _ _ _ => .trans) h l s

/-! ## Operations that leave the fetch unit -/

theorem portSound_of_fetch {s t : State} (h : t.fetch = s.fetch) : s.PortSound → t.PortSound := fun hs => by
  unfold State.PortSound
  rw [h]
  exact hs

theorem PeersAndTally.showKept {s t : State} (h : PeersAndTally s t) : ShowKept s t :=
  { pending := h.pending, serial := h.serial, port := portSound_of_fetch h.fetch, memory := h.showMemory }

theorem TimerAndLink.showKept {s t : State} (h : TimerAndLink s t) : ShowKept s t :=
  { pending := h.pending, serial := h.serial, port := portSound_of_fetch h.fetch, memory := h.showMemory }

theorem advanceTo_showKept (s : State) (now : Stamp) : ShowKept s (s.advanceTo now) := by
  obtain ⟨t, h⟩ := advanceTo_eq s now
  rw [h]
  exact {}

theorem hearPeer_showKept (s : State) (o : Station) (f : Option SyncFields) : ShowKept s (s.hearPeer o f) := by
  unfold State.hearPeer
  split <;> exact {}

theorem hearStatusRole_showKept (s : State) (o : Station) (r : Role) : ShowKept s (s.hearStatusRole o r) := by
  unfold State.hearStatusRole
  split <;> exact {}

theorem takeQuery_showKept (s : State) (own : Option Station) (o : Station) (q : QueryFields) :
    ShowKept s (s.takeQuery own o q) := by
  unfold State.takeQuery
  dsimp only
  repeat' split
  all_goals exact {}

theorem takePacket_showKept (s : State) (p : RowPacket) : ShowKept s (s.takePacket p) := by
  unfold State.takePacket
  repeat' split
  all_goals exact {}

/-- R44: work on the aged entries keeps what the work keeps. -/
theorem onAged_showKept {s : State} {work : State → State} (h : ∀ t, ShowKept t (work t)) :
    ShowKept s (s.onAged work) := by
  unfold State.onAged
  split
  · exact h s
  · exact .trans (agePeers_frame ..).showKept (.trans (h _) {})

/-- R83: flip and scan work on the back buffer and the wall buffers. -/
theorem wallEdge_showKept (s : State) (c : Config) : ShowKept s (s.wallEdge c) := by
  have h := wallEdge_frame s c s.ingest s.wall
  exact
    { pending := by simpa using congrArg State.pending h
      serial := by simpa using congrArg State.serial h
      port := portSound_of_fetch (by simpa using congrArg State.fetch h)
      memory := by simpa using congrArg State.showMemory h }

theorem reportEdge_showKept (s : State) (c : Config) (own : Option Station) : ShowKept s (s.reportEdge c own) := by
  unfold State.reportEdge
  split <;> exact {}

/-! ## Lanes and fetch unit -/

theorem LanesAndFetch.showKept {s t : State} (h : LanesAndFetch s t) (hp : s.PortSound → t.PortSound) : ShowKept s t :=
  { pending := h.pending, serial := h.serial, port := hp, memory := h.showMemory }

theorem setLane_showKept (s : State) (i : Fin 4) (l : Lane) : ShowKept s (s.setLane i l) := {}

theorem setNodeCounts_showKept (s : State) (c : NodeCounts) : ShowKept s (s.setNodeCounts c) := {}

theorem withdrawRequest_showKept (s : State) (i : Fin 4) : ShowKept s (s.withdrawRequest i) :=
  (LanesAndFetch.ofFetch (withdrawRequest_frame s i)).showKept fun h => (withdrawRequest_sound h i).1

theorem makePending_showKept (s : State) (i : Fin 4) (cue : BitVec 16) (e : FrameNo) (o : Origin) (k : GoKind) :
    ShowKept s (s.makePending i cue e o k) := by
  refine (makePending_frame ..).showKept fun h => ?_
  unfold State.makePending
  split
  · exact h
  · exact handRequest_sound (s := s.setLane i _) h ..

theorem contestGo_showKept (s : State) (i : Fin 4) (cue : BitVec 16) (e : FrameNo) (o : Origin) (k : GoKind) :
    ShowKept s (s.contestGo i cue e o k) := by
  unfold State.contestGo
  split
  · exact makePending_showKept ..
  · split
    · exact .trans (withdrawRequest_showKept s i) (.trans (setLane_showKept ..) (makePending_showKept ..))
    · exact setLane_showKept ..

theorem laneTakes_showKept (s : State) (i : Fin 4) (m : CueMessage) (o : Origin) : ShowKept s (s.laneTakes i m o) := by
  unfold State.laneTakes State.laneGo
  split
  · repeat' split
    · exact contestGo_showKept ..
    · exact setNodeCounts_showKept ..
    · exact contestGo_showKept ..
  · exact setLane_showKept ..
  · exact setLane_showKept ..

theorem deliverCue_showKept (s : State) (m : CueMessage) (o : Origin) : ShowKept s (s.deliverCue m o) := by
  unfold State.deliverCue
  repeat' split
  · exact .refl s
  · exact .refl s
  · exact setNodeCounts_showKept ..
  · exact setNodeCounts_showKept ..
  · exact .foldl (fun s i => laneTakes_showKept s i m o) _ s

theorem handOutcome_showKept (s : State) (r : FetchRequest) (o : FetchOutcome) : ShowKept s (s.handOutcome r o) := by
  unfold State.handOutcome
  split <;> exact setLane_showKept ..

theorem countOutcome_queue (u : Fetch) (r : FetchRequest) (o : FetchOutcome) : (u.countOutcome r o).queue = u.queue := by
  cases o <;> rfl

theorem handOutcome_fetch (s : State) (r : FetchRequest) (o : FetchOutcome) : (s.handOutcome r o).fetch = s.fetch := by
  cases o <;> rfl

/-- R104: the lanes of the queue are among those with a request. -/
theorem queue_nodup {u : Fetch} (h : u.Sound) : (u.queue.map fun r => r.lane).Nodup := by
  obtain ⟨_, _, hd⟩ := h
  exact hd.sublist (List.sublist_append_right ..)

theorem completeFetch_showKept (s : State) : ShowKept s s.completeFetch := by
  refine (completeFetch_frame s).showKept fun h => ?_
  unfold State.completeFetch
  split
  · exact h
  · apply choosePort_sound
    rw [handOutcome_fetch, setFetch_fetch, countOutcome_queue]
    exact queue_nodup h

theorem timeOut_showKept (s : State) (r : FetchRequest) : ShowKept s (s.timeOut r) :=
  (timeOut_frame s r).showKept fun ⟨hg, hp, hd⟩ =>
    ⟨hg, hp, hd.sublist (List.Sublist.append_left (lanes_filter_sublist ..) _)⟩

/-- R106: the wait counts rise, and requests time out. -/
theorem fetchEdge_showKept (s : State) (c : Config) : ShowKept s (s.fetchEdge c) := by
  refine .trans ?_ (.foldl timeOut_showKept _ _)
  refine { port := fun ⟨hg, hp, hd⟩ => ⟨hg, hp, ?_⟩ }
  rw [setFetch_fetch, List.map_map]
  exact hd

theorem scheduleFollow_showKept (s : State) (i : Fin 4) (c : CurrentCue) : ShowKept s (s.scheduleFollow i c) := by
  unfold State.scheduleFollow
  repeat' split
  · exact .refl s
  · exact setNodeCounts_showKept ..
  · exact setNodeCounts_showKept ..
  · exact contestGo_showKept ..

theorem dropOldPending_showKept (s : State) (i : Fin 4) (f : FrameNo) : ShowKept s (s.dropOldPending i f) := by
  unfold State.dropOldPending
  repeat' split
  · exact .refl s
  · exact .trans (withdrawRequest_showKept s i) (setLane_showKept ..)
  · exact .refl s

theorem startOrStep_showKept (s : State) (i : Fin 4) (f : FrameNo) (merged : Vector Nat 36) (zones : Vector Rgb 8) :
    ShowKept s (s.startOrStep i f merged zones) := by
  unfold State.startOrStep State.startCue
  dsimp only
  split
  · refine .trans ?_ (scheduleFollow_showKept ..)
    exact {}
  · exact setLane_showKept ..

theorem laneEdge_showKept (s : State) (c : Config) (f : FrameNo) (merged : Vector Nat 36) (zones : Vector Rgb 8)
    (i : Fin 4) : ShowKept s (s.laneEdge c f merged zones i) :=
  .trans (startOrStep_showKept s i f merged zones) (setLane_showKept ..)

theorem lanesEdge_showKept (s : State) (c : Config) : ShowKept s (s.lanesEdge c) := by
  have published (t : State) (e : LaneEngine) : ShowKept t (t.setLanes e) := {}
  unfold State.lanesEdge
  dsimp only
  refine .trans ?_ (published _ _)
  exact .trans (.foldl (fun t i => dropOldPending_showKept t i _) _ _)
    (.foldl (fun t i => laneEdge_showKept t c _ _ _ i) _ _)

/-! ## Link controller and number unit: the trigger queue emptied into the lanes (R20) -/

theorem setLink_showKept (s : State) (x : Link) : ShowKept s (s.setLink x) := {}

theorem applyUnsent_showKept (s : State) (m : CueMessage) : ShowKept s (s.applyUnsent m) :=
  .trans (setLink_showKept s _) (deliverCue_showKept ..)

theorem flushTriggers_showKept (s : State) : ShowKept s s.flushTriggers :=
  .trans (setLink_showKept s _) (.foldl applyUnsent_showKept _ _)

theorem attemptFailed_showKept (s : State) : ShowKept s s.attemptFailed := by
  have failed (t : State) (fate : TriggerFate) : ShowKept t (t.triggerFailed fate) := by
    unfold State.triggerFailed
    dsimp only
    split
    · exact .refl t
    · exact .refl t
    · exact setLink_showKept ..
    · exact .trans (setLink_showKept t _) (applyUnsent_showKept ..)
  unfold State.attemptFailed
  dsimp only
  repeat' split
  · exact .refl s
  · exact .trans (setLink_showKept s _) (failed ..)
  · exact setLink_showKept ..

theorem countFault_showKept (s : State) (tx : Bool) (k : LinkFaultKind) : ShowKept s (s.countFault tx k) := by
  unfold State.countFault
  dsimp only
  repeat' split
  · exact .refl s
  · exact .refl s
  · exact .trans (b := s.setLink { s.link with tecCount := raiseTec s.link.tecCount }) {}
      (.trans (setLink_showKept ..) (flushTriggers_showKept _))
  · exact {}
  · exact setLink_showKept ..

theorem chooseCandidate_showKept (s : State) : ShowKept s s.chooseCandidate := by
  unfold State.chooseCandidate
  split <;> exact {}

theorem endClaim_showKept (s : State) (c : Station) : ShowKept s (s.endClaim c) :=
  .trans {} (chooseCandidate_showKept _)

theorem yieldNumber_showKept (s : State) (n : Station) : ShowKept s (s.yieldNumber n) :=
  .trans {} (.trans (chooseCandidate_showKept _) (flushTriggers_showKept _))

theorem hearOrigin_showKept (s : State) (o : Station) (isClaim : Bool) : ShowKept s (s.hearOrigin o isClaim) := by
  unfold State.hearOrigin
  repeat' split
  · exact {}
  · exact .refl s
  · exact yieldNumber_showKept ..
  · exact .refl s
  · exact endClaim_showKept ..
  · exact .refl s
  · exact .refl s

theorem hearClaim_showKept (s : State) (o : Station) (x : BitVec 32) : ShowKept s (s.hearClaim o x) := by
  have defended (n : Station) : ShowKept s (s.defend n) := by
    unfold State.defend
    dsimp only
    split <;> exact {}
  unfold State.hearClaim
  repeat' split
  · exact endClaim_showKept ..
  · exact .refl s
  · exact yieldNumber_showKept ..
  · exact defended _
  · exact .refl s
  · exact .refl s
  · exact .refl s

theorem claimLost_showKept (s : State) (n : Station) : ShowKept s (s.claimLost n) := by
  unfold State.claimLost
  repeat' split
  · exact endClaim_showKept ..
  · exact .refl s
  · exact yieldNumber_showKept ..
  · exact .refl s
  · exact .refl s

theorem numberEdge_showKept (s : State) : ShowKept s s.numberEdge := by
  unfold State.numberEdge
  split
  · exact {}
  · cases s.number.numbering with
    | stopped => exact {}
    | fixed n =>
      dsimp only
      repeat' split
      all_goals exact {}
    | listen k =>
      dsimp only
      split
      · exact chooseCandidate_showKept s
      · exact {}
    | claiming c window =>
      dsimp only
      repeat' split
      all_goals exact {}
    | holding n => exact {}
    | numberless =>
      dsimp only
      split <;> exact {}

theorem startNumber_showKept (s : State) (c : Config) : ShowKept s (s.startNumber c) := by
  unfold State.startNumber
  dsimp only
  repeat' split
  all_goals exact {}

/-! ## Trigger pins -/

/-- R171: a local delivery at an edge is one with the frame timer put aside, which the fetch unit does not hold. -/
theorem applyUnsentAt_showKept (s : State) (f : FrameNo) (m : CueMessage) : ShowKept s (s.applyUnsentAt f m) := by
  have aside : (s.atFrame f).fetch = s.fetch := by
    simpa using congrArg State.fetch (atFrame_setTimer s f)
  have h := applyUnsentAt_frame s f m
  exact
    { pending := h.pending
      serial := h.serial
      port := fun hs => (applyUnsent_showKept (s.atFrame f) m).port (portSound_of_fetch aside hs)
      memory := h.showMemory }

theorem formTrigger_showKept (s : State) (f : FrameNo) (m : CueMessage) : ShowKept s (s.formTrigger f m) := by
  unfold State.formTrigger
  dsimp only
  split
  · exact {}
  · exact .trans {} (applyUnsentAt_showKept ..)

theorem pinActs_showKept (s : State) (pin : PinConfig) (level : Bool) (f : FrameNo) :
    ShowKept s (s.pinActs pin level f) := by
  unfold State.pinActs State.goNextPin State.tallyPin
  dsimp only
  repeat' split
  · exact {}
  · exact formTrigger_showKept ..
  · exact {}
  · exact formTrigger_showKept ..
  · exact formTrigger_showKept ..
  · exact {}
  · exact {}

theorem samplePin_showKept (s : State) (c : Config) (i : Fin 8) (level : Bool) (f : FrameNo) :
    ShowKept s (s.samplePin c i level f) := by
  unfold State.samplePin State.qualify
  dsimp only
  repeat' split
  · exact {}
  · exact {}
  · exact .trans {} (pinActs_showKept ..)
  · exact {}

theorem samplePins_showKept (s : State) (c : Config) (pins : BitVec 8) (f : FrameNo) (upTo : Nat) :
    ShowKept s (s.samplePins c pins f upTo) :=
  .foldl (fun t i => samplePin_showKept t c i _ f) _ s

/-! ## Delivery -/

theorem firstStep_showKept (s : State) (m : LinkMessage) (sync : Option SyncFields) (isClaim : Bool) :
    ShowKept s (s.firstStep m sync isClaim) :=
  .trans (advanceTo_showKept ..)
    (.trans (setLink_showKept ..) (.trans (hearPeer_showKept ..) (hearOrigin_showKept ..)))

theorem receive_showKept (s : State) (k : MessageKind) (m : LinkMessage) {consumer : State → Option Station → State}
    (h : ∀ t own, ShowKept t (consumer t own)) : ShowKept s (s.receive k m consumer) := by
  unfold State.receive
  dsimp only
  split
  · split
    · exact .trans (firstStep_showKept ..) (h ..)
    · exact .trans (firstStep_showKept s m _ _) (setLink_showKept ..)
  · exact .refl s

theorem selfReceive_showKept (s : State) (a : Attempt) (head : Option CueMessage) :
    ShowKept s (s.selfReceive a head) := by
  have claimed (n : Station) : ShowKept s (s.ownClaimSent n) := by
    unfold State.ownClaimSent
    repeat' split
    all_goals exact {}
  unfold State.selfReceive
  repeat' split
  · exact (ownSyncSent_frame ..).showKept
  · exact claimed _
  · exact {}
  · exact {}
  · exact {}
  · exact deliverCue_showKept ..
  · exact {}

/-! ## The edge and the start -/

theorem blocksEdge_showKept (s : State) (c : Config) (pins : BitVec 8) (first : Bool) :
    ShowKept s (s.blocksEdge c pins first) := by
  have numbered (t : State) : ShowKept t (if first = true then t else t.numberEdge) := by
    split
    · exact .refl t
    · exact numberEdge_showKept t
  have flushed (t : State) (x : Ingest) : ShowKept t (t.setIngest x) := {}
  have driven (t : State) (x : OutputStage) : ShowKept t (t.setOutput x) := {}
  have limited (t : State) (x : Budget) : ShowKept t (t.setBudget x) := {}
  unfold State.blocksEdge
  dsimp only
  refine .trans ?_ (reportEdge_showKept _ c _)
  refine .trans ?_ (samplePins_showKept _ c pins _ 8)
  refine .trans ?_ (limited _ _)
  refine .trans ?_ (driven _ _)
  refine .trans ?_ (lanesEdge_showKept _ c)
  refine .trans ?_ (fetchEdge_showKept _ c)
  refine .trans ?_ (wallEdge_showKept _ c)
  refine .trans ?_ (flushed _ _)
  exact .trans (setLink_showKept s _) (numbered _)

theorem setAhead_showKept (s : State) (x : Ahead) : ShowKept s (s.setAhead x) := {}

theorem edge_showKept (s : State) (c : Config) (pins : BitVec 8) : ShowKept s (s.edge c pins) := by
  have handed (t : State) : ShowKept t (if t.isRunning = true then t.blocksEdge c pins false else t) := by
    split
    · exact blocksEdge_showKept ..
    · exact .refl t
  unfold State.edge
  dsimp only
  refine .trans ?_ (setAhead_showKept _ _)
  exact .trans (agePeers_frame s c).showKept (.trans (timerEdge_frame _).showKept (handed _))

/-- R184: a block that passes starts the other blocks; the fetch unit goes on, and takes the first edge. -/
theorem pass_showKept (s : State) (c : Config) (now : Stamp) (pins : BitVec 8) : ShowKept s (s.pass c now pins) := by
  have emptied : ShowKept s s.peersAtPass := by
    unfold State.peersAtPass
    split <;> exact {}
  have begun (t : State) : ShowKept t ((t.setStartup (t.startup.pass c)).startBlocks c) := {}
  have continued (t : State) (r : TimerRun) : ShowKept t (t.continueTimer r c) := by
    unfold State.continueTimer
    split <;> exact {}
  have started (t : State) : ShowKept t (t.startTimer c now pins) := by
    have fresh (x : FrameTimer) : ShowKept t (t.setTimer x) := {}
    exact .trans (fresh _) (.trans (blocksEdge_showKept _ c pins true) (setAhead_showKept ..))
  unfold State.pass
  dsimp only
  refine .trans (emptied.trans ((begun _).trans (startNumber_showKept _ c))) ?_
  split
  · exact continued ..
  · exact started _

/-! ## The port at a reset, a restart and the end of a read -/

/-- R180, R113: in RESET the grant follows the request line, and nothing else holds the port. -/
theorem toReset_showKept (s : State) (pin supply : Bool) : ShowKept s (s.toReset pin supply) := by
  refine { port := fun _ => ⟨?_, ?_, List.nodup_nil⟩ }
  · cases h : s.fetch.loaderRequest <;> simp [State.toReset, State.inReset, h]
  · cases h : s.fetch.loaderRequest <;> simp [State.toReset, State.inReset, h]

/-- R181: the read takes a free port only. -/
theorem askRead_showKept (s : State) : ShowKept s s.askRead := by
  unfold State.askRead
  dsimp only
  split
  · rename_i free
    refine { port := fun ⟨hg, hp, hd⟩ => ?_ }
    have ungranted : s.fetch.grant ≠ true := fun h => by simp [hg.mp h] at free
    have idle : s.fetch.flight.isSome ≠ true := fun h => by simp [hp.mp h] at free
    exact ⟨by simpa using ungranted, by simpa using idle, hd⟩
  · exact {}

/-- R113: at the release of a cold reset no fetch is left, and the loader has the port if it asks for it. -/
theorem atRelease_sound (u : Fetch) : u.atRelease.Sound := by
  unfold Fetch.atRelease
  split <;> exact ⟨by simp, by simp, List.nodup_nil⟩

/-- R113: at a restart no fetch is left, and a grant stands on. -/
theorem atRestart_sound (u : Fetch) : u.atRestart.Sound := by
  refine ⟨?_, ?_, List.nodup_nil⟩ <;> cases h : u.grant <;> simp [Fetch.atRestart, h]

theorem takeRestart_showKept (s : State) (own : Option Station) (target : Nat) :
    ShowKept s (s.takeRestart own target) := by
  have restarted : ShowKept s s.warmRestart := by
    refine .trans ?_ (askRead_showKept _)
    exact { port := fun _ => atRestart_sound s.fetch }
  unfold State.takeRestart
  repeat' split
  · exact {}
  · exact restarted
  · exact {}
  · exact {}

/-- R181: the port the read frees is given anew. -/
theorem endRead_showKept (s : State) : ShowKept s s.endRead := by
  have h := choosePort_frame ((s.setStartup { s.startup with readAsked := false }).setFetch
    { s.fetch with port := .none })
  exact
    { pending := (LanesAndFetch.ofFetch h).pending
      serial := (LanesAndFetch.ofFetch h).serial
      port := fun hs => choosePort_sound (queue_nodup (u := s.fetch) hs)
      memory := (LanesAndFetch.ofFetch h).showMemory }

/-! ## The loader -/

theorem choosePort_showKept (s : State) : ShowKept s s.choosePort :=
  (LanesAndFetch.ofFetch (choosePort_frame s)).showKept fun h => choosePort_sound (queue_nodup h)

/-- R109, R113: a request gives the loader a free port, and in RESET any. -/
theorem raiseRequest_showKept (s : State) : ShowKept s s.raiseRequest := by
  have risen : ShowKept s (s.setFetch { s.fetch with loaderRequest := true }) := {}
  unfold State.raiseRequest
  dsimp only
  repeat' split
  · exact { port := fun h => ⟨by simp, by simp, queue_nodup (u := s.fetch) h⟩ }
  · exact risen.trans (choosePort_showKept _)
  · exact risen

/-- R110: with the end of a grant the port is free, and nothing flew while the loader had it. -/
theorem endGrant_portKept {s : State} (h : s.fetch.grant = true) (writes : List (Nat × Byte)) :
    PortKept s (s.endGrant writes) := by
  have freed (hs : s.PortSound) : Fetch.Sound { s.fetch with grant := false, port := .none } := by
    obtain ⟨hg, hp, hd⟩ := hs
    exact ⟨by simp, by simpa [hg.mp h] using hp, hd⟩
  unfold State.endGrant
  dsimp only
  split <;> exact { port := freed }

theorem execLoaderRelease_portKept (drop : LoaderDrop) (s : State) :
    ∃ t, execLoaderRelease drop s = .next t ∧ PortKept s t := by
  have chosen (t : State) (b : Bool) : ShowKept t
      (if drop.risesAgain = true then t.raiseRequest else if b && decide (t.startup.phase ≠ .reset) then t.choosePort
       else t) := by
    repeat' split
    · exact raiseRequest_showKept t
    · exact choosePort_showKept t
    · exact {}
  have dropped : PortKept s (s.setFetch { s.fetch with loaderRequest := false }) := {}
  refine ⟨_, rfl, .trans (dropped.trans ?_) (chosen _ s.fetch.grant).toPortKept⟩
  split
  · exact endGrant_portKept (by assumption) _
  · exact {}

/-! ## The commands -/

theorem execResetRelease_showKept (by_ : ResetReleaser) (s : State) :
    ∃ t, execResetRelease by_ s = .next t ∧ ShowKept s t := by
  have left (t : State) : ShowKept t t.leaveReset := by
    refine .trans ?_ (askRead_showKept _)
    exact { port := fun _ => atRelease_sound t.fetch }
  refine ⟨_, rfl, ?_⟩
  dsimp only
  repeat' split
  · exact {}
  · exact .trans (b := s.setStartup (s.startup.letGo by_)) {} (left _)
  · exact {}

theorem execConfigReadEnd_showKept (now : Stamp) (pins : BitVec 8) (s : State) :
    ∃ t, execConfigReadEnd now pins s = .next t ∧ ShowKept s t := by
  have failed (t : State) (e : LoadFault) : ShowKept t (t.fail e) := {}
  refine ⟨_, rfl, ?_⟩
  dsimp only
  split
  · refine (advanceTo_showKept s now).trans ?_
    split
    · exact (endRead_showKept _).trans (pass_showKept ..)
    · exact (endRead_showKept _).trans (failed ..)
  · exact {}

theorem execLinkFault_showKept (k : LinkFaultKind) (phase : SignalPhase) (s : State) :
    ∃ t, execLinkFault k phase s = .next t ∧ ShowKept s t := by
  refine ⟨_, rfl, ?_⟩
  split
  · exact .trans (b := s.setLink { s.link with lastFault := FaultCode.ofKind k }) {} <|
      .trans (attemptFailed_showKept _) <| .trans (countFault_showKept ..) {}
  · exact {}

theorem execReferencePulse_showKept (now : Stamp) (s : State) :
    ∃ t, execReferencePulse now s = .next t ∧ ShowKept s t := by
  refine ⟨_, rfl, .trans (advanceTo_showKept s now) ?_⟩
  generalize s.advanceTo now = t
  split
  · exact {}
  · dsimp only
    repeat' split
    all_goals exact {}

theorem execPeerAgeOut_showKept (n : Station) (s : State) : ∃ t, execPeerAgeOut n s = .next t ∧ ShowKept s t := by
  have lost (t : State) : ShowKept t (t.loseLeader n) := by
    unfold State.loseLeader
    repeat' split
    · exact {}
    · exact .trans (lockEdge_frame ..).showKept (.trans (onAged_timer _ _ roleEdge_frame).showKept {})
    · exact {}
    · exact {}
  have retried (t : State) : ShowKept t (t.retryNumber n) := by
    unfold State.retryNumber
    split <;> exact {}
  refine ⟨_, rfl, ?_⟩
  split
  · exact .trans (ageOut_frame s n).showKept (.trans (lost _) (retried _))
  · exact {}

/-- R98: every command but the release of the loader keeps the queue, the serial, show memory and a sound fetch unit. -/
theorem exec_showKept (c : Instr) (hc : ∀ w, c ≠ .loaderRelease w) (s : State) :
    ∃ t, exec c s = .next t ∧ ShowKept s t := by
  cases c with
  | coldReset by_ => cases by_ <;> exact ⟨_, rfl, toReset_showKept ..⟩
  | resetRelease by_ => exact execResetRelease_showKept by_ s
  | configReadEnd now pins => exact execConfigReadEnd_showKept now pins s
  | linkJoin =>
    refine ⟨_, rfl, ?_⟩
    split <;> exact {}
  | attemptStart now =>
    refine ⟨_, rfl, .trans (advanceTo_showKept s now) ?_⟩
    split <;> exact {}
  | arbitrationLoss => exact ⟨_, rfl, attemptFailed_showKept s⟩
  | claimLoss =>
    refine ⟨_, rfl, ?_⟩
    repeat' split
    · exact .trans (attemptFailed_showKept s) (claimLost_showKept ..)
    · exact {}
    · exact {}
  | linkFault kind phase => exact execLinkFault_showKept kind phase s
  | detachedRecovery levels =>
    refine ⟨_, rfl, ?_⟩
    dsimp only
    repeat' split
    all_goals exact {}
  | messageSent =>
    refine ⟨_, rfl, ?_⟩
    split
    · exact {}
    · exact .trans (setLink_showKept ..) (selfReceive_showKept ..)
  | syncReceived m => exact ⟨_, rfl, receive_showKept s _ m fun _ _ => (takeSync_frame ..).showKept⟩
  | claimReceived m => exact ⟨_, rfl, receive_showKept s _ m fun _ _ => hearClaim_showKept ..⟩
  | goReceived m => exact ⟨_, rfl, receive_showKept s _ m fun _ _ => deliverCue_showKept ..⟩
  | holdReceived m => exact ⟨_, rfl, receive_showKept s _ m fun _ _ => deliverCue_showKept ..⟩
  | releaseReceived m => exact ⟨_, rfl, receive_showKept s _ m fun _ _ => deliverCue_showKept ..⟩
  | tallyReceived m => exact ⟨_, rfl, receive_showKept s _ m fun _ _ => {}⟩
  | queryReceived m => exact ⟨_, rfl, receive_showKept s _ m fun _ _ => takeQuery_showKept ..⟩
  | answerReceived m => exact ⟨_, rfl, receive_showKept s _ m fun _ _ => {}⟩
  | statusReceived m =>
    refine ⟨_, rfl, receive_showKept s _ m fun t _ => ?_⟩
    split
    · exact {}
    · exact hearStatusRole_showKept ..
  | unknownMessageReceived cls kind m =>
    refine ⟨_, rfl, ?_⟩
    split
    · exact firstStep_showKept ..
    · exact {}
  | restartReceived m => exact ⟨_, rfl, receive_showKept s _ m fun _ _ => takeRestart_showKept ..⟩
  | frameEdge pins =>
    refine ⟨_, rfl, ?_⟩
    split
    · exact edge_showKept ..
    · exact {}
  | staleBeacon =>
    refine ⟨_, rfl, ?_⟩
    split <;> exact {}
  | triggerExpired =>
    refine ⟨_, rfl, ?_⟩
    split <;> exact {}
  | startEnd =>
    refine ⟨_, rfl, ?_⟩
    repeat' split
    · exact {}
    · exact .trans (onAged_timer s _ fun t => endStart_frame t _).showKept {}
    · exact {}
    · exact {}
  | lockQuietLoss =>
    refine ⟨_, rfl, ?_⟩
    repeat' split
    all_goals exact {}
  | candidateChoice =>
    refine ⟨_, rfl, ?_⟩
    repeat' split
    · exact .trans (onAged_showKept chooseCandidate_showKept) (setAhead_showKept ..)
    · exact {}
    · exact {}
  | claimWindowEnd =>
    refine ⟨_, rfl, ?_⟩
    repeat' split
    all_goals exact {}
  | duplicateClear =>
    refine ⟨_, rfl, ?_⟩
    split <;> exact {}
  | peerAgeOut n => exact execPeerAgeOut_showKept n s
  | wallHeld =>
    refine ⟨_, rfl, ?_⟩
    repeat' split
    all_goals exact {}
  | limitStepUp =>
    refine ⟨_, rfl, ?_⟩
    repeat' split
    all_goals exact {}
  | triggerQualified e =>
    refine ⟨_, rfl, ?_⟩
    repeat' split
    · exact .trans (samplePins_showKept ..) (setAhead_showKept ..)
    · exact {}
    · exact {}
  | referencePulse now => exact execReferencePulse_showKept now s
  | referenceTimeout =>
    refine ⟨_, rfl, ?_⟩
    split
    · exact {}
    · split
      · exact {}
      · exact .trans (advanceTo_showKept ..) {}
  | rowArrival levels =>
    exact ⟨_, rfl, .trans (b := s.setPixelPort (s.pixelPort.run levels).1) {} (.foldl takePacket_showKept _ _)⟩
  | rowCommit =>
    refine ⟨_, rfl, ?_⟩
    split <;> exact {}
  | railSample tile fixture ahead =>
    refine ⟨_, rfl, ?_⟩
    split <;> exact {}
  | fetchComplete => exact ⟨_, rfl, completeFetch_showKept s⟩
  | fetchTimeout lane =>
    refine ⟨_, rfl, ?_⟩
    split
    · exact timeOut_showKept ..
    · exact {}
  | loaderRequest => exact ⟨_, rfl, raiseRequest_showKept s⟩
  | loaderRelease drop => exact absurd rfl (hc drop)

/-- Every command keeps the queue, the serial and a sound fetch unit. -/
theorem exec_portKept (c : Instr) (s : State) : ∃ t, exec c s = .next t ∧ PortKept s t := by
  by_cases hc : ∃ w, c = .loaderRelease w
  · obtain ⟨w, rfl⟩ := hc
    exact execLoaderRelease_portKept w s
  · obtain ⟨t, ht, h⟩ := exec_showKept c (fun w hw => hc ⟨w, hw⟩) s
    exact ⟨t, ht, h.toPortKept⟩

/-- Settles O58: a tick leaves the fetch unit, and every command keeps it sound. -/
theorem portHasOneUser : Obligations.PortHasOneUser := by
  intro s t hs h
  unfold step at h
  split at h
  · cases h
    unfold State.idle
    split <;> exact hs
  · rename_i c rest _
    obtain ⟨u, hu, hk⟩ := exec_portKept c (s.setPending rest)
    rw [hu] at h
    cases h
    exact hk.port hs

/-- Settles O3: queue and serial by what every command keeps, show memory by what every command but one keeps. -/
theorem queueSerialAndMemoryKept : Obligations.QueueSerialAndMemoryKept := by
  intro c s t h
  obtain ⟨u, hu, hk⟩ := exec_portKept c s
  cases hu.symm.trans h
  refine ⟨hk.pending, hk.serial, fun hc => ?_⟩
  obtain ⟨v, hv, kept⟩ := exec_showKept c hc s
  cases hv.symm.trans h
  exact kept.memory

end Sys2Proof.Machine

end

section
/-! SUPPORT. A completed fetch and the port after it (R103, R105, R119), and the loader: its request, its grant and the bytes
it leaves (R109, R110, R113, R186). -/

namespace Sys2Proof.Machine

set_option Elab.async false

open Sys2Proof

/-! ## A completed fetch -/

/-- R119: a record for the GO that asked for it. -/
theorem takeRecord_of_asked {l : Lane} {p : PendingGo} (hp : l.pending = some p) (ha : p.fetch = .asked) (f : FrameNo)
    (record : CueRecord) :
    l.takeRecord f p.cue p.execute record =
      { l with
        pending := some { p with fetch := if later p.execute f then .ready record else .waitEdge record } } := by
  unfold Lane.takeRecord
  rw [hp]
  exact if_pos ⟨rfl, rfl, ha⟩

/-- R103: the state once a record is handed to its lane, before the port is given anew. -/
def State.recordHanded (s : State) (i : Fin 4) (l : Lane) : State :=
  (s.setFetch
    { s.fetch with
      flight := none
      port := .none
      counters := { s.fetch.counters with done := raise16 s.fetch.counters.done } }).setLane i l

theorem exec_fetchComplete_of_done {s : State} {fl : Flight} {p : PendingGo} {record : CueRecord}
    (hf : s.fetch.flight = some fl)
    (ho : fetchOutcome s.showMemory fl.request.playback fl.request.cue = .done record)
    (hp : (s.lane fl.request.lane).pending = some p) (ha : p.fetch = .asked) (hc : p.cue = fl.request.cue)
    (he : p.execute = fl.request.execute) :
    exec .fetchComplete s =
      .next (s.recordHanded fl.request.lane
        { s.lane fl.request.lane with
          pending :=
            some { p with fetch := if later p.execute s.frame then .ready record else .waitEdge record } }).choosePort := by
  refine congrArg Host.Outcome.next ?_
  unfold State.completeFetch
  rw [hf]
  dsimp only
  rw [ho, ← takeRecord_of_asked hp ha, hc, he]
  rfl

/-- Settles O44: the record handed, the port goes by the order of claims. -/
theorem recordFetchedAndPortGiven : Obligations.RecordFetchedAndPortGiven := by
  intro s fl p record hf ho i hp ha hc he fetched
  have frame := (choosePort_frame (s.recordHanded i fetched)).same (s.recordHanded i fetched).choosePort.fetch
  have outcomes := choosePort_outcomes (s.recordHanded i fetched)
  refine ⟨_, exec_fetchComplete_of_done hf ho hp ha hc he, ?_, outcomes.1, outcomes.2, fun hl => ?_, fun hl hr => ?_,
    fun hl hr => ⟨fun hq => ?_, fun hq => ?_⟩⟩
  · rwa [setFetch_same] at frame
  · rw [choosePort_of_loader (by exact hl)]
    exact ⟨rfl, rfl, rfl, rfl, rfl⟩
  · rw [choosePort_of_read (by exact hl) (by exact hr)]
    exact ⟨rfl, rfl, rfl⟩
  · rw [choosePort_of_nobody (by exact hl) (by exact hr) (by exact hq)]
    exact ⟨rfl, rfl⟩
  · obtain ⟨x, hx⟩ := Option.ne_none_iff_exists'.mp (mt (firstRequest_eq_none (f := s.frame)).mp hq)
    rw [choosePort_of_first (by exact hl) (by exact hr) (by exact hx)]
    exact ⟨x, firstRequest_mem hx, rfl, rfl, rfl, firstRequest_first hx⟩

/-! ## The bytes a loader leaves -/

theorem readShow_writeShow_other {cells : List Host.Cell} (h : Memory.wf cells = true) {writes : List (Nat × Byte)} {a : Nat}
    (ha : ∀ w ∈ writes, w.1 % 1048576 ≠ a % 1048576) : readShow (writeShow cells writes) a = readShow cells a := by
  induction writes generalizing cells with
  | nil => rfl
  | cons w rest ih =>
    obtain ⟨hw, hrest⟩ := List.forall_mem_cons.mp ha
    calc readShow (writeShow cells (w :: rest)) a
        = readShow (writeCell Memory.unlisted cells (w.1 % 1048576) w.2) a := ih (canonical_write _ _ _ _ h) hrest
      _ = readShow cells a := readCell_write_other _ _ _ _ hw.symm 0 cells h

/-- R110: of several bytes left at one address the last stands. -/
theorem readShow_writeShow_last {cells : List Host.Cell} (h : Memory.wf cells = true) (w y : List (Nat × Byte))
    {x : Nat × Byte} (hy : ∀ z ∈ y, z.1 % 1048576 ≠ x.1 % 1048576) :
    readShow (writeShow cells (w ++ x :: y)) x.1 = x.2 := by
  have wf : Memory.wf (writeShow cells w) = true := wf_writeShow w cells h
  have split : writeShow cells (w ++ x :: y) =
      writeShow (writeCell Memory.unlisted (writeShow cells w) (x.1 % 1048576) x.2) y := List.foldl_append ..
  rw [split, readShow_writeShow_other (canonical_write _ _ _ _ wf) hy]
  exact readCell_write_same _ _ _ 0 _ wf

/-! ## The loader's request (R109, R113) -/

theorem raiseRequest_of_reset {s : State} (h : s.startup.phase = .reset) :
    s.raiseRequest =
      s.setFetch { s.fetch with loaderRequest := true, port := .loader, grant := true, flight := none } := if_pos h

theorem raiseRequest_of_free {s : State} (h : s.startup.phase ≠ .reset) (hp : s.fetch.port = .none) :
    s.raiseRequest =
      s.setFetch
        { s.fetch with
          loaderRequest := true
          port := .loader
          grant := true
          flight := none
          counters := { s.fetch.counters with grant := raise16 s.fetch.counters.grant } } := by
  unfold State.raiseRequest
  dsimp only
  rw [if_neg (by exact h), if_pos (by exact hp), choosePort_of_loader rfl]
  rfl

theorem raiseRequest_of_busy {s : State} (h : s.startup.phase ≠ .reset) (hp : s.fetch.port ≠ .none) :
    s.raiseRequest = s.setFetch { s.fetch with loaderRequest := true } := by
  unfold State.raiseRequest
  dsimp only
  rw [if_neg (by exact h), if_neg (by exact hp)]

/-! ## The loader's release (R110, R186) -/

theorem exec_loaderRelease_of_ungranted {s : State} (h : s.fetch.grant = false) (writes : List (Nat × Byte))
    (again : Bool) :
    exec (.loaderRelease ⟨writes, again⟩) s =
      .next (if again then (s.setFetch { s.fetch with loaderRequest := false }).raiseRequest
        else s.setFetch { s.fetch with loaderRequest := false }) := by
  refine congrArg Host.Outcome.next ?_
  rw [h]
  rfl

/-- R110, R186: the state once a grant has ended and the request line is low, before the port is given anew. -/
def State.grantEnded (s : State) (writes : List (Nat × Byte)) : State :=
  { s with
    fetch := { s.fetch with loaderRequest := false, grant := false, port := .none }
    showMemory := writeShow s.showMemory writes
    startup := if s.startup.phase = .safe then { s.startup with readAsked := true } else s.startup }

theorem endGrant_of_low (s : State) (writes : List (Nat × Byte)) :
    (s.setFetch { s.fetch with loaderRequest := false }).endGrant writes = s.grantEnded writes := by
  unfold State.grantEnded
  by_cases h : s.startup.phase = .safe
  · rw [if_pos h]
    exact if_pos h
  · rw [if_neg h]
    exact if_neg h

theorem grantEnded_phase (s : State) (writes : List (Nat × Byte)) :
    (s.grantEnded writes).startup.phase = s.startup.phase := by
  unfold State.grantEnded
  dsimp only
  split <;> rfl

theorem exec_loaderRelease_of_granted {s : State} (h : s.fetch.grant = true) (writes : List (Nat × Byte))
    (again : Bool) :
    exec (.loaderRelease ⟨writes, again⟩) s =
      .next (if again then (s.grantEnded writes).raiseRequest
        else if s.startup.phase = .reset then s.grantEnded writes else (s.grantEnded writes).choosePort) := by
  have ended : exec (.loaderRelease ⟨writes, again⟩) s =
      .next (if again then (s.grantEnded writes).raiseRequest
        else if (true && decide ((s.grantEnded writes).startup.phase ≠ .reset)) = true then (s.grantEnded writes).choosePort
          else s.grantEnded writes) := by
    rw [← endGrant_of_low]
    refine congrArg Host.Outcome.next ?_
    rw [h]
    rfl
  simp only [ended, grantEnded_phase, Bool.true_and, decide_eq_true_eq, ne_eq, ite_not]

/-- R110: what the end of a grant leaves of the fetch unit, the request line standing at `again` by the choice of the
port. -/
structure GrantReleased (s : State) (again : Bool) (u : Fetch) : Prop where
  line : u.loaderRequest = again
  grant : u.grant = again
  anew : again = true →
    u =
      { s.fetch with
        loaderRequest := true
        port := .loader
        flight := none
        counters :=
          { s.fetch.counters with
            grant := if s.startup.phase = .reset then s.fetch.counters.grant else raise16 s.fetch.counters.grant } }
  read : s.startup.phase = .safe → again = false → u.port = .configRead

theorem loaderRelease_of_granted {s : State} (h : s.fetch.grant = true) (writes : List (Nat × Byte)) (again : Bool) :
    ∃ u, exec (.loaderRelease ⟨writes, again⟩) s = .next ((s.grantEnded writes).setFetch u) ∧ GrantReleased s again u := by
  rw [exec_loaderRelease_of_granted h]
  cases again with
  | true =>
    rw [if_pos rfl]
    by_cases hp : s.startup.phase = .reset
    · rw [raiseRequest_of_reset ((grantEnded_phase ..).trans hp)]
      exact ⟨_, rfl, rfl, rfl, fun _ => by rw [if_pos hp, ← h]; rfl, nofun⟩
    · rw [raiseRequest_of_free (fun hr => hp ((grantEnded_phase ..).symm.trans hr)) rfl]
      exact ⟨_, rfl, rfl, rfl, fun _ => by rw [if_neg hp, ← h]; rfl, nofun⟩
  | false =>
    rw [if_neg nofun]
    by_cases hp : s.startup.phase = .reset
    · rw [if_pos hp]
      exact ⟨_, rfl, rfl, rfl, nofun, fun hs => by rw [hp] at hs; cases hs⟩
    · rw [if_neg hp]
      have chosen := (choosePort_frame (s.grantEnded writes)).same (s.grantEnded writes).choosePort.fetch
      obtain ⟨granted, line⟩ := choosePort_grant (s.grantEnded writes)
      refine ⟨_, congrArg Host.Outcome.next chosen, line, granted, nofun, fun hs _ => ?_⟩
      rw [choosePort_of_read rfl (by simp [State.grantEnded, hs])]
      rfl

/-- Settles O45: the request by the port and the phase, the release by the grant. -/
theorem loaderGrant : Obligations.LoaderGrant := by
  intro s
  refine ⟨fun hp hn => congrArg Host.Outcome.next (raiseRequest_of_free hp hn),
    fun hp hn => congrArg Host.Outcome.next (raiseRequest_of_busy hp hn),
    fun hp => congrArg Host.Outcome.next (raiseRequest_of_reset hp),
    fun writes again => ⟨fun hg => ⟨fun ha => ?_, fun ha => ?_⟩, fun hg hw => ?_⟩⟩
  · rw [exec_loaderRelease_of_ungranted hg, ha]
    rfl
  · rw [exec_loaderRelease_of_ungranted hg, ha]
    rfl
  · obtain ⟨u, hu, line, grant, anew, read⟩ := loaderRelease_of_granted hg writes again
    refine ⟨_, hu, rfl, line, grant, anew, fun a ha => readShow_writeShow_other hw ha, fun w x y hxy hy => ?_,
      fun hs => ⟨if_pos hs, read hs⟩, fun hs => if_neg hs⟩
    subst hxy
    exact readShow_writeShow_last hw w y hy

end Sys2Proof.Machine

end

section
/-! SUPPORT. A GO delivered to one lane: accepted, refused, superseded, in a contest, and its request (R104, R107, R115 to
R118). -/

namespace Sys2Proof.Machine

set_option Elab.async false

open Sys2Proof

/-! ## The delivery -/

/-- R23, R38: the first step of a message of no concern to the number unit writes the tick counter, the link controller and
the peer table. -/
theorem firstStep_of_indifferent {s : State} {m : LinkMessage} (h : s.Indifferent m.origin) (isClaim : Bool) :
    ∃ t l p, s.firstStep m none isClaim = ((s.setTick t).setLink l).setPeers p := by
  obtain ⟨t, ht⟩ := advanceTo_eq s m.stamp
  have unheard : (s.entered m none).Indifferent m.origin := by
    unfold State.Indifferent
    rwa [entered_number]
  rw [firstStep_of_entered (heldNumber_of_indifferent h), hearOrigin_of_indifferent unheard, State.entered, State.heard, ht]
  exact ⟨_, _, _, rfl⟩

theorem exec_goReceived {s : State} {m : LinkMessage} (hr : s.receives = true) (hl : m.payload.length = 7) :
    exec (.goReceived m) s = .next ((s.firstStep m none false).deliverCue (readGo m.payload) m.origin.castSucc) :=
  congrArg Host.Outcome.next (receive_of_fits hr (by decide) (by exact hl) _)

theorem isRunning_of_receives {s : State} (h : s.receives = true) : s.isRunning = true := by
  simp only [State.receives, State.linkHeld, Bool.and_eq_true, Bool.not_not] at h
  exact h.1

section Delivered

variable {s : State} {m : CueMessage} {o : Origin} (hr : s.isRunning = true)

include hr

theorem deliverCue_of_unaddressed (ha : s.addressedLanes m = []) : s.deliverCue m o = s := by
  simp [State.deliverCue, hr, ha]

theorem deliverCue_of_invalid (ha : s.addressedLanes m ≠ []) (hk : m.kind.invalidCue = true) :
    s.deliverCue m o = s.setNodeCounts { s.lanes.counts with invalidCue := raise16 s.lanes.counts.invalidCue } := by
  obtain ⟨i, rest, hc⟩ := List.exists_cons_of_ne_nil ha
  simp [State.deliverCue, hr, hc, hk]

theorem deliverCue_of_outside (ha : s.addressedLanes m ≠ []) (hk : m.kind.invalidCue = false)
    (hw : inWindow m.execute s.frame = false) :
    s.deliverCue m o =
      s.setNodeCounts { s.lanes.counts with windowRefused := raise16 s.lanes.counts.windowRefused } := by
  obtain ⟨i, rest, hc⟩ := List.exists_cons_of_ne_nil ha
  simp [State.deliverCue, hr, hc, hk, hw]

/-- R116, R117: an accepted message is taken by the one lane it addresses. -/
theorem deliverCue_of_one {i : Fin 4} (ha : s.addressedLanes m = [i]) (hk : m.kind.invalidCue = false)
    (hw : inWindow m.execute s.frame = true) : s.deliverCue m o = s.laneTakes i m o := by
  simp [State.deliverCue, hr, ha, hk, hw]

end Delivered

theorem invalidCue_go (cue : BitVec 16) : (CueKind.go cue).invalidCue = true ↔ cue = 0 ∨ cue = 65535 := by
  simp [CueKind.invalidCue]

/-! ## The current cue and the pending GO (R117, R118) -/

theorem supersedes_iff (c : CurrentCue) (f e : FrameNo) (o : Origin) :
    c.supersedes f e o = true ↔
      moreLater 255 f c.execute = false ∧ (later c.execute e = true ∨ (e = c.execute ∧ c.origin ≤ o)) := by
  simp [CurrentCue.supersedes]

theorem beatenBy_iff (p : PendingGo) (e : FrameNo) (o : Origin) :
    p.beatenBy e o = true ↔ later e p.execute = true ∨ (e = p.execute ∧ o < p.origin) := by
  simp [PendingGo.beatenBy]

section LaneGo

variable {s : State} {i : Fin 4} {cue : BitVec 16} {e : FrameNo} {o : Origin}

theorem laneGo_of_superseded {c : CurrentCue} (hc : (s.lane i).current = some c) (h : c.supersedes s.frame e o = true) :
    s.laneGo i cue e o =
      s.setNodeCounts { s.lanes.counts with superseded := raise16 s.lanes.counts.superseded } := by
  unfold State.laneGo
  rw [hc]
  exact if_pos h

theorem laneGo_of_standing (h : ∀ c, (s.lane i).current = some c → ¬ c.supersedes s.frame e o = true) :
    s.laneGo i cue e o = s.contestGo i cue e o .message := by
  unfold State.laneGo
  split
  · rfl
  · exact if_neg (h _ ‹_›)

end LaneGo

/-! ## A GO that becomes pending, and its request (R104, R107, R118) -/

/-- A lane with its pending GO replaced. -/
def Lane.withPending (l : Lane) (p : PendingGo) : Lane := { l with pending := some p }

section Contest

variable {s : State} {i : Fin 4} {p : Fin 16} {cue : BitVec 16} {e : FrameNo} {o : Origin} {k : GoKind}

/-- R104: the request of a lane with no other is placed as it is handed. -/
theorem makePending_of_bound (hb : (s.lane i).binding = some p) (h : i ∉ s.fetch.requesting) :
    s.makePending i cue e o k =
      (s.setLane i ((s.lane i).withPending ⟨cue, e, o, k, .asked⟩)).placeRequest ⟨i, p, cue, e, 0⟩ := by
  unfold State.makePending
  rw [hb]
  dsimp only
  rw [handRequest_eq, withdrawRequest_of_none (by exact h)]
  rfl

theorem contestGo_of_free (hb : (s.lane i).binding = some p) (hp : (s.lane i).pending = none)
    (h : i ∉ s.fetch.requesting) :
    s.contestGo i cue e o k =
      (s.setLane i ((s.lane i).withPending ⟨cue, e, o, k, .asked⟩)).placeRequest ⟨i, p, cue, e, 0⟩ := by
  unfold State.contestGo
  rw [hp]
  exact makePending_of_bound hb h

variable {old : PendingGo}

theorem contestGo_of_unbeaten (hp : (s.lane i).pending = some old) (h : ¬ old.beatenBy e o = true) :
    s.contestGo i cue e o k = s.setLane i (s.lane i).countContest := by
  unfold State.contestGo
  rw [hp]
  exact if_neg h

theorem onlyFetch_lanes {s t : State} (h : OnlyFetch s t) : t.lanes = s.lanes := by
  simpa using congrArg State.lanes (h.same s.fetch)

/-- A lane may be written before the port is chosen or after. -/
theorem choosePort_setLane (s : State) (i : Fin 4) (l : Lane) :
    s.choosePort.setLane i l = (s.setLane i l).choosePort := by
  unfold State.setLane
  rw [choosePort_setLanes, onlyFetch_lanes (choosePort_frame s)]

theorem lane_setLane (s : State) (i : Fin 4) (l : Lane) : (s.setLane i l).lane i = l := get_set_same ..

theorem setLane_setLane (s : State) (i : Fin 4) (l l' : Lane) : (s.setLane i l).setLane i l' = s.setLane i l' := by
  simp [State.setLane]

/-- R118: a GO that wins the contest becomes pending once the request of the other is withdrawn. -/
theorem contestGo_of_beaten (hb : (s.lane i).binding = some p) (hp : (s.lane i).pending = some old)
    (h : old.beatenBy e o = true) (hr : i ∉ (s.withdrawRequest i).fetch.requesting) :
    s.contestGo i cue e o k =
      ((s.withdrawRequest i).setLane i ((s.lane i).countContest.withPending ⟨cue, e, o, k, .asked⟩)).placeRequest
        ⟨i, p, cue, e, 0⟩ := by
  have kept : (s.withdrawRequest i).lane i = s.lane i :=
    congrArg (fun e : LaneEngine => e.lanes.get i) (onlyFetch_lanes (withdrawRequest_frame s i))
  unfold State.contestGo
  rw [hp]
  dsimp only
  rw [if_pos h, kept, makePending_of_bound (p := p) (by rw [lane_setLane]; exact hb) (by exact hr), lane_setLane,
    setLane_setLane]

theorem contestGo_of_beaten_unasked (hb : (s.lane i).binding = some p) (hp : (s.lane i).pending = some old)
    (h : old.beatenBy e o = true) (hr : i ∉ s.fetch.requesting) :
    s.contestGo i cue e o k =
      (s.setLane i ((s.lane i).countContest.withPending ⟨cue, e, o, k, .asked⟩)).placeRequest ⟨i, p, cue, e, 0⟩ := by
  have withdrawn := withdrawRequest_of_none hr
  rw [contestGo_of_beaten hb hp h (by rwa [withdrawn]), withdrawn]

theorem contestGo_of_beaten_queued (hb : (s.lane i).binding = some p) (hp : (s.lane i).pending = some old)
    (h : old.beatenBy e o = true) (hf : ∀ fl, s.fetch.flight = some fl → fl.request.lane ≠ i)
    (hq : ∃ x ∈ s.fetch.queue, x.lane = i) :
    s.contestGo i cue e o k =
      ((s.setFetch
        { s.fetch with
          queue := s.fetch.queue.filter fun r => decide (r.lane ≠ i)
          counters := { s.fetch.counters with withdraw := raise16 s.fetch.counters.withdraw } }).setLane i
        ((s.lane i).countContest.withPending ⟨cue, e, o, k, .asked⟩)).placeRequest ⟨i, p, cue, e, 0⟩ := by
  have withdrawn := withdrawRequest_of_queued hf hq
  rw [contestGo_of_beaten hb hp h ?_, withdrawn]
  rw [withdrawn]
  exact not_mem_requesting.mpr ⟨hf, by simp⟩

/-- R107: the port an abort frees is given before the request of the new GO is placed. -/
theorem contestGo_of_beaten_flying {fl : Flight} (hb : (s.lane i).binding = some p) (hp : (s.lane i).pending = some old)
    (h : old.beatenBy e o = true) (hf : s.fetch.flight = some fl) (hl : fl.request.lane = i)
    (hq : ∀ x ∈ s.fetch.queue, x.lane ≠ i) :
    s.contestGo i cue e o k =
      ((s.setFetch
        { s.fetch with
          flight := none
          port := .none
          counters := { s.fetch.counters with abort := raise16 s.fetch.counters.abort } }).setLane i
        ((s.lane i).countContest.withPending ⟨cue, e, o, k, .asked⟩)).choosePort.placeRequest ⟨i, p, cue, e, 0⟩ := by
  have withdrawn := withdrawRequest_of_flight hf hl
  rw [contestGo_of_beaten hb hp h ?_, withdrawn, choosePort_setLane]
  rw [withdrawn]
  exact choosePort_requesting (by simpa using hq)

end Contest

/-! ## A GO for one lane -/

section Accepted

variable {s : State} {g : CueMessage} {cue : BitVec 16} {i : Fin 4} {o : Origin}
  (hr : s.isRunning = true) (ha : s.addressedLanes g = [i]) (hg : g.kind = .go cue)
  (hcue : ¬ (cue = 0 ∨ cue = 65535)) (hw : inWindow g.execute s.frame = true)

include hr ha hg hcue hw

/-- R116: an accepted GO is taken by the lane it addresses. -/
theorem deliverCue_of_go : s.deliverCue g o = s.laneGo i cue g.execute o := by
  have valid : g.kind.invalidCue = false := by
    rw [hg]
    exact Bool.eq_false_of_not_eq_true (mt (invalidCue_go cue).mp hcue)
  rw [deliverCue_of_one hr ha valid hw]
  unfold State.laneTakes
  rw [hg]

theorem deliverCue_of_superseded {c : CurrentCue} (hc : (s.lane i).current = some c)
    (h : c.supersedes s.frame g.execute o = true) :
    s.deliverCue g o =
      s.setNodeCounts { s.lanes.counts with superseded := raise16 s.lanes.counts.superseded } :=
  (deliverCue_of_go hr ha hg hcue hw).trans (laneGo_of_superseded hc h)

theorem deliverCue_of_standing (h : ∀ c, (s.lane i).current = some c → ¬ c.supersedes s.frame g.execute o = true) :
    s.deliverCue g o = s.contestGo i cue g.execute o .message :=
  (deliverCue_of_go hr ha hg hcue hw).trans (laneGo_of_standing h)

end Accepted

theorem placeRequest_at {s : State} {f : FrameNo} (h : s.frame = f) (r : FetchRequest) :
    s.placeRequest r =
      if s.fetch.port = .none then
        { s with fetch := { s.fetch with port := .fetch, flight := some ⟨r, s.tick⟩ } }
      else { s with fetch := { s.fetch with queue := insertRequest f r s.fetch.queue } } := by
  subst h
  rfl

/-- Settles O27: the delivery after the first step, which leaves lanes, fetch unit and frame timer; of a GO that stands, the
contest by the request of its lane. -/
theorem goBecomesPending : Obligations.GoBecomesPending := by
  intro s m hrec hlen hind g cue origin after
  have delivered : exec (.goReceived m) s = .next (after.deliverCue g origin) := exec_goReceived hrec hlen
  obtain ⟨t, k, q, hafter⟩ : ∃ t k q, after = ((s.setTick t).setLink k).setPeers q := firstStep_of_indifferent hind _
  clear_value after
  subst hafter
  rw [delivered]
  have hr : (((s.setTick t).setLink k).setPeers q).isRunning = true := isRunning_of_receives (s := s) hrec
  refine ⟨fun ha => congrArg _ (deliverCue_of_unaddressed hr ha), fun i p ha hb => ?_⟩
  have addressed : s.addressedLanes g ≠ [] := by simp [ha]
  intro l put counted pending request hand noneQueued noneFlies superseded
  have placed {y : State} (h : y.frame = s.frame) : y.placeRequest request = hand y := placeRequest_at h request
  refine ⟨fun hc => ?_, fun h0 h1 hw => ?_, fun h0 h1 hw => ⟨fun c hc hs => ?_, fun standing => ?_⟩⟩
  · exact congrArg Host.Outcome.next (deliverCue_of_invalid hr addressed ((invalidCue_go cue).mpr hc))
  · exact congrArg Host.Outcome.next (deliverCue_of_outside hr addressed
      (Bool.eq_false_of_not_eq_true fun h => ((invalidCue_go cue).mp h).elim h0 h1) hw)
  · exact congrArg Host.Outcome.next (deliverCue_of_superseded hr ha rfl (not_or.mpr ⟨h0, h1⟩) hw hc
      ((supersedes_iff ..).mpr hs))
  · rw [deliverCue_of_standing (o := origin) hr ha rfl (not_or.mpr ⟨h0, h1⟩) hw
      fun c hc => mt (supersedes_iff ..).mp (standing c hc)]
    refine ⟨fun hp hf hq => congrArg Host.Outcome.next ?_, fun old hp => ?_⟩
    · exact Eq.trans (contestGo_of_free hb hp (not_mem_requesting.mpr ⟨hf, hq⟩)) (placed rfl)
    · intro taken beats
      have beaten (won : beats) : old.beatenBy g.execute origin = true := (beatenBy_iff ..).mpr won
      refine ⟨fun lost => congrArg Host.Outcome.next ?_, fun won hf hq => congrArg Host.Outcome.next ?_,
        fun won hf hq => congrArg Host.Outcome.next ?_, fun won hq fl hfl hl => congrArg Host.Outcome.next ?_⟩
      · exact contestGo_of_unbeaten hp (mt (beatenBy_iff ..).mp lost)
      · exact Eq.trans (contestGo_of_beaten_unasked hb hp (beaten won) (not_mem_requesting.mpr ⟨hf, hq⟩)) (placed rfl)
      · exact Eq.trans (contestGo_of_beaten_queued hb hp (beaten won) hf hq) (placed rfl)
      · exact Eq.trans (contestGo_of_beaten_flying hb hp (beaten won) hfl hl hq)
          (placed (LanesAndFetch.ofFetch (choosePort_frame _)).frame)

end Sys2Proof.Machine

end

section
/-! SUPPORT. The lanes at an edge: what the work of one lane leaves of another, what a lane and the fetch unit bring to the work of
the lanes, and what an edge makes of a lane that starts no cue (R106, R121, R122). -/

namespace Sys2Proof.Machine

open Sys2Proof

/-! ## What the work of another lane leaves -/

theorem lane_setLane_of_ne (s : State) {i k : Fin 4} (h : i ≠ k) (l : Lane) : (s.setLane k l).lane i = s.lane i :=
  get_set_of_ne _ h _

/-- Lane `i` is as it was, has a request only if it had one, and a sound fetch unit is sound still. -/
structure Beside (i : Fin 4) (s t : State) : Prop extends LanesAndFetch s t where
  lane : t.lane i = s.lane i
  unasked : i ∉ s.fetch.requesting → i ∉ t.fetch.requesting
  port : s.PortSound → t.PortSound

theorem Beside.refl (i : Fin 4) (s : State) : Beside i s s := ⟨.refl s, rfl, id, id⟩

theorem Beside.trans {i : Fin 4} {a b c : State} (h : Beside i a b) (k : Beside i b c) : Beside i a c :=
  ⟨.trans _ _ _ h.toLanesAndFetch k.toLanesAndFetch, k.lane.trans h.lane, k.unasked ∘ h.unasked,
    k.port ∘ h.port⟩

theorem OnlyFetch.lane {s t : State} (h : OnlyFetch s t) (i : Fin 4) : t.lane i = s.lane i := by
  unfold State.lane
  rw [onlyFetch_lanes h]

/-- R107: a withdrawal gives no other lane a request. -/
theorem withdrawRequest_beside (i k : Fin 4) (s : State) : Beside i s (s.withdrawRequest k) := by
  have only := withdrawRequest_frame s k
  refine ⟨.ofFetch only, only.lane i, fun hi => ?_, fun h => (withdrawRequest_sound h k).1⟩
  obtain ⟨idle, unqueued⟩ := not_mem_requesting.mp hi
  rcases request_of_lane s.fetch k with ⟨fl, hf, hl⟩ | ⟨hf, hq⟩ | none
  · rw [withdrawRequest_of_flight hf hl]
    exact choosePort_requesting (by simpa using unqueued)
  · rw [withdrawRequest_of_queued hf hq]
    exact not_mem_requesting.mpr ⟨idle, fun x hx => unqueued x (List.mem_of_mem_filter hx)⟩
  · rwa [withdrawRequest_of_none none]

section Others

variable {i k : Fin 4} (hk : i ≠ k)

include hk

theorem setLane_beside (s : State) (l : Lane) : Beside i s (s.setLane k l) :=
  ⟨setLane_frame .., lane_setLane_of_ne s hk l, id, id⟩

/-- R104: nor does a request handed for its own lane. -/
theorem handRequest_beside (s : State) (p : Fin 16) (cue : BitVec 16) (e : FrameNo) :
    Beside i s (s.handRequest k p cue e) := by
  have withdrawn := withdrawRequest_beside i k s
  have only := handRequest_frame s k p cue e
  refine ⟨.ofFetch only, only.lane i, fun hi => ?_, fun h => handRequest_sound h ..⟩
  obtain ⟨idle, unqueued⟩ := not_mem_requesting.mp (withdrawn.unasked hi)
  rw [handRequest_eq, State.placeRequest]
  split
  · refine not_mem_requesting.mpr ⟨fun fl hfl => ?_, unqueued⟩
    cases hfl
    exact hk.symm
  · refine not_mem_requesting.mpr ⟨idle, fun x hx => ?_⟩
    rcases mem_insertRequest.mp hx with rfl | hx
    · exact hk.symm
    · exact unqueued x hx

theorem makePending_beside (s : State) (cue : BitVec 16) (e : FrameNo) (o : Origin) (kind : GoKind) :
    Beside i s (s.makePending k cue e o kind) := by
  unfold State.makePending
  split
  · exact .refl i s
  · exact (setLane_beside hk s _).trans (handRequest_beside hk _ _ _ _)

theorem contestGo_beside (s : State) (cue : BitVec 16) (e : FrameNo) (o : Origin) (kind : GoKind) :
    Beside i s (s.contestGo k cue e o kind) := by
  unfold State.contestGo
  split
  · exact makePending_beside hk ..
  · split
    · exact (withdrawRequest_beside i k s).trans ((setLane_beside hk _ _).trans (makePending_beside hk ..))
    · exact setLane_beside hk ..

theorem scheduleFollow_beside (s : State) (c : CurrentCue) : Beside i s (s.scheduleFollow k c) := by
  unfold State.scheduleFollow
  split
  · exact .refl i s
  · split
    · exact ⟨setNodeCounts_frame .., rfl, id, id⟩
    · split
      · exact ⟨setNodeCounts_frame .., rfl, id, id⟩
      · exact contestGo_beside hk ..

theorem startOrStep_beside (s : State) (f : FrameNo) (merged : Vector Nat 36) (zones : Vector Rgb 8) :
    Beside i s (s.startOrStep k f merged zones) := by
  unfold State.startOrStep
  dsimp only
  split
  · refine .trans ?_ (scheduleFollow_beside hk _ _)
    exact (setLane_beside hk s _).trans ⟨⟨fun _ _ => rfl⟩, rfl, id, id⟩
  · exact setLane_beside hk ..

theorem laneEdge_beside (s : State) (c : Config) (f : FrameNo) (merged : Vector Nat 36) (zones : Vector Rgb 8) :
    Beside i s (s.laneEdge c f merged zones k) :=
  (startOrStep_beside hk s f merged zones).trans (setLane_beside hk _ _)

theorem dropOldPending_beside (s : State) (f : FrameNo) : Beside i s (s.dropOldPending k f) := by
  unfold State.dropOldPending
  split
  · exact .refl i s
  · split
    · exact (withdrawRequest_beside i k s).trans (setLane_beside hk _ _)
    · exact .refl i s

end Others

/-! ## The lanes in turn -/

section Turns

variable {α : Type} {i : Fin 4} {work : State → Fin 4 → State} (beside : ∀ t k, i ≠ k → Beside i t (work t k))

include beside

theorem foldl_beside {l : List (Fin 4)} (h : i ∉ l) (s : State) : Beside i s (l.foldl work s) := by
  induction l generalizing s with
  | nil => exact .refl i s
  | cons k rest ih =>
    obtain ⟨hk, hrest⟩ := not_or.mp (mt List.mem_cons.mpr h)
    exact (beside s k hk).trans (ih hrest (work s k))

/-- Before and after the turn of a lane others have theirs. -/
theorem foldl_around {l : List (Fin 4)} (hl : l.Nodup) (hi : i ∈ l) (s : State) :
    ∃ v, Beside i s v ∧ Beside i (work v i) (l.foldl work s) := by
  obtain ⟨before, behind, rfl⟩ := List.append_of_mem hi
  obtain ⟨-, hb, apart⟩ := List.nodup_append.mp hl
  have hbefore : i ∉ before := fun h => apart i h i List.mem_cons_self rfl
  refine ⟨_, foldl_beside beside hbefore s, ?_⟩
  rw [List.foldl_append, List.foldl_cons]
  exact foldl_beside beside (List.nodup_cons.mp hb).1 _

end Turns

theorem mem_laneIndices (i : Fin 4) : i ∈ laneIndices := by
  revert i
  decide

theorem laneIndices_nodup : laneIndices.Nodup := by decide

/-! ## Requests that time out (R106) -/

theorem lane_timeOut (s : State) (r : FetchRequest) (i : Fin 4) :
    (s.timeOut r).lane i = if r.lane = i then (s.lane i).takeFailure r.cue r.execute else s.lane i := by
  split
  · rename_i h
    subst h
    exact lane_setLane ..
  · exact lane_setLane_of_ne _ (Ne.symm ‹_›) _

/-- A lane once requests of its own have timed out. -/
def Lane.takeTimeouts (l : Lane) (q : List FetchRequest) : Lane := q.foldl (fun l r => l.takeFailure r.cue r.execute) l

theorem lane_timeOuts (q : List FetchRequest) (s : State) (i : Fin 4) :
    (q.foldl State.timeOut s).lane i = (s.lane i).takeTimeouts (q.filter fun r => decide (r.lane = i)) := by
  induction q generalizing s with
  | nil => rfl
  | cons r rest ih =>
    rw [List.foldl_cons, ih, lane_timeOut, List.filter_cons]
    by_cases h : r.lane = i <;> simp [h, Lane.takeTimeouts]

theorem owners_timeOuts (q : List FetchRequest) (s : State) : (q.foldl State.timeOut s).lanes.owners = s.lanes.owners := by
  induction q generalizing s with
  | nil => rfl
  | cons r rest ih => exact ih (s.timeOut r)

/-- R106: of the fetch unit the requests of the lanes leave the queue, each counted. -/
theorem fetch_timeOuts (q : List FetchRequest) (s : State) :
    (q.foldl State.timeOut s).fetch =
      { s.fetch with
        queue := s.fetch.queue.filter fun x => decide (x.lane ∉ q.map fun r => r.lane)
        counters :=
          { s.fetch.counters with
            timeout := if q.length = 0 then s.fetch.counters.timeout else raise16By q.length s.fetch.counters.timeout } } := by
  induction q generalizing s with
  | nil => simp
  | cons r rest ih =>
    have once : (s.timeOut r).fetch =
        { s.fetch with
          queue := s.fetch.queue.filter fun x => decide (x.lane ≠ r.lane)
          counters := { s.fetch.counters with timeout := raise16 s.fetch.counters.timeout } } := rfl
    rw [List.foldl_cons, ih, once, List.filter_filter]
    have both (x : FetchRequest) : (decide (x.lane ∉ rest.map fun r => r.lane) && decide (x.lane ≠ r.lane)) =
        decide (x.lane ∉ (r :: rest).map fun r => r.lane) := by
      rw [← Bool.decide_and, decide_eq_decide, List.map_cons, List.mem_cons, not_or, and_comm]
    have count : (if rest.length = 0 then raise16 s.fetch.counters.timeout
        else raise16By rest.length (raise16 s.fetch.counters.timeout)) =
          raise16By (rest.length + 1) s.fetch.counters.timeout := by
      simp only [raise16, raise16By]
      split <;> omega
    simp only [both, count, List.length_cons, Nat.add_eq_zero_iff, Nat.one_ne_zero, and_false, if_false]

/-- R120: a failure is for a GO that still waits for its record. -/
theorem takeFailure_of_unasked {l : Lane} (h : ∀ p, l.pending = some p → p.fetch ≠ .asked) (cue : BitVec 16)
    (e : FrameNo) : l.takeFailure cue e = l := by
  unfold Lane.takeFailure
  split
  · exact if_neg fun hp => h _ ‹_› hp.2.2
  · rfl

theorem takeFailure_of_asked {l : Lane} {p : PendingGo} (hp : l.pending = some p) (ha : p.fetch = .asked) :
    l.takeFailure p.cue p.execute = l.failPending := by
  unfold Lane.takeFailure
  rw [hp]
  exact if_pos ⟨rfl, rfl, ha⟩

/-- R120: a failure leaves the lane, or drops the pending GO and is counted. -/
theorem takeFailure_cases (l : Lane) (cue : BitVec 16) (e : FrameNo) :
    l.takeFailure cue e = l ∨ l.takeFailure cue e = l.failPending := by
  unfold Lane.takeFailure
  repeat' split
  · exact .inr rfl
  · exact .inl rfl
  · exact .inl rfl

theorem takeTimeouts_of_unasked {l : Lane} (h : ∀ p, l.pending = some p → p.fetch ≠ .asked) (q : List FetchRequest) :
    l.takeTimeouts q = l := by
  induction q with
  | nil => rfl
  | cons r rest ih =>
    rw [Lane.takeTimeouts, List.foldl_cons, takeFailure_of_unasked h]
    exact ih

theorem takeTimeouts_failPending (l : Lane) (q : List FetchRequest) : l.failPending.takeTimeouts q = l.failPending :=
  takeTimeouts_of_unasked (l := l.failPending) nofun q

/-- R120: of several timeouts at most one drops the pending GO and is counted. -/
theorem takeTimeouts_cases (l : Lane) (q : List FetchRequest) :
    l.takeTimeouts q = l ∨ l.takeTimeouts q = l.failPending := by
  induction q generalizing l with
  | nil => exact .inl rfl
  | cons r rest ih =>
    rw [Lane.takeTimeouts, List.foldl_cons]
    rcases takeFailure_cases l r.cue r.execute with h | h <;> rw [h]
    · exact ih l
    · exact .inr (takeTimeouts_failPending l rest)

/-- R120: the timeout of the request a GO waits for drops it and is counted. -/
theorem takeTimeouts_of_mem {l : Lane} {p : PendingGo} {q : List FetchRequest} {r : FetchRequest} (hp : l.pending = some p)
    (ha : p.fetch = .asked) (hr : r ∈ q) (hc : r.cue = p.cue) (he : r.execute = p.execute) :
    l.takeTimeouts q = l.failPending := by
  induction q with
  | nil => cases hr
  | cons x rest ih =>
    rw [Lane.takeTimeouts, List.foldl_cons]
    rcases List.mem_cons.mp hr with rfl | hr
    · rw [hc, he, takeFailure_of_asked hp ha]
      exact takeTimeouts_failPending l rest
    · rcases takeFailure_cases l x.cue x.execute with h | h <;> rw [h]
      · exact ih hr
      · exact takeTimeouts_failPending l rest

/-- R106: the queue once the wait counts have risen. -/
def Fetch.waited (u : Fetch) : List FetchRequest := u.queue.map fun r => { r with wait := r.wait + 1 }

/-- R106: the requests that time out at an edge. -/
def Fetch.dueAt (u : Fetch) (c : Config) : List FetchRequest := u.waited.filter fun r => decide (c.fetchTimeout ≤ r.wait)

theorem fetchEdge_eq (s : State) (c : Config) :
    s.fetchEdge c = (s.fetch.dueAt c).foldl State.timeOut (s.setFetch { s.fetch with queue := s.fetch.waited }) := rfl

/-! ## What the lanes find at an edge -/

/-- Lane engine and fetch unit are as they were. -/
structure LanesAlike (s t : State) : Prop where
  lanes : t.lanes = s.lanes := by rfl
  fetch : t.fetch = s.fetch := by rfl

theorem LanesAlike.trans {a b c : State} (h : LanesAlike a b) (k : LanesAlike b c) : LanesAlike a c :=
  ⟨k.lanes.trans h.lanes, k.fetch.trans h.fetch⟩

theorem numberEdge_lanes (s : State) : LanesAlike s s.numberEdge := by
  have chosen : LanesAlike s s.chooseCandidate := by
    unfold State.chooseCandidate
    split <;> exact {}
  unfold State.numberEdge
  split
  · exact {}
  · cases s.number.numbering with
    | stopped => exact {}
    | fixed n =>
      dsimp only
      repeat' split
      all_goals exact {}
    | listen k =>
      dsimp only
      split
      · exact chosen
      · exact {}
    | claiming q w =>
      cases w with
      | none => exact {}
      | some w =>
        dsimp only
        split <;> exact {}
    | holding n => exact {}
    | numberless =>
      dsimp only
      split <;> exact {}

theorem flip_figures (s : State) (c : Config) :
    ∃ x, (s.flip c).wall.figures = s.wall.figures.publish s.timer.edges x := by
  unfold State.flip
  dsimp only
  split <;> exact ⟨_, rfl⟩

/-- The state in which the fetch unit times requests out at an edge, before the lanes work. -/
def State.beforeFetch (s : State) (c : Config) : State := (s.beforeFlip c).wallEdge c

/-- R44: what fetch unit and lanes find at an edge: the number of the edge, and what was published before it. -/
structure BeforeFetch (s : State) (c : Config) (u : State) : Prop extends LanesAlike s u where
  frame : u.frame = s.nextFrame
  zones : (u.wall.figures.readBefore u.timer.edges).zones = s.wall.figures.last.zones
  output : u.output = s.output
  timer : u.timer = (s.agePeers c).timerEdge.timer
  tick : u.tick = (s.agePeers c).timerEdge.tick

theorem wallEdge_lanes (s : State) (c : Config) : LanesAlike s (s.wallEdge c) := by
  have walled := wallEdge_frame s c s.ingest s.wall
  exact ⟨by simpa using congrArg State.lanes walled, by simpa using congrArg State.fetch walled⟩

/-- R89: a reader of the edge finds the figures published before it. -/
theorem wallEdge_figures (s : State) (c : Config) :
    (s.wallEdge c).wall.figures.readBefore s.timer.edges = s.wall.figures.last := by
  obtain ⟨x, published⟩ := flip_figures s c
  obtain ⟨-, profile, drive, wall⟩ := wallEdge_picture s c
  rw [wall]
  show (s.flip c).wall.figures.readBefore _ = _
  rw [published, readBefore_publish]

/-- R44: what flip and scan leave for the lanes to find. -/
theorem beforeFlip_lanes (s : State) (c : Config) :
    LanesAlike s (s.beforeFlip c) ∧ (s.beforeFlip c).output = s.output ∧
      (s.beforeFlip c).timer = (s.agePeers c).timerEdge.timer ∧ (s.beforeFlip c).tick = (s.agePeers c).timerEdge.tick := by
  have aged := agePeers_frame s c
  have timed := timerEdge_frame (s.agePeers c)
  unfold State.beforeFlip
  generalize (s.agePeers c).timerEdge = w at timed
  have numbered := numberEdge_frame w.triggerQueueEdge
  have alike := numberEdge_lanes w.triggerQueueEdge
  exact ⟨.trans ⟨timed.lanes.trans aged.lanes, timed.fetch.trans aged.fetch⟩ ⟨alike.lanes, alike.fetch⟩,
    numbered.output.trans (timed.output.trans aged.output), numbered.timer, numbered.tick⟩

theorem beforeFetch_spec (s : State) (c : Config) : BeforeFetch s c (s.beforeFetch c) := by
  have found := beforeFlip_spec s c
  obtain ⟨alike, output, timer, tick⟩ := beforeFlip_lanes s c
  have figures := wallEdge_figures (s.beforeFlip c) c
  unfold State.beforeFetch
  generalize s.beforeFlip c = b at found alike output timer tick figures
  have walled := wallEdge_frame b c b.ingest b.wall
  have same : (b.wallEdge c).timer = b.timer := by simpa using congrArg State.timer walled
  refine ⟨alike.trans (wallEdge_lanes b c), ?_, ?_, ?_, same.trans timer, ?_⟩
  · simpa [State.frame, same] using found.frame
  · rw [same, figures, found.wall]
  · exact Eq.trans (by simpa using congrArg State.output walled) output
  · exact Eq.trans (by simpa using congrArg State.tick walled) tick

/-- The state in which the lanes work at an edge of the whole part. -/
def State.lanesTurn (s : State) (c : Config) : State := (s.beforeFetch c).fetchEdge c

theorem lanesTurn_frame (s : State) (c : Config) : LanesAndFetch (s.beforeFetch c) (s.lanesTurn c) := fetchEdge_frame _ c

/-- R106, R120: a lane when the lanes have their turn at an edge. -/
theorem lane_lanesTurn (s : State) (c : Config) (i : Fin 4) :
    (s.lanesTurn c).lane i = (s.lane i).takeTimeouts ((s.fetch.dueAt c).filter fun r => decide (r.lane = i)) := by
  obtain ⟨⟨lanes, fetch⟩, -⟩ := beforeFetch_spec s c
  have found : ((s.beforeFetch c).setFetch { s.fetch with queue := s.fetch.waited }).lane i = s.lane i := by
    unfold State.lane
    rw [setFetch_lanes, lanes]
  rw [State.lanesTurn, fetchEdge_eq, lane_timeOuts, fetch, found]

theorem owners_lanesTurn (s : State) (c : Config) : (s.lanesTurn c).lanes.owners = s.lanes.owners := by
  obtain ⟨⟨lanes, -⟩, -⟩ := beforeFetch_spec s c
  unfold State.lanesTurn
  rw [fetchEdge_eq, owners_timeOuts, setFetch_lanes, lanes]

/-- R106: the fetch unit when the lanes have their turn at an edge. -/
theorem fetch_lanesTurn (s : State) (c : Config) :
    (s.lanesTurn c).fetch =
      { s.fetch with
        queue := s.fetch.waited.filter fun x => decide (x.lane ∉ (s.fetch.dueAt c).map fun r => r.lane)
        counters :=
          { s.fetch.counters with
            timeout :=
              if (s.fetch.dueAt c).length = 0 then s.fetch.counters.timeout
              else raise16By (s.fetch.dueAt c).length s.fetch.counters.timeout } } := by
  obtain ⟨⟨-, fetch⟩, -⟩ := beforeFetch_spec s c
  unfold State.lanesTurn
  rw [fetchEdge_eq, fetch_timeOuts, setFetch_fetch, fetch]

/-! ## What the other blocks leave of the work of the lanes -/

/-- Lane engine, fetch unit, number unit and tick counter are as they were. -/
structure LanesDone (s t : State) : Prop extends LanesAlike s t where
  number : t.number = s.number := by rfl
  tick : t.tick = s.tick := by rfl

theorem LanesDone.refl (s : State) : LanesDone s s := {}

theorem LanesDone.trans {a b c : State} (h : LanesDone a b) (k : LanesDone b c) : LanesDone a c :=
  ⟨h.toLanesAlike.trans k.toLanesAlike, k.number.trans h.number, k.tick.trans h.tick⟩

theorem samplePin_lanes {c : Config} {i : Fin 8} (h : (c.pins.get i).function = .none) (s : State) (level : Bool)
    (f : FrameNo) : LanesDone s (s.samplePin c i level f) := by
  have idle (t : State) : LanesDone t (t.pinActs (c.pins.get i) level f) := by
    unfold State.pinActs
    rw [h]
    split <;> exact {}
  unfold State.samplePin
  dsimp only
  split
  · exact {}
  · repeat' split
    · exact {}
    · exact .trans (b := s.setPin i ⟨some level, 0⟩) {} (idle _)
    · exact {}

theorem reportEdge_lanes (s : State) (c : Config) (own : Option Station) : LanesDone s (s.reportEdge c own) := by
  unfold State.reportEdge
  split <;> exact {}

/-- R44: with no pin that forms a message, no block touches the lanes after their work at an edge. -/
theorem edge_lanesDone {s : State} {c : Config} (hr : s.startup.phase = .running)
    (h : ∀ k, (c.pins.get k).function = .none) (pins : BitVec 8) :
    LanesDone ((s.lanesTurn c).lanesEdge c) (s.edge c pins) := by
  have running : (s.agePeers c).timerEdge.isRunning = true :=
    (timerEdge_frame _).isRunning.trans ((agePeers_frame s c).isRunning.trans (isRunning_of_phase hr))
  have turn : (s.agePeers c).timerEdge.beforeLanes c = s.lanesTurn c := rfl
  have sampled (t : State) : LanesDone t (t.pinsEdge c pins) :=
    foldl_frame LanesDone _ .refl (fun _ _ _ => .trans) (fun t i => samplePin_lanes (h i) t _ _) _ t
  unfold State.edge
  dsimp only
  rw [if_pos running, blocksEdge_eq, State.beforeReport, turn]
  generalize (s.lanesTurn c).lanesEdge c = x
  refine .trans ?_ ⟨⟨setAhead_lanes .., setAhead_fetch ..⟩, setAhead_number .., setAhead_tick ..⟩
  refine .trans ?_ (reportEdge_lanes _ c _)
  refine .trans ?_ (sampled _)
  refine .trans ?_ ⟨⟨setBudget_lanes .., setBudget_fetch ..⟩, setBudget_number .., setBudget_tick ..⟩
  exact ⟨⟨setOutput_lanes .., setOutput_fetch ..⟩, setOutput_number .., setOutput_tick ..⟩

/-! ## The checks of the pending GOs (R121) -/

/-- A lane once its pending GO has had its check at edge `f`. -/
def Lane.dropOld (l : Lane) (f : FrameNo) : Lane := if l.pending.any fun p => tooOld p.execute f then l.failPending else l

theorem dropOld_of_old {l : Lane} {p : PendingGo} {f : FrameNo} (hp : l.pending = some p) (h : tooOld p.execute f = true) :
    l.dropOld f = l.failPending := by
  simp [Lane.dropOld, hp, h]

theorem dropOld_of_current {l : Lane} {f : FrameNo} (h : ∀ p, l.pending = some p → tooOld p.execute f = false) :
    l.dropOld f = l := by
  cases hp : l.pending with
  | none => simp [Lane.dropOld, hp]
  | some p => simp [Lane.dropOld, hp, h p hp]

theorem lane_dropOldPending (s : State) (i : Fin 4) (f : FrameNo) :
    (s.dropOldPending i f).lane i = (s.lane i).dropOld f := by
  unfold State.dropOldPending
  split
  · rw [dropOld_of_current (by simp [*])]
  · rename_i p hp
    split
    · rename_i old
      rw [lane_setLane, (withdrawRequest_frame s i).lane, dropOld_of_old hp old]
    · rename_i old
      rw [dropOld_of_current]
      intro q hq
      rw [hp] at hq
      cases hq
      exact Bool.eq_false_of_not_eq_true old

theorem dropOldPending_of_current {s : State} {i : Fin 4} {f : FrameNo}
    (h : ∀ p, (s.lane i).pending = some p → tooOld p.execute f = false) : s.dropOldPending i f = s := by
  unfold State.dropOldPending
  split
  · rfl
  · exact if_neg (by simp [h _ ‹_›])

theorem owners_dropOldPending (s : State) (i : Fin 4) (f : FrameNo) :
    (s.dropOldPending i f).lanes.owners = s.lanes.owners := by
  unfold State.dropOldPending
  split
  · rfl
  · split
    · show (s.withdrawRequest i).lanes.owners = _
      rw [onlyFetch_lanes (withdrawRequest_frame s i)]
    · rfl

theorem unasked_dropOldPending {s : State} {i : Fin 4} (h : i ∉ s.fetch.requesting) (k : Fin 4) (f : FrameNo) :
    i ∉ (s.dropOldPending k f).fetch.requesting := by
  unfold State.dropOldPending
  split
  · exact h
  · split
    · exact (withdrawRequest_beside i k s).unasked h
    · exact h

/-- R121: a GO outside the window takes its request with it. -/
theorem unasked_dropOldPending_of_old {s : State} {i : Fin 4} {p : PendingGo} {f : FrameNo}
    (hp : (s.lane i).pending = some p) (old : tooOld p.execute f = true) (sound : s.PortSound) :
    i ∉ (s.dropOldPending i f).fetch.requesting := by
  unfold State.dropOldPending
  rw [hp]
  dsimp only
  rw [if_pos old]
  exact (withdrawRequest_sound sound i).2

/-- R121: every lane checks its pending GO. -/
def State.oldDropped (s : State) : State := laneIndices.foldl (fun s i => s.dropOldPending i s.frame) s

theorem oldDropped_frame (s : State) : LanesAndFetch s s.oldDropped :=
  foldl_frame LanesAndFetch _ .refl .trans (fun t i => dropOldPending_frame t i _) _ s

theorem oldDropped_of_current {s : State}
    (h : ∀ i p, (s.lane i).pending = some p → tooOld p.execute s.frame = false) : s.oldDropped = s :=
  List.foldl_fixed' (fun i => dropOldPending_of_current (h i)) _

/-- The checks before and after that of a lane. -/
theorem oldDropped_around (s : State) (i : Fin 4) :
    ∃ v, Beside i s v ∧ Beside i (v.dropOldPending i s.frame) s.oldDropped := by
  obtain ⟨v, before, after⟩ := foldl_around (i := i) (work := fun s k => s.dropOldPending k s.frame)
    (fun t k hk => dropOldPending_beside hk t _) laneIndices_nodup (mem_laneIndices i) s
  refine ⟨v, before, ?_⟩
  rw [← before.frame]
  exact after

theorem lane_oldDropped (s : State) (i : Fin 4) : s.oldDropped.lane i = (s.lane i).dropOld s.frame := by
  obtain ⟨v, before, after⟩ := oldDropped_around s i
  rw [after.lane, lane_dropOldPending, before.lane]

theorem owners_oldDropped (s : State) : s.oldDropped.lanes.owners = s.lanes.owners :=
  foldl_frame (fun a b : State => b.lanes.owners = a.lanes.owners) _ (fun _ => rfl) (fun _ _ _ h k => k.trans h)
    (fun t i => owners_dropOldPending t i _) _ s

/-! ## The work of the lanes (R122) -/

/-- R122 b: the pending GO with which a lane starts a cue at edge `f`, and its record. -/
def Lane.starting (l : Lane) (f : FrameNo) : Option (PendingGo × CueRecord) :=
  l.pending.bind fun p => (p.starts f).map fun r => (p, r)

theorem starting_eq_some {l : Lane} {f : FrameNo} {p : PendingGo} {r : CueRecord} :
    l.starting f = some (p, r) ↔
      l.pending = some p ∧ later p.execute f = false ∧ (p.fetch = .ready r ∨ p.fetch = .waitEdge r) := by
  unfold Lane.starting PendingGo.starts
  cases l.pending with
  | none => simp
  | some q =>
    cases later q.execute f <;> cases q.fetch <;> grind

theorem starting_of_unready {l : Lane} (h : ∀ p, l.pending = some p → p.fetch = .asked) (f : FrameNo) :
    l.starting f = none := by
  cases hs : l.starting f with
  | none => rfl
  | some x =>
    obtain ⟨hp, -, hf⟩ := starting_eq_some.mp hs
    simp [h _ hp] at hf

/-- R122 c: a lane that starts no cue goes on with the one it has. -/
def Lane.stepped (l : Lane) : Lane := { l with current := l.current.map CurrentCue.step }

/-- R122 d, e: a lane takes its control list and forms its levels. -/
def Lane.worked (l : Lane) (c : Config) (f : FrameNo) (zones : Vector Rgb 8) : Lane := (l.takeControl f).formLevels c zones

section Work

variable {s : State} {i : Fin 4} {f : FrameNo} (c : Config) (merged : Vector Nat 36) (zones : Vector Rgb 8)

theorem startOrStep_of_starting {p : PendingGo} {r : CueRecord} (h : (s.lane i).starting f = some (p, r)) :
    s.startOrStep i f merged zones = s.startCue i p r f merged zones := by
  unfold State.startOrStep
  unfold Lane.starting at h
  dsimp only
  rw [h]

theorem startOrStep_of_idle (h : (s.lane i).starting f = none) :
    s.startOrStep i f merged zones = s.setLane i (s.lane i).stepped := by
  unfold State.startOrStep
  unfold Lane.starting at h
  dsimp only
  rw [h]
  rfl

theorem laneEdge_eq (s : State) (i : Fin 4) (f : FrameNo) :
    s.laneEdge c f merged zones i =
      (s.startOrStep i f merged zones).setLane i (((s.startOrStep i f merged zones).lane i).worked c f zones) := rfl

theorem laneEdge_of_idle (h : (s.lane i).starting f = none) :
    s.laneEdge c f merged zones i = s.setLane i ((s.lane i).stepped.worked c f zones) := by
  rw [laneEdge_eq, startOrStep_of_idle _ _ h, lane_setLane, setLane_setLane]

variable (s)

/-- R122 b to e: every lane does its work. -/
def State.lanesWorked : State := laneIndices.foldl (fun s i => s.laneEdge c s.frame merged zones i) s

theorem lanesWorked_frame : LanesAndFetch s (s.lanesWorked c merged zones) :=
  foldl_frame LanesAndFetch _ .refl .trans (fun t i => laneEdge_frame t c _ _ _ i) _ s

/-- The work of the lanes before and after that of one. -/
theorem lanesWorked_around (i : Fin 4) :
    ∃ v, Beside i s v ∧ Beside i (v.laneEdge c s.frame merged zones i) (s.lanesWorked c merged zones) := by
  obtain ⟨v, before, after⟩ := foldl_around (i := i) (work := fun s k => s.laneEdge c s.frame merged zones k)
    (fun t k hk => laneEdge_beside hk t ..) laneIndices_nodup (mem_laneIndices i) s
  refine ⟨v, before, ?_⟩
  rw [← before.frame]
  exact after

variable {s}

theorem lane_lanesWorked_of_idle (h : (s.lane i).starting s.frame = none) :
    (s.lanesWorked c merged zones).lane i = (s.lane i).stepped.worked c s.frame zones := by
  obtain ⟨v, before, after⟩ := lanesWorked_around s c merged zones i
  rw [after.lane, laneEdge_of_idle c merged zones (by rw [before.lane]; exact h), lane_setLane, before.lane]

end Work

/-- R136: the conditions of the lanes handed at the edge with label `edge`. -/
def State.conditionsHanded (s : State) (edge : Nat) : State :=
  s.setLanes { s.lanes with conditions := s.lanes.conditions.publish edge s.lanes.conditionNow }

/-- R122, R136: the checks, then the work with the values published at the edge before, then the conditions handed. -/
theorem lanesEdge_eq (s : State) (c : Config) :
    s.lanesEdge c =
      (s.oldDropped.lanesWorked c (s.output.merged.readBefore s.timer.edges)
        (s.wall.figures.readBefore s.timer.edges).zones).conditionsHanded s.timer.edges := by
  unfold State.lanesEdge State.lanesWorked State.oldDropped
  rfl

/-! ## The lanes at an edge of the whole part -/

/-- The lanes at an edge once every pending GO has had its check. -/
def State.lanesChecked (s : State) (c : Config) : State := (s.lanesTurn c).oldDropped

/-- A lane as it comes to its work at an edge. -/
theorem lane_lanesChecked (s : State) (c : Config) (i : Fin 4) :
    (s.lanesChecked c).lane i =
      ((s.lane i).takeTimeouts ((s.fetch.dueAt c).filter fun r => decide (r.lane = i))).dropOld s.nextFrame := by
  unfold State.lanesChecked
  rw [lane_oldDropped, lane_lanesTurn, (lanesTurn_frame s c).frame, (beforeFetch_spec s c).frame]

theorem lanesChecked_frame (s : State) (c : Config) : LanesAndFetch (s.beforeFetch c) (s.lanesChecked c) :=
  .trans _ _ _ (lanesTurn_frame s c) (oldDropped_frame _)

theorem frame_lanesChecked (s : State) (c : Config) : (s.lanesChecked c).frame = s.nextFrame :=
  (lanesChecked_frame s c).frame.trans (beforeFetch_spec s c).frame

theorem owners_lanesChecked (s : State) (c : Config) : (s.lanesChecked c).lanes.owners = s.lanes.owners :=
  Eq.trans (by rw [State.lanesChecked, owners_oldDropped]) (owners_lanesTurn s c)

/-- The merged levels of the edge before, as the lanes read them. -/
def State.mergedBefore (s : State) (c : Config) : Vector Nat 36 :=
  (s.lanesTurn c).output.merged.readBefore (s.lanesTurn c).timer.edges

/-- The state of the lanes after their work at an edge. -/
def State.lanesAfter (s : State) (c : Config) : State :=
  (s.lanesChecked c).lanesWorked c (s.mergedBefore c) s.wall.figures.last.zones

theorem lanesAfter_frame (s : State) (c : Config) : LanesAndFetch (s.beforeFetch c) (s.lanesAfter c) :=
  .trans _ _ _ (lanesChecked_frame s c) (by unfold State.lanesAfter; exact lanesWorked_frame ..)

/-- R122: after an edge at which no pin forms a message, lane engine and fetch unit are as the lanes leave them. -/
theorem edge_lanes {s : State} {c : Config} (hr : s.startup.phase = .running)
    (h : ∀ k, (c.pins.get k).function = .none) (pins : BitVec 8) :
    LanesDone ((s.lanesAfter c).conditionsHanded (s.lanesTurn c).timer.edges) (s.edge c pins) := by
  have done := edge_lanesDone hr h pins
  have zones : ((s.lanesTurn c).wall.figures.readBefore (s.lanesTurn c).timer.edges).zones = s.wall.figures.last.zones := by
    rw [(lanesTurn_frame s c).wall, (lanesTurn_frame s c).timer]
    exact (beforeFetch_spec s c).zones
  rwa [lanesEdge_eq, zones] at done

theorem lane_edge {s : State} {c : Config} (hr : s.startup.phase = .running)
    (h : ∀ k, (c.pins.get k).function = .none) (pins : BitVec 8) (i : Fin 4) :
    (s.edge c pins).lane i = (s.lanesAfter c).lane i := by
  unfold State.lane
  rw [(edge_lanes hr h pins).lanes, State.conditionsHanded, setLanes_lanes]

theorem fetch_edge {s : State} {c : Config} (hr : s.startup.phase = .running)
    (h : ∀ k, (c.pins.get k).function = .none) (pins : BitVec 8) : (s.edge c pins).fetch = (s.lanesAfter c).fetch := by
  rw [(edge_lanes hr h pins).fetch, State.conditionsHanded, setLanes_fetch]

theorem owners_edge {s : State} {c : Config} (hr : s.startup.phase = .running)
    (h : ∀ k, (c.pins.get k).function = .none) (pins : BitVec 8) :
    (s.edge c pins).lanes.owners = (s.lanesAfter c).lanes.owners := by
  rw [(edge_lanes hr h pins).lanes, State.conditionsHanded, setLanes_lanes]

/-- R122 c to e: what an edge makes of a lane that starts no cue at it. -/
theorem lane_edge_of_idle {s : State} {c : Config} (hr : s.startup.phase = .running)
    (h : ∀ k, (c.pins.get k).function = .none) (pins : BitVec 8) {i : Fin 4} {l : Lane}
    (hl : (s.lanesChecked c).lane i = l) (idle : l.starting s.nextFrame = none) :
    (s.edge c pins).lane i = l.stepped.worked c s.nextFrame s.wall.figures.last.zones := by
  subst hl
  rw [← frame_lanesChecked s c] at idle ⊢
  rw [lane_edge hr h, State.lanesAfter, lane_lanesWorked_of_idle c _ _ idle]

end Sys2Proof.Machine

end

section
/-! SUPPORT. The fade of a cue, the levels a lane forms and the control list it takes at an edge (R122, R126 to R129, R131,
R132). -/

namespace Sys2Proof.Machine

open Sys2Proof

/-! ## The fade (R127) -/

/-- R127: whatever the curve, the progress that has reached its end weighs whole. -/
theorem weight_of_ended (c : Curve) {k n : Nat} (h : n ≤ k) : c.weight k n = 65536 := by
  unfold Curve.weight
  rw [if_pos h]
  cases c with
  | linear => rfl
  | square => rfl
  | step => exact if_neg (Nat.not_lt.mpr h)

theorem weight_linear_of_running {k n : Nat} (h : k < n) : Curve.weight .linear k n = k * 65536 / n :=
  if_neg (Nat.not_le.mpr h)

theorem weight_linear_le (k n : Nat) : Curve.weight .linear k n ≤ 65536 := by
  by_cases h : n ≤ k
  · exact Nat.le_of_eq (weight_of_ended _ h)
  · rw [weight_linear_of_running (Nat.lt_of_not_le h)]
    exact Nat.div_le_of_le_mul (Nat.mul_le_mul_right 65536 (Nat.le_of_not_le h))

theorem weight_le (c : Curve) (k n : Nat) : c.weight k n ≤ 65536 := by
  have linear := weight_linear_le k n
  cases c with
  | linear => exact linear
  | square => exact Nat.div_le_of_le_mul (Nat.mul_le_mul linear linear)
  | step =>
    show (if k < n then 0 else 65536) ≤ 65536
    split <;> decide

theorem weight_linear_mono {k k' : Nat} (h : k ≤ k') (n : Nat) : Curve.weight .linear k n ≤ Curve.weight .linear k' n := by
  by_cases ended : n ≤ k'
  · rw [weight_of_ended _ ended]
    exact weight_linear_le k n
  · have running : k' < n := Nat.lt_of_not_le ended
    rw [weight_linear_of_running running, weight_linear_of_running (Nat.lt_of_le_of_lt h running)]
    exact Nat.div_le_div_right (Nat.mul_le_mul_right 65536 h)

/-- R127: at a weight of at most 65536 the level lies between start and target. -/
theorem fadeLevel_between (start target : Nat) {w : Nat} (h : w ≤ 65536) :
    min start target ≤ fadeLevel start target w ∧ fadeLevel start target w ≤ max start target := by
  have part (d : Nat) : d * w / 65536 ≤ d := Nat.div_le_of_le_mul (by rw [Nat.mul_comm]; exact Nat.mul_le_mul_right d h)
  have up := part (target - start)
  have down := part (start - target)
  unfold fadeLevel
  split <;> omega

theorem fadeLevel_full (start target : Nat) : fadeLevel start target 65536 = target := by
  unfold fadeLevel
  split <;> omega

theorem fadeLevel_zero (start target : Nat) : fadeLevel start target 0 = start := by
  simp [fadeLevel]

/-- R129: a level within the slew of its target reaches it, and another moves by the slew. -/
theorem followLevel_spec (level target slew : Nat) :
    (level ≤ target + slew → target ≤ level + slew → followLevel level target slew = target) ∧
      (level + slew < target → followLevel level target slew = level + slew) ∧
      (target + slew < level → followLevel level target slew + slew = level) := by
  unfold followLevel
  split <;> omega

/-! ## The levels of a lane (R127 to R129) -/

/-- R127, R129: each level held before an edge is formed by the fade at this weight, where the cue fades and lists the
channel, else follows its zone or stands. -/
def LevelsFormed (c : Config) (zones : Vector Rgb 8) (listed : List Listed) (fades : Bool) (weight : Nat)
    (before after : Vector (Option LaneLevel) 36) : Prop :=
  ∀ (ch : Fin 36) (v : LaneLevel), before.get ch = some v →
    (∀ x, fades = true → listed.find? (fun x => decide (x.channel = ch)) = some x →
      after.get ch = some ⟨fadeLevel x.snapshot x.target weight, v.source⟩) ∧
      ((fades = false ∨ ∀ x ∈ listed, x.channel ≠ ch) →
        (∀ l, v.source = .fixed l → after.get ch = some v) ∧
          ∀ z k, v.source = .zone z k →
            after.get ch =
              some ⟨followLevel v.level ((Source.zone z k).target zones) (c.channels.get ch).slew, v.source⟩)

theorem formed_of_fading {v : LaneLevel} {cur : CurrentCue} {ch : Fin 36} {x : Listed} (hf : cur.fades = true)
    (hx : cur.listed.find? (fun x => decide (x.channel = ch)) = some x) (slew : Nat) (zones : Vector Rgb 8) :
    v.formed (some cur) ch slew zones = ⟨fadeLevel x.snapshot x.target cur.weight, v.source⟩ := by
  simp [LaneLevel.formed, hf, hx]

section Standing

variable {v : LaneLevel} {cur : CurrentCue} {ch : Fin 36} (h : cur.fades = false ∨ ∀ x ∈ cur.listed, x.channel ≠ ch)

include h

theorem formed_of_fixed {level : Nat} (hs : v.source = .fixed level) (slew : Nat) (zones : Vector Rgb 8) :
    v.formed (some cur) ch slew zones = v := by
  rcases h with h | h
  · simp [LaneLevel.formed, h, hs]
  · have unlisted : cur.listed.find? (fun x => decide (x.channel = ch)) = none := by simpa using h
    simp [LaneLevel.formed, unlisted, hs]

theorem formed_of_zone {z : Nat} {k : Fin 3} (hs : v.source = .zone z k) (slew : Nat) (zones : Vector Rgb 8) :
    v.formed (some cur) ch slew zones =
      { v with level := followLevel v.level ((Source.zone z k).target zones) slew } := by
  rcases h with h | h
  · simp [LaneLevel.formed, h, hs]
  · have unlisted : cur.listed.find? (fun x => decide (x.channel = ch)) = none := by simpa using h
    simp [LaneLevel.formed, unlisted, hs]

end Standing

theorem levels_formLevels (l : Lane) (c : Config) (zones : Vector Rgb 8) (ch : Fin 36) :
    (l.formLevels c zones).levels.get ch =
      (l.levels.get ch).map fun v =>
        v.formed (l.current.map fun x => x.retarget zones) ch (c.channels.get ch).slew zones := by
  simp [Lane.formLevels, Vector.get_eq_getElem]

theorem formLevels_formed {l : Lane} {y : CurrentCue} (h : l.current = some y) (c : Config) (zones : Vector Rgb 8) :
    LevelsFormed c zones (y.retarget zones).listed y.fades y.weight l.levels (l.formLevels c zones).levels := by
  intro ch v hv
  rw [levels_formLevels, hv, h]
  refine ⟨fun x hf hx => congrArg some (formed_of_fading (cur := y.retarget zones) hf hx ..), fun stands =>
    ⟨fun level hs => ?_, fun z k hs => ?_⟩⟩
  · exact congrArg some (formed_of_fixed (cur := y.retarget zones) stands hs ..)
  · exact congrArg some (formed_of_zone (cur := y.retarget zones) stands hs ..)

theorem current_formLevels {l : Lane} {y : CurrentCue} (h : l.current = some y) (c : Config) (zones : Vector Rgb 8) :
    (l.formLevels c zones).current = some { y.retarget zones with settle := false } := by
  simp [Lane.formLevels, h]

/-- R127: a cue that has run on fades as long as its position stood before its end. -/
theorem fades_step_of_run {c : CurrentCue} (h : c.running = .run) :
    c.step.fades = (c.settle || decide (c.position < c.length)) := by
  have moved : c.step = { c with
      position := min (c.position + 1) (c.length + 255)
      settle := c.settle || (decide (c.position < c.length) && decide (c.length ≤ min (c.position + 1) (c.length + 255))) } := by
    unfold CurrentCue.step
    rw [h]
  have length : c.step.length = c.length := by rw [moved]; rfl
  unfold CurrentCue.fades
  rw [length, moved]
  simp only [h]
  cases c.settle with
  | true => rfl
  | false =>
    rw [Bool.eq_iff_iff]
    simp only [Bool.false_or, Bool.or_eq_true, Bool.and_eq_true, decide_eq_true_eq]
    omega

theorem fades_of_paused {c : CurrentCue} {age : Nat} {f : FrameNo} (h : c.running = .paused age f) : c.fades = true := by
  simp [CurrentCue.fades, h]

/-! ## The control list of a lane (R131, R132) -/

/-- What taking control entries leaves of a lane. -/
structure ControlWork (l m : Lane) : Prop where
  levels : m.levels = l.levels := by rfl
  pending : m.pending = l.pending := by rfl
  control : m.control = l.control := by rfl
  start : m.counts.start = l.counts.start := by rfl
  failure : m.counts.failure = l.counts.failure := by rfl

theorem ControlWork.trans {a b c : Lane} (h : ControlWork a b) (k : ControlWork b c) : ControlWork a c :=
  ⟨k.levels.trans h.levels, k.pending.trans h.pending, k.control.trans h.control, k.start.trans h.start,
    k.failure.trans h.failure⟩

theorem applyControl_work (l : Lane) (f : FrameNo) (e : ControlEntry) : ControlWork l (l.applyControl f e) := by
  unfold Lane.applyControl
  split
  · exact {}
  · split
    · split <;> exact {}
    · exact {}
    · exact {}

theorem applyDue_work (l : Lane) (f : FrameNo) (q : List ControlEntry) :
    ControlWork { l with control := q.filter fun e => later e.execute f } (l.applyDue f q) :=
  foldl_frame ControlWork _ (fun _ => {}) (fun _ _ _ => .trans) (fun l e => applyControl_work l f e) _ _

/-- R132: entries are discarded and applied; levels and pending GO stand. -/
theorem takeControl_work (l : Lane) (f : FrameNo) :
    ControlWork
      { l with control := (orderControl f (l.control.filter fun e => !tooOld e.execute f)).filter fun e => later e.execute f }
      (l.takeControl f) := by
  obtain ⟨levels, pending, control, start, failure⟩ := applyDue_work
    { l with
      counts :=
        { l.counts with
          ignored := raise8By (l.control.filter fun e => tooOld e.execute f).length l.counts.ignored } }
    f (orderControl f (l.control.filter fun e => !tooOld e.execute f))
  exact ⟨levels, pending, control, start, failure⟩

theorem pending_worked (l : Lane) (c : Config) (f : FrameNo) (zones : Vector Rgb 8) :
    (l.worked c f zones).pending = l.pending := (takeControl_work l f).pending

theorem start_worked (l : Lane) (c : Config) (f : FrameNo) (zones : Vector Rgb 8) :
    (l.worked c f zones).counts.start = l.counts.start := (takeControl_work l f).start

theorem failure_worked (l : Lane) (c : Config) (f : FrameNo) (zones : Vector Rgb 8) :
    (l.worked c f zones).counts.failure = l.counts.failure := (takeControl_work l f).failure

/-- A later frame does not lie outside the window. -/
theorem tooOld_of_later {e f : FrameNo} (h : later e f = true) : tooOld e f = false := by
  have behind : moreLater 255 f e = false := by
    cases hm : moreLater 255 f e with
    | false => rfl
    | true => exact absurd h (by simp [later_asymm (later_of_moreLater hm)])
  simp only [later, Bool.and_eq_true, decide_eq_true_eq] at h
  have ordered : unordered e f = false := decide_eq_false (by omega)
  simp [tooOld, behind, ordered]

/-- R131, R132: the entries for later frames stay and no others. -/
theorem mem_control_takeControl {l : Lane} {f : FrameNo} {e : ControlEntry} :
    e ∈ (l.takeControl f).control ↔ e ∈ l.control ∧ later e.execute f = true := by
  rw [(takeControl_work l f).control]
  simp only [List.mem_filter, mem_orderControl, Bool.not_eq_true', and_assoc]
  exact and_congr_right fun _ => ⟨fun h => h.2, fun h => ⟨tooOld_of_later h, h⟩⟩

theorem current_takeControl_of_empty {l : Lane} (h : l.control = []) (f : FrameNo) :
    (l.takeControl f).current = l.current := by
  simp [Lane.takeControl, h, orderControl, Lane.applyDue]

/-- R132: a single entry that is due is applied. -/
theorem takeControl_of_single {l : Lane} {f : FrameNo} {e : ControlEntry} (h : l.control = [e])
    (due : later e.execute f = false) (current : tooOld e.execute f = false) :
    l.takeControl f =
      ({ l with control := [], counts := { l.counts with ignored := raise8By 0 l.counts.ignored } } : Lane).applyControl
        f e := by
  simp [Lane.takeControl, h, orderControl, Lane.applyDue, insertControl, due, current]

section Applied

variable {l : Lane} {c : CurrentCue} {f : FrameNo} {e : ControlEntry} (hc : l.current = some c)

include hc

theorem applyControl_of_hold (he : e.kind = .hold) (hr : c.running = .run) (h : c.position < c.length) :
    l.applyControl f e = { l with current := some { c with running := .paused 0 f, settle := false } } := by
  simp [Lane.applyControl, hc, he, hr, h]

theorem applyControl_of_late_hold (he : e.kind = .hold) (hr : c.running = .run) (h : c.length ≤ c.position) :
    l.applyControl f e = l.ignore := by
  simp [Lane.applyControl, hc, he, hr, Nat.not_lt.mpr h]

theorem applyControl_of_release {age : Nat} {g : FrameNo} (he : e.kind = .release) (hr : c.running = .paused age g) :
    l.applyControl f e = { l with current := some { c with running := .run, runBase := c.position } } := by
  simp [Lane.applyControl, hc, he, hr]

end Applied

/-! ## A lane without a pending GO at an edge -/

theorem lane_lanesChecked_of_unasked {s : State} {i : Fin 4} {f : FrameNo} (hf : s.nextFrame = f)
    (h : ∀ p, (s.lane i).pending = some p → p.fetch ≠ .asked ∧ tooOld p.execute f = false) (c : Config) :
    (s.lanesChecked c).lane i = s.lane i := by
  rw [lane_lanesChecked, takeTimeouts_of_unasked fun p hp => (h p hp).1, hf, dropOld_of_current fun p hp => (h p hp).2]

/-- R127, R129: the cue of a lane after an edge, and its levels, by the cue `y` that it has once its control list is taken. -/
theorem worked_spec {l : Lane} {y : CurrentCue} {c : Config} {f : FrameNo} {zones : Vector Rgb 8}
    (h : (l.takeControl f).current = some y) :
    (l.worked c f zones).current = some { y.retarget zones with settle := false } ∧
      LevelsFormed c zones (y.retarget zones).listed y.fades y.weight l.levels (l.worked c f zones).levels := by
  have formed := formLevels_formed h c zones
  rw [(takeControl_work l f).levels] at formed
  exact ⟨current_formLevels h c zones, formed⟩

theorem current_stepped {l : Lane} {c : CurrentCue} (h : l.current = some c) : l.stepped.current = some c.step := by
  simp [Lane.stepped, h]

theorem step_of_paused {c : CurrentCue} {age : Nat} {f : FrameNo} (h : c.running = .paused age f) :
    c.step = { c with running := .paused (min 255 (age + 1)) f } := by
  unfold CurrentCue.step
  rw [h]

theorem step_of_run {c : CurrentCue} (h : c.running = .run) :
    ∃ settle, c.step = { c with position := min (c.position + 1) (c.length + 255), settle := settle } := by
  unfold CurrentCue.step
  rw [h]
  exact ⟨_, rfl⟩

section WorkedCue

variable {l : Lane} {c : CurrentCue} (hc : l.current = some c) (cfg : Config) (f : FrameNo) (zones : Vector Rgb 8)

include hc

/-- R126, R127: a cue that runs, with no control entry to take. -/
theorem worked_of_run (empty : l.control = []) (run : c.running = .run) :
    let moved : CurrentCue := { c with position := min (c.position + 1) (c.length + 255) }
    (l.stepped.worked cfg f zones).current = some { moved.retarget zones with settle := false } ∧
      LevelsFormed cfg zones (c.retarget zones).listed (c.settle || decide (c.position < c.length)) moved.weight l.levels
        (l.stepped.worked cfg f zones).levels := by
  obtain ⟨cur, levels⟩ := worked_spec (c := cfg) (zones := zones)
    ((current_takeControl_of_empty (l := l.stepped) empty f).trans (current_stepped hc))
  obtain ⟨settle, ran⟩ := step_of_run run
  rw [fades_step_of_run run] at levels
  rw [ran] at cur levels
  exact ⟨cur, levels⟩

/-- R126, R127: a cue that is paused, with no control entry to take. -/
theorem worked_of_paused (empty : l.control = []) {age : Nat} {g : FrameNo} (paused : c.running = .paused age g) :
    let aged : CurrentCue := { c with running := .paused (min 255 (age + 1)) g }
    (l.stepped.worked cfg f zones).current = some { aged.retarget zones with settle := false } ∧
      LevelsFormed cfg zones (c.retarget zones).listed true c.weight l.levels (l.stepped.worked cfg f zones).levels := by
  obtain ⟨cur, levels⟩ := worked_spec (c := cfg) (zones := zones)
    ((current_takeControl_of_empty (l := l.stepped) empty f).trans (current_stepped hc))
  have still := step_of_paused paused
  rw [fades_of_paused (by rw [still])] at levels
  rw [still] at cur levels
  exact ⟨cur, levels⟩

variable {f} {e : ControlEntry} (single : l.control = [e]) (due : later e.execute f = false)
  (current : tooOld e.execute f = false)

include single due current

/-- R132: a HOLD due short of the end pauses the cue at the position it has reached. -/
theorem worked_of_hold (he : e.kind = .hold) (run : c.running = .run) (short : c.position + 1 < c.length) :
    let held : CurrentCue := { c with position := c.position + 1, running := .paused 0 f }
    (l.stepped.worked cfg f zones).current = some { held.retarget zones with settle := false } ∧
      LevelsFormed cfg zones (c.retarget zones).listed true held.weight l.levels
        (l.stepped.worked cfg f zones).levels := by
  have stepped := current_stepped hc
  obtain ⟨settle, ran⟩ := step_of_run run
  have reached : min (c.position + 1) (c.length + 255) = c.position + 1 := by omega
  rw [ran, reached] at stepped
  exact worked_spec (congrArg Lane.current ((takeControl_of_single (l := l.stepped) single due current).trans
    (applyControl_of_hold stepped he run short)))

/-- R132: a HOLD due at the end or past it is ignored. -/
theorem worked_of_late_hold (he : e.kind = .hold) (run : c.running = .run)
    (ended : c.length ≤ min (c.position + 1) (c.length + 255)) :
    let moved : CurrentCue := { c with position := min (c.position + 1) (c.length + 255) }
    (l.stepped.worked cfg f zones).current = some { moved.retarget zones with settle := false } ∧
      (l.stepped.worked cfg f zones).counts.ignored = raise8 l.counts.ignored := by
  have stepped := current_stepped hc
  obtain ⟨settle, ran⟩ := step_of_run run
  rw [ran] at stepped
  have ignored := (takeControl_of_single (l := l.stepped) single due current).trans
    (applyControl_of_late_hold stepped he run ended)
  refine ⟨(worked_spec ((congrArg Lane.current ignored).trans stepped)).1, ?_⟩
  have count : (l.stepped.takeControl f).counts.ignored = raise8 (raise8By 0 l.counts.ignored) := by
    rw [ignored]
    rfl
  refine count.trans ?_
  simp only [raise8, raise8By]
  omega

/-- R132: a RELEASE due lets a paused cue run on from its position. -/
theorem worked_of_release (he : e.kind = .release) {age : Nat} {g : FrameNo} (paused : c.running = .paused age g) :
    let released : CurrentCue := { c with running := .run, runBase := c.position }
    (l.stepped.worked cfg f zones).current = some { released.retarget zones with settle := false } := by
  have stepped := current_stepped hc
  rw [step_of_paused paused] at stepped
  exact (worked_spec (congrArg Lane.current ((takeControl_of_single (l := l.stepped) single due current).trans
    (applyControl_of_release stepped he rfl)))).1

end WorkedCue

/-- Settles O47: the fade by its weight, and the edge by what it makes of a lane that starts no cue. -/
theorem fadeBetweenStartAndTarget : Obligations.FadeBetweenStartAndTarget := by
  refine ⟨fun c k n start target => ?fade, fun k k' n h => weight_linear_mono h n, fun a h => ?zone, by decide, by decide,
    followLevel_spec, ?edge⟩
  case fade =>
    obtain ⟨low, high⟩ := fadeLevel_between start target (weight_le c k n)
    exact ⟨weight_le c k n, low, high, fun h => by rw [weight_of_ended c h, fadeLevel_full], fadeLevel_zero start target⟩
  case zone =>
    show a * 16 + a / 256 ≤ 65535
    omega
  case edge =>
    intro s pins r cfg i hp hr hc hpins hn zones f
    have next : s.nextFrame = f := by simp [State.nextFrame, hr, f]
    have checked : (s.lanesChecked cfg).lane i = s.lane i :=
      lane_lanesChecked_of_unasked next (by simp [hn]) cfg
    have after := lane_edge_of_idle hp hpins pins checked (starting_of_unready (by simp [hn]) _)
    rw [next] at after
    refine ⟨_, exec_frameEdge hr hc pins, ?_⟩
    rw [after]
    refine ⟨fun e => mem_control_takeControl, fun c hcur => ?_⟩
    intro ends moved listed weight formed becomes
    exact ⟨fun empty => ⟨worked_of_run hcur cfg f zones empty, fun age g => worked_of_paused hcur cfg f zones empty⟩,
      fun e single due current => ⟨worked_of_hold hcur cfg zones single due current,
        worked_of_late_hold hcur cfg zones single due current,
        fun age g he paused => worked_of_release hcur cfg zones single due current he paused⟩⟩

end Sys2Proof.Machine

end

section
/-! SUPPORT. A HOLD or RELEASE delivered: the window, the lanes it addresses, and what it makes of each (R115, R116, R131, R134,
R135). -/

namespace Sys2Proof.Machine

open Sys2Proof

/-! ## Frames ahead and behind -/

/-- Of two frames one stands as far ahead as the other stands behind. -/
theorem framesAhead_swap (a b : FrameNo) :
    (framesAhead a b = 0 ∧ framesAhead b a = 0) ∨
      (1 ≤ framesAhead a b ∧ framesAhead a b + framesAhead b a = 65536) := by
  unfold framesAhead
  rw [BitVec.toNat_sub, BitVec.toNat_sub]
  have := a.isLt
  have := b.isLt
  omega

theorem later_iff {a b : FrameNo} : later a b = true ↔ 1 ≤ framesAhead a b ∧ framesAhead a b ≤ 32767 := by
  simp [later]

/-- R116: the window holds the frames up to 255 ahead or behind. -/
theorem inWindow_iff {e f : FrameNo} : inWindow e f = true ↔ framesAhead e f ≤ 255 ∨ 65281 ≤ framesAhead e f := by
  have swap := framesAhead_swap e f
  simp only [inWindow, moreLater, unordered, Bool.not_eq_true', Bool.or_eq_false_iff, Bool.and_eq_false_iff,
    decide_eq_false_iff_not]
  omega

/-! ## The order of a control list (R131) -/

/-- The place of an entry at current frame `f`: by its frame, and a HOLD ahead of a RELEASE of its frame. -/
def ControlEntry.rank (x : ControlEntry) (f : FrameNo) : Int :=
  2 * signedFrames x.execute f + match x.kind with | .hold => 0 | .release => 1

theorem before_iff_rank {f : FrameNo} {x y : ControlEntry} : x.before f y = true ↔ x.rank f < y.rank f := by
  obtain ⟨kx, ex⟩ := x
  obtain ⟨ky, ey⟩ := y
  cases kx <;> cases ky <;> simp [ControlEntry.before, ControlEntry.rank] <;> omega

theorem before_iff {f : FrameNo} {x y : ControlEntry} :
    x.before f y = true ↔
      (x.execute - f).toInt < (y.execute - f).toInt ∨ (x.execute = y.execute ∧ x.kind = .hold ∧ y.kind = .release) := by
  have same : (x.execute - f).toInt = (y.execute - f).toInt ↔ x.execute = y.execute := by
    rw [BitVec.toInt_inj, BitVec.sub_left_inj]
  simp only [ControlEntry.before, Bool.or_eq_true, Bool.and_eq_true, decide_eq_true_eq, and_assoc]
  rw [← same]
  rfl

/-- A list in order stays in order when an entry joins it. -/
theorem insertControl_sorted {f : FrameNo} (e : ControlEntry) {l : List ControlEntry}
    (h : l.Pairwise fun x y => x.rank f ≤ y.rank f) : (insertControl f e l).Pairwise fun x y => x.rank f ≤ y.rank f := by
  induction l with
  | nil => simp [insertControl]
  | cons x rest ih =>
    obtain ⟨first, hrest⟩ := List.pairwise_cons.mp h
    rw [insertControl]
    split
    · rename_i ahead
      have le : e.rank f ≤ x.rank f := Int.le_of_lt (before_iff_rank.mp ahead)
      refine List.pairwise_cons.mpr ⟨fun y hy => ?_, h⟩
      rcases List.mem_cons.mp hy with rfl | hy
      · exact le
      · exact Int.le_trans le (first y hy)
    · rename_i behind
      refine List.pairwise_cons.mpr ⟨fun y hy => ?_, ih hrest⟩
      rcases mem_insertControl.mp hy with rfl | hy
      · exact Int.not_lt.mp (mt before_iff_rank.mpr behind)
      · exact first y hy

/-! ## What the message makes of a lane -/

/-- R131: a lane that has taken a HOLD or RELEASE for frame `e` at current frame `f`. -/
def Lane.controlled (l : Lane) (f : FrameNo) (kind : ControlKind) (e : FrameNo) : Lane :=
  if later e f then l.joinControl f ⟨kind, e⟩
  else
    match kind with
    | .hold => l.lateHold e (framesAhead f e)
    | .release => l.lateRelease (framesAhead f e)

theorem laneControl_eq (s : State) (i : Fin 4) (kind : ControlKind) (e : FrameNo) :
    s.laneControl i kind e = s.setLane i ((s.lane i).controlled s.frame kind e) := by
  cases kind <;> rfl

section Controlled

variable {l : Lane} {f e : FrameNo}

theorem controlled_of_ahead (kind : ControlKind) (h : 1 ≤ framesAhead e f) (h' : framesAhead e f ≤ 255) :
    l.controlled f kind e = l.joinControl f ⟨kind, e⟩ := if_pos (later_iff.mpr (by omega))

theorem joinControl_of_ignored {x : ControlEntry} (h : x ∈ l.control ∨ 4 ≤ l.control.length) :
    l.joinControl f x = l.ignore := if_pos (by simpa using h)

theorem joinControl_of_new {x : ControlEntry} (h : x ∉ l.control) (h' : l.control.length < 4) :
    l.joinControl f x = { l with control := insertControl f x l.control } :=
  if_neg (by simpa [h] using h')

variable (past : framesAhead e f = 0 ∨ 65281 ≤ framesAhead e f)

include past

theorem not_later_of_past : later e f = false := by
  refine Bool.eq_false_of_not_eq_true fun h => ?_
  have := later_iff.mp h
  omega

theorem controlled_hold_of_past : l.controlled f .hold e = l.lateHold e (framesAhead f e) :=
  if_neg (by simp [not_later_of_past past])

theorem controlled_release_of_past : l.controlled f .release e = l.lateRelease (framesAhead f e) :=
  if_neg (by simp [not_later_of_past past])

theorem behind_le_of_past : framesAhead f e ≤ 255 := by
  have := framesAhead_swap e f
  omega

end Controlled

/-- R131: a new entry joins a list with room behind those it does not come before, and leaves the list in order. -/
theorem joinControl_in_order {l : Lane} {f : FrameNo} {x : ControlEntry} (new : x ∉ l.control)
    (room : l.control.length < 4) :
    ∃ before behind, l.control = before ++ behind ∧
      l.joinControl f x = { l with control := before ++ x :: behind } ∧ (∀ y ∈ before, ¬ x.before f y = true) ∧
      (∀ y ∈ behind.head?, x.before f y = true) ∧
      (l.control.Pairwise (fun y z => ¬ z.before f y = true) →
        (before ++ x :: behind).Pairwise fun y z => ¬ z.before f y = true) := by
  obtain ⟨before, behind, split, inserted, ahead, first⟩ := insertControl_split f x l.control
  refine ⟨before, behind, split, ?_, fun y hy => by simp [ahead y hy], first, fun sorted => ?_⟩
  · rw [joinControl_of_new new room, inserted]
  · simp only [before_iff_rank, Int.not_lt] at sorted ⊢
    rw [← inserted]
    exact insertControl_sorted x sorted

section Late

variable {l : Lane} {e : FrameNo} {k : Nat}

theorem lateHold_of_empty (h : l.current = none) : l.lateHold e k = l.ignore := by
  simp [Lane.lateHold, h]

theorem lateRelease_of_empty (h : l.current = none) : l.lateRelease k = l.ignore := by
  simp [Lane.lateRelease, h]

variable {c : CurrentCue} (hc : l.current = some c)

include hc

theorem lateHold_of_paused {age : Nat} {g : FrameNo} (hr : c.running = .paused age g) : l.lateHold e k = l.ignore := by
  simp [Lane.lateHold, hc, hr]

/-- R134: a HOLD of a cue that did not run at its frame, or stood past its end there. -/
theorem lateHold_of_missed (hr : c.running = .run) (h : c.position - c.runBase < k ∨ c.length ≤ c.position - k) :
    l.lateHold e k = l.ignore := by
  have missed : ¬ (k ≤ c.position - c.runBase ∧ c.position - k < c.length) := by omega
  simp [Lane.lateHold, hc, hr, missed]

theorem lateHold_of_run (hr : c.running = .run) (ran : k ≤ c.position - c.runBase) (short : c.position - k < c.length)
    (hk : k ≤ 255) :
    l.lateHold e k =
      { l with current := some { c with position := c.position - k, running := .paused k e, settle := false } } := by
  simp [Lane.lateHold, hc, hr, ran, short, hk]

theorem lateRelease_of_run (hr : c.running = .run) : l.lateRelease k = l.ignore := by
  simp [Lane.lateRelease, hc, hr]

variable {age : Nat} {g : FrameNo} (hr : c.running = .paused age g)

include hr

theorem lateRelease_of_later_pause (h : age < k) : l.lateRelease k = l.ignore := by
  simp [Lane.lateRelease, hc, hr, h]

theorem lateRelease_of_paused (h : k ≤ age) :
    l.lateRelease k =
      { l with
        current :=
          some
            { c with
              position := min (c.position + k) (c.length + 255)
              runBase := c.position
              running := .run
              settle := decide (c.length ≤ min (c.position + k) (c.length + 255)) } } := by
  simp [Lane.lateRelease, hc, hr, h]

end Late

/-! ## The delivery -/

/-- What a HOLD or RELEASE asks for, as a message says it. -/
def ControlKind.asked : ControlKind → CueKind
  | .hold => .hold
  | .release => .release

/-- A HOLD or RELEASE received. -/
def ControlKind.received (kind : ControlKind) (m : LinkMessage) : Instr :=
  match kind with
  | .hold => .holdReceived m
  | .release => .releaseReceived m

theorem exec_control {s : State} {m : LinkMessage} (kind : ControlKind) (hr : s.receives = true)
    (hl : m.payload.length = 5) :
    exec (kind.received m) s =
      .next ((s.firstStep m none false).deliverCue (readControl kind.asked m.payload) m.origin.castSucc) := by
  cases kind with
  | hold => exact congrArg Host.Outcome.next (receive_of_fits hr (by decide) (by exact hl) _)
  | release => exact congrArg Host.Outcome.next (receive_of_fits hr (by decide) (by exact hl) _)

/-- Nothing but the four lanes may differ. -/
structure LanesOnly (s t : State) : Prop where
  eq : t = { s with lanes := { s.lanes with lanes := t.lanes.lanes } }

theorem LanesOnly.refl (s : State) : LanesOnly s s := ⟨rfl⟩

theorem LanesOnly.trans {a b c : State} (h : LanesOnly a b) (k : LanesOnly b c) : LanesOnly a c := by
  refine ⟨k.eq.trans ?_⟩
  rw [h.eq]

theorem fieldAt_one_lt (bytes : List Byte) (k : Nat) : fieldAt bytes k 1 < 256 := by
  simp [fieldAt, bigEndian]
  omega

/-- R115: the lanes a HOLD or RELEASE addresses. -/
theorem mem_addressedLanes {s : State} {kind : CueKind} {bytes : List Byte} {i : Fin 4} :
    i ∈ s.addressedLanes (readControl kind bytes) ↔
      ∃ cfg p, s.config = some cfg ∧ (s.lane i).binding = some p ∧ p.val = fieldAt bytes 0 1 ∧
        BitVec.ofNat 16 (fieldAt bytes 1 2) &&& cfg.groups ≠ 0 := by
  have byte : (readControl kind bytes).playback.toNat = fieldAt bytes 0 1 :=
    Nat.mod_eq_of_lt (fieldAt_one_lt bytes 0)
  unfold State.addressedLanes Lane.addressedBy
  rw [byte]
  cases s.config with
  | none => simp
  | some cfg =>
    cases hb : (s.lane i).binding with
    | none => simp [hb]
    | some p =>
      simp only [List.mem_filter, mem_laneIndices, hb, Bool.and_eq_true, decide_eq_true_eq, Option.some.injEq, true_and]
      exact ⟨fun ⟨hp, hg⟩ => ⟨cfg, p, rfl, rfl, hp, hg⟩, by rintro ⟨_, _, rfl, rfl, hp, hg⟩; exact ⟨hp, hg⟩⟩

theorem addressedLanes_nodup (s : State) (m : CueMessage) : (s.addressedLanes m).Nodup := by
  unfold State.addressedLanes
  split
  · exact List.nodup_nil
  · exact laneIndices_nodup.filter _

section Delivered

variable {s : State} (kind : ControlKind) (bytes : List Byte) (o : Origin)

theorem deliverCue_of_control (hr : s.isRunning = true)
    (hw : inWindow (readControl kind.asked bytes).execute s.frame = true) :
    s.deliverCue (readControl kind.asked bytes) o =
      (s.addressedLanes (readControl kind.asked bytes)).foldl
        (fun t i => t.laneControl i kind (readControl kind.asked bytes).execute) s := by
  have valid : (readControl kind.asked bytes).kind.invalidCue = false := by cases kind <;> rfl
  have taken (t : State) (i : Fin 4) : t.laneTakes i (readControl kind.asked bytes) o =
      t.laneControl i kind (readControl kind.asked bytes).execute := by cases kind <;> rfl
  unfold State.deliverCue
  cases ha : s.addressedLanes (readControl kind.asked bytes) with
  | nil => simp [hr]
  | cons i rest => simp [hr, valid, hw, taken]

theorem laneControls_only (l : List (Fin 4)) (e : FrameNo) : LanesOnly s (l.foldl (fun t i => t.laneControl i kind e) s) :=
  foldl_frame LanesOnly _ .refl (fun _ _ _ => .trans) (fun _ _ => ⟨rfl⟩) l s

/-- R131: a lane once each of some lanes has taken the message. -/
theorem lane_laneControls {l : List (Fin 4)} (hl : l.Nodup) (e : FrameNo) (i : Fin 4) :
    (l.foldl (fun t i => t.laneControl i kind e) s).lane i =
      if i ∈ l then (s.lane i).controlled s.frame kind e else s.lane i := by
  have beside (t : State) (k : Fin 4) (hk : i ≠ k) : Beside i t (t.laneControl k kind e) := setLane_beside hk t _
  split
  · obtain ⟨v, before, after⟩ := foldl_around beside hl ‹i ∈ l› s
    rw [after.lane, laneControl_eq, lane_setLane, before.lane, before.frame]
  · exact (foldl_beside beside ‹i ∉ l› s).lane

end Delivered

/-- Settles O28: the window, then each lane addressed by the frame of the message. -/
theorem controlTaken : Obligations.ControlTaken := by
  intro s m kind hrec hlen hind command execute addressed d k e after comes
  have delivered : exec command s = .next (after.deliverCue (readControl kind.asked m.payload) m.origin.castSucc) := by
    have h := exec_control kind hrec hlen
    cases kind <;> exact h
  obtain ⟨t, l, p, hafter⟩ : ∃ t l p, after = ((s.setTick t).setLink l).setPeers p := firstStep_of_indifferent hind _
  clear_value after
  subst hafter
  set u := ((s.setTick t).setLink l).setPeers p with hu
  have hr : u.isRunning = true := isRunning_of_receives (s := s) hrec
  have addressing (i : Fin 4) : i ∈ u.addressedLanes (readControl kind.asked m.payload) ↔ addressed i := mem_addressedLanes
  have order (x y : ControlEntry) : comes x y ↔ x.before s.frame y = true := before_iff.symm
  rw [delivered]
  have someone (h : ∃ i, addressed i) : u.addressedLanes (readControl kind.asked m.payload) ≠ [] := fun nil => by
    obtain ⟨i, hi⟩ := h
    exact absurd ((addressing i).mpr hi) (by simp [nil])
  refine ⟨fun nobody => ?_, fun some low high => ?_, fun some within => ?_⟩
  · exact congrArg _ (deliverCue_of_unaddressed hr
      (List.eq_nil_iff_forall_not_mem.mpr fun i hi => nobody i ((addressing i).mp hi)))
  · exact congrArg _ (deliverCue_of_outside hr (someone some) (by cases kind <;> rfl)
      (Bool.eq_false_of_not_eq_true fun h => by
        have inside : d ≤ 255 ∨ 65281 ≤ d := inWindow_iff.mp h
        omega))
  · refine ⟨_, congrArg _ (deliverCue_of_control kind m.payload _ hr (inWindow_iff.mpr within)),
      (laneControls_only (s := u) kind _ execute).eq, fun i => ?_⟩
    intro lane ignored
    have taken := lane_laneControls (s := u) kind (addressedLanes_nodup u (readControl kind.asked m.payload)) execute i
    have reached (hi : addressed i) := taken.trans (if_pos ((addressing i).mpr hi))
    refine ⟨fun hi => taken.trans (if_neg (mt (addressing i).mp hi)), fun hi low high => ?_, fun hi past hk => ?_,
      fun hi past hk => ?_⟩
    · have joined := (reached hi).trans (controlled_of_ahead kind low high)
      refine ⟨fun listed => joined.trans (joinControl_of_ignored listed), fun new room => ?_⟩
      obtain ⟨before, behind, split, inserted, placed⟩ := joinControl_in_order (f := s.frame) new room
      simp only [order]
      exact ⟨before, behind, split, joined.trans inserted, placed⟩
    · subst hk
      have held := (reached hi).trans (controlled_hold_of_past past)
      refine ⟨fun hc => held.trans (lateHold_of_empty hc), fun c hc =>
        ⟨fun age g hp => held.trans (lateHold_of_paused hc hp), fun hrun =>
          ⟨fun missed => held.trans (lateHold_of_missed hc hrun missed), fun ran short =>
            held.trans (lateHold_of_run hc hrun ran short (behind_le_of_past past))⟩⟩⟩
    · subst hk
      have released := (reached hi).trans (controlled_release_of_past past)
      exact ⟨fun hc => released.trans (lateRelease_of_empty hc), fun c hc =>
        ⟨fun hrun => released.trans (lateRelease_of_run hc hrun), fun age g hp =>
          ⟨fun h => released.trans (lateRelease_of_later_pause hc hp h), fun h =>
            released.trans (lateRelease_of_paused hc hp h)⟩⟩⟩

end Sys2Proof.Machine

end

section
/-! SUPPORT. A fetch that fails: at its completion, at its timeout, and at an edge (R103, R106, R120, R121). -/

namespace Sys2Proof.Machine

open Sys2Proof

/-! ## FETCH_TIMEOUT (R106) -/

theorem lane_of_dueTimeout {s : State} {i : Fin 4} {q : FetchRequest} (h : s.dueTimeout i = some q) : q.lane = i := by
  unfold State.dueTimeout at h
  split at h
  · cases h
  · have found := List.find?_some h
    simp only [Bool.and_eq_true, decide_eq_true_eq] at found
    exact found.1

/-- R106, R120: the request of a GO times out. -/
theorem exec_fetchTimeout_of_due {s : State} {p : PendingGo} {q : FetchRequest} {i : Fin 4} (hq : s.dueTimeout i = some q)
    (hp : (s.lane i).pending = some p) (ha : p.fetch = .asked) (hc : q.cue = p.cue) (he : q.execute = p.execute) :
    exec (.fetchTimeout i) s =
      .next ((s.setFetch
        { s.fetch with
          queue := s.fetch.queue.filter fun x => decide (x.lane ≠ i)
          counters := { s.fetch.counters with timeout := raise16 s.fetch.counters.timeout } }).setLane i
        (s.lane i).failPending) := by
  have hl := lane_of_dueTimeout hq
  subst hl
  refine congrArg Host.Outcome.next ?_
  rw [hq, ← takeFailure_of_asked hp ha, ← hc, ← he]
  rfl

/-! ## FETCH_COMPLETE (R103) -/

/-- R103: the state once a failure is counted and handed to its lane, before the port is given anew. -/
def State.failureHanded (s : State) (i : Fin 4) (u : Fetch) : State :=
  (s.setFetch { u with flight := none, port := .none }).setLane i (s.lane i).failPending

theorem exec_fetchComplete_of_failure {s : State} {fl : Flight} {p : PendingGo} {o : FetchOutcome}
    (hf : s.fetch.flight = some fl) (ho : fetchOutcome s.showMemory fl.request.playback fl.request.cue = o)
    (hn : ∀ record, o ≠ .done record) (hp : (s.lane fl.request.lane).pending = some p) (ha : p.fetch = .asked)
    (hc : fl.request.cue = p.cue) (he : fl.request.execute = p.execute) :
    exec .fetchComplete s =
      .next (s.failureHanded fl.request.lane (s.fetch.countOutcome fl.request o)).choosePort := by
  refine congrArg Host.Outcome.next ?_
  unfold State.completeFetch State.failureHanded
  rw [hf]
  dsimp only
  rw [ho, ← takeFailure_of_asked hp ha, ← hc, ← he]
  cases o with
  | done record => exact absurd rfl (hn record)
  | notFound => rfl
  | badRecord reason => rfl

/-- R105: the choice of the port counts no failure. -/
theorem choosePort_failures (s : State) :
    s.choosePort.fetch.counters.notFound = s.fetch.counters.notFound ∧
      s.choosePort.fetch.counters.badRecord = s.fetch.counters.badRecord := by
  apply choosePort_cases (p := fun t => t.fetch.counters.notFound = s.fetch.counters.notFound ∧
    t.fetch.counters.badRecord = s.fetch.counters.badRecord)
  case first => exact fun _ _ _ => ⟨rfl, rfl⟩
  all_goals exact fun _ => ⟨rfl, rfl⟩

theorem choosePort_failureHanded (s : State) (i : Fin 4) (u : Fetch) :
    (s.failureHanded i u).choosePort =
      { s with
        lanes := { s.lanes with lanes := s.lanes.lanes.set i.val (s.lane i).failPending i.isLt }
        fetch := (s.failureHanded i u).choosePort.fetch } := by
  have frame := (choosePort_frame (s.failureHanded i u)).same (s.failureHanded i u).choosePort.fetch
  rwa [setFetch_same] at frame

/-! ## A GO outside the window at an edge (R121) -/

theorem lanesTurn_sound {s : State} (sound : s.PortSound) (c : Config) : (s.lanesTurn c).PortSound :=
  (fetchEdge_showKept (s.beforeFetch c) c).port (portSound_of_fetch (beforeFetch_spec s c).fetch sound)

/-- R106: with a request of the lane timed out, the lane has none. -/
theorem unasked_lanesTurn {s : State} {c : Config} {i : Fin 4} {r : FetchRequest} (sound : s.PortSound)
    (hr : r ∈ s.fetch.dueAt c) (hl : r.lane = i) : i ∉ (s.lanesTurn c).fetch.requesting := by
  obtain ⟨-, -, apart⟩ := sound
  have queued : i ∈ s.fetch.queue.map fun x => x.lane := by
    obtain ⟨x, hx, rfl⟩ := List.mem_map.mp (List.mem_of_mem_filter hr)
    exact List.mem_map.mpr ⟨x, hx, hl⟩
  rw [fetch_lanesTurn]
  refine not_mem_requesting.mpr ⟨fun fl hfl he => ?_, fun x hx he => ?_⟩
  · have flying : i ∈ s.fetch.flight.toList.map fun fl => fl.request.lane :=
      List.mem_map.mpr ⟨fl, Option.mem_toList.mpr hfl, he⟩
    exact (List.nodup_append.mp apart).2.2 i flying i queued rfl
  · have others := (List.mem_filter.mp hx).2
    simp only [decide_eq_true_eq] at others
    exact others (List.mem_map.mpr ⟨r, hr, hl.trans he.symm⟩)

section OldGo

variable {s : State} {c : Config} {i : Fin 4} {p : PendingGo} (hp : (s.lane i).pending = some p)
  (old : tooOld p.execute s.nextFrame = true)

include hp old

/-- R120, R121: timeout or check, the GO is dropped and counted once. -/
theorem lane_lanesChecked_of_old : (s.lanesChecked c).lane i = (s.lane i).failPending := by
  rw [lane_lanesChecked]
  rcases takeTimeouts_cases (s.lane i) ((s.fetch.dueAt c).filter fun r => decide (r.lane = i)) with h | h <;> rw [h]
  · exact dropOld_of_old hp old
  · exact dropOld_of_current (l := (s.lane i).failPending) nofun

/-- R107, R121: and it leaves no request. -/
theorem unasked_lanesChecked_of_old (sound : s.PortSound) : i ∉ (s.lanesChecked c).fetch.requesting := by
  obtain ⟨v, before, after⟩ := oldDropped_around (s.lanesTurn c) i
  refine after.unasked ?_
  by_cases due : ∃ r ∈ s.fetch.dueAt c, r.lane = i
  · obtain ⟨r, hr, hl⟩ := due
    exact unasked_dropOldPending (before.unasked (unasked_lanesTurn sound hr hl)) i _
  · have none_due : (s.fetch.dueAt c).filter (fun r => decide (r.lane = i)) = [] := by simpa using due
    have standing : v.lane i = s.lane i := by
      rw [before.lane, lane_lanesTurn, none_due]
      rfl
    rw [(lanesTurn_frame s c).frame, (beforeFetch_spec s c).frame]
    exact unasked_dropOldPending_of_old (by rw [standing, hp]) old (before.port (lanesTurn_sound sound c))

end OldGo

/-- R104: a lane that starts no cue hands no request by its work, and no other hands one for it. -/
theorem unasked_lanesWorked {s : State} {i : Fin 4} (h : i ∉ s.fetch.requesting)
    (idle : (s.lane i).starting s.frame = none) (c : Config) (merged : Vector Nat 36) (zones : Vector Rgb 8) :
    i ∉ (s.lanesWorked c merged zones).fetch.requesting := by
  obtain ⟨v, before, after⟩ := lanesWorked_around s c merged zones i
  refine after.unasked ?_
  rw [laneEdge_of_idle c merged zones (by rw [before.lane]; exact idle)]
  exact before.unasked h

/-! ## Requests that time out at an edge (R106) -/

/-- The work of lanes that start no cue: the fetch unit, the owners and every pending GO are as they were. -/
structure Still (s t : State) : Prop extends LanesAndFetch s t where
  fetch : t.fetch = s.fetch
  owners : t.lanes.owners = s.lanes.owners
  pending : ∀ k, (t.lane k).pending = (s.lane k).pending

theorem Still.refl (s : State) : Still s s := ⟨.refl s, rfl, rfl, fun _ => rfl⟩

theorem Still.trans {a b c : State} (h : Still a b) (k : Still b c) : Still a c :=
  ⟨.trans _ _ _ h.toLanesAndFetch k.toLanesAndFetch, k.fetch.trans h.fetch, k.owners.trans h.owners,
    fun i => (k.pending i).trans (h.pending i)⟩

theorem starting_congr {l m : Lane} (h : m.pending = l.pending) (f : FrameNo) : m.starting f = l.starting f := by
  unfold Lane.starting
  rw [h]

section StillWork

variable (c : Config) (merged : Vector Nat 36) (zones : Vector Rgb 8)

theorem laneEdge_still {s : State} {i : Fin 4} {f : FrameNo} (h : (s.lane i).starting f = none) :
    Still s (s.laneEdge c f merged zones i) := by
  rw [laneEdge_of_idle c merged zones h]
  refine ⟨setLane_frame .., rfl, rfl, fun k => ?_⟩
  by_cases hk : k = i
  · subst hk
    rw [lane_setLane, pending_worked]
    rfl
  · rw [lane_setLane_of_ne s hk]

theorem foldl_laneEdge_still {l : List (Fin 4)} {s : State} (h : ∀ i ∈ l, (s.lane i).starting s.frame = none) :
    Still s (l.foldl (fun s i => s.laneEdge c s.frame merged zones i) s) := by
  induction l generalizing s with
  | nil => exact .refl s
  | cons i rest ih =>
    have once := laneEdge_still c merged zones (h i List.mem_cons_self)
    refine once.trans (ih fun k hk => ?_)
    rw [once.frame, starting_congr (once.pending k)]
    exact h k (List.mem_cons_of_mem _ hk)

end StillWork

theorem length_dueAt (u : Fetch) (c : Config) :
    (u.dueAt c).length = u.queue.countP fun x => decide (c.fetchTimeout ≤ x.wait + 1) := by
  simp [Fetch.dueAt, Fetch.waited, List.filter_map, List.countP_eq_length_filter, Function.comp_def]

section OneRequest

variable {u : Fetch} (apart : (u.queue.map fun x => x.lane).Nodup) (c : Config)

include apart

/-- R104, R106: with no two requests of one lane, a lane has a request that is due exactly where its own is. -/
theorem mem_lanes_dueAt {x : FetchRequest} (hx : x ∈ u.queue) :
    x.lane ∈ (u.dueAt c).map (fun r => r.lane) ↔ c.fetchTimeout ≤ x.wait + 1 := by
  simp only [Fetch.dueAt, Fetch.waited, List.mem_map, List.mem_filter, decide_eq_true_eq]
  constructor
  · rintro ⟨_, ⟨⟨y, hy, rfl⟩, due⟩, hl⟩
    have same : y = x := List.inj_on_of_nodup_map apart hy hx hl
    exact same ▸ due
  · exact fun due => ⟨_, ⟨⟨x, hx, rfl⟩, due⟩, rfl⟩

theorem queue_left :
    (u.waited.filter fun x => decide (x.lane ∉ (u.dueAt c).map fun r => r.lane)) =
      (u.queue.filter fun x => decide (x.wait + 1 < c.fetchTimeout)).map fun x => { x with wait := x.wait + 1 } := by
  rw [Fetch.waited, List.filter_map]
  refine congrArg _ (List.filter_congr fun x hx => ?_)
  show decide (x.lane ∉ _) = _
  rw [decide_eq_decide, mem_lanes_dueAt apart c hx, Nat.not_le]

end OneRequest

section Timeouts

variable {s : State} {c : Config} {x : FetchRequest} {p : PendingGo} (hx : x ∈ s.fetch.queue)
  (hp : (s.lane x.lane).pending = some p)

include hx hp

/-- R106: a GO whose request has not reached T_f waits on. -/
theorem lane_lanesChecked_of_waiting (apart : (s.fetch.queue.map fun x => x.lane).Nodup)
    (current : tooOld p.execute s.nextFrame = false) (h : x.wait + 1 < c.fetchTimeout) :
    (s.lanesChecked c).lane x.lane = s.lane x.lane := by
  have none_due : (s.fetch.dueAt c).filter (fun r => decide (r.lane = x.lane)) = [] := by
    rw [List.filter_eq_nil_iff]
    intro r hr hl
    have due := (mem_lanes_dueAt apart c hx).mp (List.mem_map.mpr ⟨r, hr, by simpa using hl⟩)
    omega
  rw [lane_lanesChecked, none_due]
  refine dropOld_of_current fun q hq => ?_
  cases hp.symm.trans hq
  exact current

/-- R106, R120: a GO whose request reaches T_f is dropped and counted. -/
theorem lane_lanesChecked_of_due (ha : p.fetch = .asked) (hc : x.cue = p.cue) (he : x.execute = p.execute)
    (h : c.fetchTimeout ≤ x.wait + 1) : (s.lanesChecked c).lane x.lane = (s.lane x.lane).failPending := by
  have due : { x with wait := x.wait + 1 } ∈ (s.fetch.dueAt c).filter fun r => decide (r.lane = x.lane) := by
    refine List.mem_filter.mpr ⟨List.mem_filter.mpr ⟨List.mem_map.mpr ⟨x, hx, rfl⟩, decide_eq_true h⟩, decide_eq_true rfl⟩
  rw [lane_lanesChecked, takeTimeouts_of_mem hp ha due hc he]
  exact dropOld_of_current (l := (s.lane x.lane).failPending) nofun

end Timeouts

/-- R106: with every pending GO asked for and inside the window, the fetch unit after an edge at which no pin forms a message
is as the timeouts leave it. -/
theorem fetch_edge_of_asked {s : State} {c : Config} (hr : s.startup.phase = .running)
    (hpins : ∀ k, (c.pins.get k).function = .none) (pins : BitVec 8)
    (asked : ∀ k p, (s.lane k).pending = some p → p.fetch = .asked ∧ tooOld p.execute s.nextFrame = false) :
    (s.edge c pins).fetch = (s.lanesTurn c).fetch := by
  have kept (k : Fin 4) (p : PendingGo) (h : ((s.lanesTurn c).lane k).pending = some p) : (s.lane k).pending = some p := by
    rw [lane_lanesTurn] at h
    rcases takeTimeouts_cases (s.lane k) ((s.fetch.dueAt c).filter fun r => decide (r.lane = k)) with e | e <;> rw [e] at h
    · exact h
    · cases h
  have frame : (s.lanesTurn c).frame = s.nextFrame := (lanesTurn_frame s c).frame.trans (beforeFetch_spec s c).frame
  have checked : s.lanesChecked c = s.lanesTurn c :=
    oldDropped_of_current fun k p h => by rw [frame]; exact (asked k p (kept k p h)).2
  have still : Still (s.lanesTurn c) (s.lanesAfter c) := by
    rw [State.lanesAfter, checked]
    exact foldl_laneEdge_still c _ _ fun k _ => starting_of_unready (fun p h => (asked k p (kept k p h)).1) _
  rw [fetch_edge hr hpins, still.fetch]

/-- Settles O43: the two rows by the failure they hand, a GO outside the window by the check at the edge, the rest by the
timeouts of the edge. -/
theorem failedFetchDropsPendingGo : Obligations.FailedFetchDropsPendingGo := by
  refine ⟨fun s i p hp ha => ?rows, fun s pins r cfg i p hrun hr hc sound hpins hp old => ?window,
    fun s pins r cfg hrun hr hc sound hpins asked => ?edge⟩
  case rows =>
    refine ⟨rfl, fun q hq hcue he => exec_fetchTimeout_of_due hq hp ha hcue he, fun fl hf hl hcue he => ?_⟩
    subst hl
    refine ⟨fun ho => ?_, fun reason ho => ?_⟩
    · refine ⟨_, exec_fetchComplete_of_failure hf ho nofun hp ha hcue he, choosePort_failureHanded .., ?_⟩
      rw [(choosePort_failures _).1]
      rfl
    · refine ⟨_, exec_fetchComplete_of_failure hf ho nofun hp ha hcue he, choosePort_failureHanded .., ?_, ?_⟩
      · rw [(choosePort_failures _).2]
        rfl
      · rw [(choosePort_outcomes _).2]
        rfl
  case window =>
    have next : s.nextFrame = r.nextNumber := by simp [State.nextFrame, hr]
    rw [← next] at old
    have checked := lane_lanesChecked_of_old (c := cfg) hp old
    have idle : (s.lane i).failPending.starting s.nextFrame = none := starting_of_unready (l := (s.lane i).failPending) nofun _
    have unasked : i ∉ (s.edge cfg pins).fetch.requesting := by
      rw [fetch_edge hrun hpins, State.lanesAfter]
      refine unasked_lanesWorked (unasked_lanesChecked_of_old hp old sound) ?_ _ _ _
      rw [checked, frame_lanesChecked]
      exact idle
    obtain ⟨flying, queued⟩ := not_mem_requesting.mp unasked
    refine ⟨_, exec_frameEdge hr hc pins, ?_, ?_, ?_, queued, flying⟩ <;>
      rw [lane_edge_of_idle hrun hpins pins checked idle]
    · exact pending_worked ..
    · exact failure_worked ..
    · exact start_worked ..
  case edge =>
    have next : s.nextFrame = r.nextNumber := by simp [State.nextFrame, hr]
    rw [← next] at asked
    have apart : (s.fetch.queue.map fun x => x.lane).Nodup := (List.nodup_append.mp sound.2.2).2.1
    refine ⟨_, exec_frameEdge hr hc pins, ?_, fun x hx p hp hcue he => ?_⟩
    · rw [fetch_edge_of_asked hrun hpins pins asked, fetch_lanesTurn, queue_left apart, length_dueAt]
      rfl
    · obtain ⟨ha, current⟩ := asked _ p hp
      refine ⟨fun waits => ?_, fun due => ?_⟩
      · have checked := lane_lanesChecked_of_waiting hx hp apart current waits
        have idle := starting_of_unready (fun q hq => (asked x.lane q hq).1) s.nextFrame
        rw [lane_edge_of_idle hrun hpins pins checked idle, pending_worked]
        exact hp
      · have checked := lane_lanesChecked_of_due hx hp ha hcue he due
        have idle := starting_of_unready (l := (s.lane x.lane).failPending) nofun s.nextFrame
        rw [lane_edge_of_idle hrun hpins pins checked idle, pending_worked, failure_worked]
        exact ⟨rfl, rfl⟩

end Sys2Proof.Machine

end

section
/-! SUPPORT. The start of a cue: what it takes up, its follow cue, and the lanes that start one at an edge (R122 to R124, R127,
R130, R136). -/

namespace Sys2Proof.Machine

open Sys2Proof

/-! ## Entries written one after another -/

/-- After a run of writes an entry is as it was, none of them having written it, or one of those that wrote it stands. -/
theorem get_foldl_set {α β : Type} {n : Nat} (at_ : β → Fin n) (value : β → α) (l : List β) (v : Vector α n) (j : Fin n) :
    ((∀ x ∈ l, at_ x ≠ j) ∧ (l.foldl (fun v x => v.set (at_ x).val (value x) (at_ x).isLt) v).get j = v.get j) ∨
      ∃ x ∈ l, at_ x = j ∧ (l.foldl (fun v x => v.set (at_ x).val (value x) (at_ x).isLt) v).get j = value x := by
  induction l generalizing v with
  | nil => exact .inl ⟨nofun, rfl⟩
  | cons x rest ih =>
    rw [List.foldl_cons]
    rcases ih (v.set (at_ x).val (value x) (at_ x).isLt) with ⟨none, kept⟩ | ⟨y, hy, hj, stands⟩
    · by_cases hx : at_ x = j
      · refine .inr ⟨x, List.mem_cons_self, hx, kept.trans ?_⟩
        subst hx
        exact get_set_same ..
      · exact .inl ⟨List.forall_mem_cons.mpr ⟨hx, none⟩, kept.trans (get_set_of_ne _ (Ne.symm hx) _)⟩
    · exact .inr ⟨y, List.mem_cons_of_mem _ hy, hj, stands⟩

/-! ## The channels of a cue (R123, R124) -/

section Listed

variable {listed : List Listed} {ch : Fin 36}

theorem owner_of_listed {owners : Vector (Option (Fin 4)) 36} {i : Fin 4} (h : ∃ x ∈ listed, x.channel = ch) :
    (ownChannels owners i listed).get ch = some i := by
  obtain ⟨x, hx, hc⟩ := h
  rcases get_foldl_set Listed.channel (fun _ => some i) listed owners ch with ⟨none, -⟩ | ⟨-, -, -, stands⟩
  · exact absurd hc (none x hx)
  · exact stands

theorem owner_of_unlisted {owners : Vector (Option (Fin 4)) 36} {i : Fin 4} (h : ∀ x ∈ listed, x.channel ≠ ch) :
    (ownChannels owners i listed).get ch = owners.get ch := by
  rcases get_foldl_set Listed.channel (fun _ => some i) listed owners ch with ⟨-, kept⟩ | ⟨x, hx, hc, -⟩
  · exact kept
  · exact absurd hc (h x hx)

theorem touched_of_listed {levels : Vector (Option LaneLevel) 36} (h : ∃ x ∈ listed, x.channel = ch) :
    ∃ x ∈ listed, x.channel = ch ∧ (touchChannels levels listed).get ch = some ⟨x.snapshot, x.source⟩ := by
  obtain ⟨x, hx, hc⟩ := h
  rcases get_foldl_set Listed.channel (fun x => some (⟨x.snapshot, x.source⟩ : LaneLevel)) listed levels ch with
    ⟨none, -⟩ | stands
  · exact absurd hc (none x hx)
  · exact stands

theorem touched_of_unlisted {levels : Vector (Option LaneLevel) 36} (h : ∀ x ∈ listed, x.channel ≠ ch) :
    (touchChannels levels listed).get ch = levels.get ch := by
  rcases get_foldl_set Listed.channel (fun x => some (⟨x.snapshot, x.source⟩ : LaneLevel)) listed levels ch with
    ⟨-, kept⟩ | ⟨x, hx, hc, -⟩
  · exact kept
  · exact absurd hc (h x hx)

end Listed

section Started

variable (p : PendingGo) (r : CueRecord) (f : FrameNo) (merged : Vector Nat 36) (zones : Vector Rgb 8)

theorem mem_startedCue_listed {x : Listed} :
    x ∈ (startedCue p r f merged zones).listed ↔
      ∃ e ∈ r.entries, x = ⟨e.channel, e.source, merged.get e.channel, e.source.target zones⟩ := by
  simp [startedCue, eq_comm]

theorem listed_startedCue_iff {ch : Fin 36} :
    (∃ x ∈ (startedCue p r f merged zones).listed, x.channel = ch) ↔ ∃ e ∈ r.entries, e.channel = ch := by
  simp [startedCue]

theorem unlisted_startedCue_iff {ch : Fin 36} :
    (∀ x ∈ (startedCue p r f merged zones).listed, x.channel ≠ ch) ↔ ∀ e ∈ r.entries, e.channel ≠ ch := by
  simp [startedCue]

theorem retarget_startedCue : (startedCue p r f merged zones).retarget zones = startedCue p r f merged zones := by
  simp [CurrentCue.retarget, startedCue]

/-- R127: a cue forms its channels at the edge that starts it, before its end or at it. -/
theorem fades_startedCue : (startedCue p r f merged zones).fades = true := by
  show (decide (r.delay + r.fade ≤ framesAhead f p.execute) || decide (framesAhead f p.execute < r.delay + r.fade)) = true
  rw [← Bool.decide_or, decide_eq_true_eq]
  omega

end Started

/-! ## A cue taken up (R123, R124) -/

/-- R123, R124: the state once a cue is taken up, before its follow cue is scheduled. -/
def State.cueTaken (s : State) (i : Fin 4) (c : CurrentCue) : State :=
  let l := s.lane i
  { s with
    lanes :=
      { s.lanes with
        lanes :=
          s.lanes.lanes.set i.val
            { l with
              current := some c
              pending := none
              levels := touchChannels l.levels c.listed
              counts :=
                { l.counts with
                  start := raise8 l.counts.start
                  catchUp := if c.position = 0 then l.counts.catchUp else raise8 l.counts.catchUp } } i.isLt
        owners := ownChannels s.lanes.owners i c.listed } }

theorem startCue_eq (s : State) (i : Fin 4) (p : PendingGo) (r : CueRecord) (f : FrameNo) (merged : Vector Nat 36)
    (zones : Vector Rgb 8) :
    s.startCue i p r f merged zones =
      (s.cueTaken i (startedCue p r f merged zones)).scheduleFollow i (startedCue p r f merged zones) := rfl

theorem lane_cueTaken (s : State) (i : Fin 4) (c : CurrentCue) :
    (s.cueTaken i c).lane i =
      { s.lane i with
        current := some c
        pending := none
        levels := touchChannels (s.lane i).levels c.listed
        counts :=
          { (s.lane i).counts with
            start := raise8 (s.lane i).counts.start
            catchUp := if c.position = 0 then (s.lane i).counts.catchUp else raise8 (s.lane i).counts.catchUp } } :=
  get_set_same ..

/-! ## The follow cue (R130) -/

theorem lane_makePending {s : State} {i : Fin 4} {q : Fin 16} (hb : (s.lane i).binding = some q) (cue : BitVec 16)
    (e : FrameNo) (o : Origin) (k : GoKind) :
    (s.makePending i cue e o k).lane i = (s.lane i).withPending ⟨cue, e, o, k, .asked⟩ := by
  unfold State.makePending
  rw [hb]
  exact ((handRequest_frame ..).lane i).trans (lane_setLane ..)

theorem makePending_of_unbound {s : State} {i : Fin 4} (hb : (s.lane i).binding = none) (cue : BitVec 16) (e : FrameNo)
    (o : Origin) (k : GoKind) : s.makePending i cue e o k = s := by
  unfold State.makePending
  rw [hb]

/-- R104: neither owners nor node counts change with a GO that becomes pending. -/
theorem engine_makePending (s : State) (i : Fin 4) (cue : BitVec 16) (e : FrameNo) (o : Origin) (k : GoKind) :
    (s.makePending i cue e o k).lanes.owners = s.lanes.owners ∧ (s.makePending i cue e o k).lanes.counts = s.lanes.counts := by
  unfold State.makePending
  split
  · exact ⟨rfl, rfl⟩
  · rw [onlyFetch_lanes (handRequest_frame ..)]
    exact ⟨rfl, rfl⟩

theorem contestGo_of_none {s : State} {i : Fin 4} (h : (s.lane i).pending = none) (cue : BitVec 16) (e : FrameNo)
    (o : Origin) (k : GoKind) : s.contestGo i cue e o k = s.makePending i cue e o k := by
  unfold State.contestGo
  rw [h]

section Follow

variable {s : State} {i : Fin 4} {c : CurrentCue}

theorem scheduleFollow_of_none (h : c.record.follow = none) : s.scheduleFollow i c = s := by
  unfold State.scheduleFollow
  rw [h]

variable {fo : Follow} (h : c.record.follow = some fo)

include h

theorem scheduleFollow_of_invalid (hn : fo.next = 0 ∨ fo.next = 65535) :
    s.scheduleFollow i c =
      s.setNodeCounts { s.lanes.counts with invalidCue := raise16 s.lanes.counts.invalidCue } := by
  unfold State.scheduleFollow
  rw [h]
  exact if_pos hn

theorem scheduleFollow_of_far (hn : ¬ (fo.next = 0 ∨ fo.next = 65535)) (far : 32767 < c.length + fo.wait) :
    s.scheduleFollow i c =
      s.setNodeCounts { s.lanes.counts with followRefused := raise16 s.lanes.counts.followRefused } := by
  unfold State.scheduleFollow
  rw [h]
  exact (if_neg hn).trans (if_pos far)

theorem scheduleFollow_of_near (hn : ¬ (fo.next = 0 ∨ fo.next = 65535)) (near : c.length + fo.wait ≤ 32767)
    (hp : (s.lane i).pending = none) :
    s.scheduleFollow i c =
      s.makePending i fo.next (c.execute + BitVec.ofNat 16 (c.length + fo.wait)) s.localOrigin .follow := by
  rw [← contestGo_of_none hp]
  unfold State.scheduleFollow
  rw [h]
  exact (if_neg hn).trans (if_neg (Nat.not_lt.mpr near))

end Follow

/-- Of lane `i` its pending GO alone may differ, and the other lanes and the owners are as they were. -/
structure PendingOnly (i : Fin 4) (s t : State) : Prop where
  lane : ∀ x, { t.lane i with pending := x } = { s.lane i with pending := x }
  others : ∀ k, k ≠ i → t.lane k = s.lane k
  owners : t.lanes.owners = s.lanes.owners

theorem makePending_pendingOnly (s : State) (i : Fin 4) (cue : BitVec 16) (e : FrameNo) (o : Origin) (k : GoKind) :
    PendingOnly i s (s.makePending i cue e o k) := by
  refine ⟨fun x => ?_, fun k hk => (makePending_beside hk s ..).lane, (engine_makePending ..).1⟩
  cases hb : (s.lane i).binding with
  | none => rw [makePending_of_unbound hb]
  | some q =>
    rw [lane_makePending hb]
    rfl

theorem scheduleFollow_pendingOnly {s : State} {i : Fin 4} (hp : (s.lane i).pending = none) (c : CurrentCue) :
    PendingOnly i s (s.scheduleFollow i c) := by
  cases h : c.record.follow with
  | none =>
    rw [scheduleFollow_of_none h]
    exact ⟨fun _ => rfl, fun _ _ => rfl, rfl⟩
  | some fo =>
    by_cases hn : fo.next = 0 ∨ fo.next = 65535
    · rw [scheduleFollow_of_invalid h hn]
      exact ⟨fun _ => rfl, fun _ _ => rfl, rfl⟩
    · by_cases near : c.length + fo.wait ≤ 32767
      · rw [scheduleFollow_of_near h hn near hp]
        exact makePending_pendingOnly ..
      · rw [scheduleFollow_of_far h hn (Nat.lt_of_not_le near)]
        exact ⟨fun _ => rfl, fun _ _ => rfl, rfl⟩

/-- R123, R124: what the start of the cue `c` makes of its lane, and what it leaves. -/
structure CueTaken (s : State) (i : Fin 4) (c : CurrentCue) (t : State) : Prop where
  current : (t.lane i).current = some c
  control : (t.lane i).control = (s.lane i).control
  counts : (t.lane i).counts =
    { (s.lane i).counts with
      start := raise8 (s.lane i).counts.start
      catchUp := if c.position = 0 then (s.lane i).counts.catchUp else raise8 (s.lane i).counts.catchUp }
  levels : (t.lane i).levels = touchChannels (s.lane i).levels c.listed
  owners : t.lanes.owners = ownChannels s.lanes.owners i c.listed
  others : ∀ k, k ≠ i → t.lane k = s.lane k

theorem startCue_taken (s : State) (i : Fin 4) (p : PendingGo) (r : CueRecord) (f : FrameNo) (merged : Vector Nat 36)
    (zones : Vector Rgb 8) :
    CueTaken s i (startedCue p r f merged zones) (s.startCue i p r f merged zones) := by
  rw [startCue_eq]
  generalize startedCue p r f merged zones = c
  have taken := lane_cueTaken s i c
  obtain ⟨lane, others, owners⟩ := scheduleFollow_pendingOnly (s := s.cueTaken i c) (i := i) (by rw [taken]) c
  have same := lane none
  rw [taken] at same
  have current := congrArg Lane.current same
  have control := congrArg Lane.control same
  have counts := congrArg Lane.counts same
  have levels := congrArg Lane.levels same
  exact ⟨current, control, counts, levels, owners, fun k hk => (others k hk).trans (get_set_of_ne _ hk _)⟩

/-! ## The follow cue of a start (R104, R130) -/

theorem fetch_placeRequest (s : State) (r : FetchRequest) :
    (s.placeRequest r).fetch =
      if s.fetch.port = .none then { s.fetch with port := .fetch, flight := some ⟨r, s.tick⟩ }
      else { s.fetch with queue := insertRequest s.frame r s.fetch.queue } := by
  unfold State.placeRequest
  split <;> rfl

section StartFollow

variable (s : State) (i : Fin 4) {p : PendingGo} {r : CueRecord} {f : FrameNo} {merged : Vector Nat 36}
  {zones : Vector Rgb 8}

theorem pending_cueTaken (c : CurrentCue) : ((s.cueTaken i c).lane i).pending = none := by rw [lane_cueTaken]

/-- R130: a start leaves pending GO, fetch unit and refusals as they are where there is no follow part. -/
theorem startCue_of_no_follow (h : r.follow = none) :
    ((s.startCue i p r f merged zones).lane i).pending = none ∧ (s.startCue i p r f merged zones).fetch = s.fetch ∧
      (s.startCue i p r f merged zones).lanes.counts = s.lanes.counts := by
  rw [startCue_eq, scheduleFollow_of_none h]
  exact ⟨pending_cueTaken .., rfl, rfl⟩

variable {fo : Follow} (h : r.follow = some fo)

include h

theorem startCue_of_invalid (hn : fo.next = 0 ∨ fo.next = 65535) :
    ((s.startCue i p r f merged zones).lane i).pending = none ∧ (s.startCue i p r f merged zones).fetch = s.fetch ∧
      (s.startCue i p r f merged zones).lanes.counts =
        { s.lanes.counts with invalidCue := raise16 s.lanes.counts.invalidCue } := by
  rw [startCue_eq, scheduleFollow_of_invalid h hn]
  exact ⟨pending_cueTaken .., rfl, rfl⟩

theorem startCue_of_far (hn : ¬ (fo.next = 0 ∨ fo.next = 65535)) (far : 32767 < r.delay + r.fade + fo.wait) :
    ((s.startCue i p r f merged zones).lane i).pending = none ∧ (s.startCue i p r f merged zones).fetch = s.fetch ∧
      (s.startCue i p r f merged zones).lanes.counts =
        { s.lanes.counts with followRefused := raise16 s.lanes.counts.followRefused } := by
  rw [startCue_eq, scheduleFollow_of_far (c := startedCue p r f merged zones) h hn far]
  exact ⟨pending_cueTaken .., rfl, rfl⟩

variable (hn : ¬ (fo.next = 0 ∨ fo.next = 65535)) (near : r.delay + r.fade + fo.wait ≤ 32767)

include hn near

theorem startCue_of_near :
    s.startCue i p r f merged zones =
      (s.cueTaken i (startedCue p r f merged zones)).makePending i fo.next
        (p.execute + BitVec.ofNat 16 (r.delay + r.fade + fo.wait)) s.localOrigin .follow := by
  rw [startCue_eq, scheduleFollow_of_near (c := startedCue p r f merged zones) h hn near (pending_cueTaken ..)]
  rfl

theorem counts_startCue_of_near : (s.startCue i p r f merged zones).lanes.counts = s.lanes.counts := by
  rw [startCue_of_near s i h hn near, (engine_makePending ..).2]
  rfl

variable {q : Fin 16} (hb : (s.lane i).binding = some q)

include hb

theorem pending_startCue_of_near :
    ((s.startCue i p r f merged zones).lane i).pending =
      some ⟨fo.next, p.execute + BitVec.ofNat 16 (r.delay + r.fade + fo.wait), s.localOrigin, .follow, .asked⟩ := by
  rw [startCue_of_near s i h hn near, lane_makePending (by rw [lane_cueTaken, hb])]
  rfl

/-- R104: the request of the follow GO, where its lane has no other. -/
theorem fetch_startCue_of_near (unasked : i ∉ s.fetch.requesting) :
    let request : FetchRequest := ⟨i, q, fo.next, p.execute + BitVec.ofNat 16 (r.delay + r.fade + fo.wait), 0⟩
    (s.startCue i p r f merged zones).fetch =
      if s.fetch.port = .none then { s.fetch with port := .fetch, flight := some ⟨request, s.tick⟩ }
      else { s.fetch with queue := insertRequest s.frame request s.fetch.queue } := by
  intro request
  rw [startCue_of_near s i h hn near, makePending_of_bound (p := q) (by rw [lane_cueTaken, hb]) (by exact unasked),
    fetch_placeRequest]
  rfl

end StartFollow

/-! ## The lanes that start a cue at an edge -/

/-- R121, R122 b: a lane starts a cue at an edge by the GO that pends before it, inside the window and with its record. -/
theorem starting_lanesChecked {s : State} {c : Config} {i : Fin 4} {p : PendingGo} {r : CueRecord} :
    ((s.lanesChecked c).lane i).starting s.nextFrame = some (p, r) ↔
      (s.lane i).pending = some p ∧ (p.fetch = .ready r ∨ p.fetch = .waitEdge r) ∧
        later p.execute s.nextFrame = false ∧ tooOld p.execute s.nextFrame = false := by
  constructor
  · intro h
    obtain ⟨hp, hl, hf⟩ := starting_eq_some.mp h
    rw [lane_lanesChecked] at hp
    have dropped (l : Lane) : l.failPending.pending ≠ some p := nofun
    have kept : (s.lane i).takeTimeouts ((s.fetch.dueAt c).filter fun r => decide (r.lane = i)) = s.lane i := by
      rcases takeTimeouts_cases (s.lane i) ((s.fetch.dueAt c).filter fun r => decide (r.lane = i)) with e | e
      · exact e
      · rw [e, dropOld_of_current (l := (s.lane i).failPending) nofun] at hp
        exact absurd hp (dropped _)
    rw [kept, Lane.dropOld] at hp
    split at hp
    · exact absurd hp (dropped _)
    · rename_i old
      exact ⟨hp, hf, hl, by simpa [hp] using old⟩
  · rintro ⟨hp, hf, hl, current⟩
    have checked : (s.lanesChecked c).lane i = s.lane i :=
      lane_lanesChecked_of_unasked rfl (fun q hq => by
        cases hp.symm.trans hq
        exact ⟨by rcases hf with hf | hf <;> simp [hf], current⟩) c
    rw [checked]
    exact starting_eq_some.mpr ⟨hp, hl, hf⟩

/-- The lanes before and after one. -/
theorem laneIndices_split (i : Fin 4) :
    ∃ before behind, laneIndices = before ++ i :: behind ∧ (∀ k ∈ before, k < i) ∧ (∀ k ∈ behind, i < k) ∧
      behind.Nodup := by
  refine ⟨laneIndices.take i.val, laneIndices.drop (i.val + 1), ?_⟩
  revert i
  decide

/-- R123: the lane starts a cue at edge `f` that lists the channel. -/
def Lane.ListsAt (l : Lane) (f : FrameNo) (ch : Fin 36) : Prop :=
  ∃ p r, l.starting f = some (p, r) ∧ ∃ e ∈ r.entries, e.channel = ch

section Owners

variable {s : State} {i : Fin 4} {f : FrameNo} {ch : Fin 36} (c : Config) (merged : Vector Nat 36) (zones : Vector Rgb 8)

theorem owner_laneEdge_of_listed (h : (s.lane i).ListsAt f ch) :
    (s.laneEdge c f merged zones i).lanes.owners.get ch = some i := by
  obtain ⟨p, r, starts, listed⟩ := h
  have owners := (startCue_taken s i p r f merged zones).owners
  rw [← startOrStep_of_starting merged zones starts] at owners
  show (s.startOrStep i f merged zones).lanes.owners.get ch = some i
  rw [owners]
  exact owner_of_listed ((listed_startedCue_iff ..).mpr listed)

theorem owner_laneEdge_of_unlisted (h : ¬ (s.lane i).ListsAt f ch) :
    (s.laneEdge c f merged zones i).lanes.owners.get ch = s.lanes.owners.get ch := by
  cases starts : (s.lane i).starting f with
  | none => rw [(laneEdge_still c merged zones starts).owners]
  | some x =>
    obtain ⟨p, r⟩ := x
    have owners := (startCue_taken s i p r f merged zones).owners
    rw [← startOrStep_of_starting merged zones starts] at owners
    show (s.startOrStep i f merged zones).lanes.owners.get ch = _
    rw [owners]
    exact owner_of_unlisted ((unlisted_startedCue_iff ..).mpr fun e he hc => h ⟨p, r, starts, e, he, hc⟩)

/-- R124: lanes that start no cue with the channel leave its owner. -/
theorem owner_foldl_of_unlisted {l : List (Fin 4)} (hl : l.Nodup)
    (h : ∀ k ∈ l, ¬ (s.lane k).ListsAt s.frame ch) :
    (l.foldl (fun s i => s.laneEdge c s.frame merged zones i) s).lanes.owners.get ch = s.lanes.owners.get ch := by
  induction l generalizing s with
  | nil => rfl
  | cons i rest ih =>
    obtain ⟨hi, hrest⟩ := List.nodup_cons.mp hl
    rw [List.foldl_cons, ih hrest, owner_laneEdge_of_unlisted c merged zones (h i List.mem_cons_self)]
    intro k hk
    have beside : Beside k s (s.laneEdge c s.frame merged zones i) :=
      
      laneEdge_beside (by rintro rfl; exact hi hk) s c s.frame merged zones
    rw [beside.lane, beside.frame]
    exact h k (List.mem_cons_of_mem _ hk)

/-- R124: of the lanes that start a cue with the channel the highest is its owner. -/
theorem owner_lanesWorked_of_highest (hi : (s.lane i).ListsAt s.frame ch)
    (highest : ∀ k, i < k → ¬ (s.lane k).ListsAt s.frame ch) :
    (s.lanesWorked c merged zones).lanes.owners.get ch = some i := by
  obtain ⟨before, behind, split, lower, higher, apart⟩ := laneIndices_split i
  have untouched (k : Fin 4) (hk : i ≤ k) :
      Beside k s (before.foldl (fun s i => s.laneEdge c s.frame merged zones i) s) :=
    foldl_beside (fun t j hj => laneEdge_beside hj t ..) (fun h => absurd (lower k h) (not_lt_of_ge hk)) s
  unfold State.lanesWorked
  rw [split, List.foldl_append, List.foldl_cons]
  generalize before.foldl (fun s i => s.laneEdge c s.frame merged zones i) s = v at untouched
  have reached := untouched i (le_refl i)
  rw [owner_foldl_of_unlisted c merged zones apart]
  · rw [reached.frame]
    exact owner_laneEdge_of_listed c merged zones (by rw [reached.lane]; exact hi)
  · intro k hk
    have beside : Beside k v (v.laneEdge c v.frame merged zones i) := laneEdge_beside (higher k hk).ne' v c _ merged zones
    have kept := (untouched k (higher k hk).le).trans beside
    rw [kept.lane, kept.frame]
    exact highest k (higher k hk)

end Owners

/-! ## A lane that alone starts a cue at an edge -/

/-- The lanes before and after the only one that starts a cue leave that lane, the fetch unit and the owners. -/
theorem lanesWorked_alone {s : State} {i : Fin 4} (alone : ∀ k, k ≠ i → (s.lane k).starting s.frame = none) (c : Config)
    (merged : Vector Nat 36) (zones : Vector Rgb 8) :
    ∃ v, Beside i s v ∧ Still s v ∧ Beside i (v.laneEdge c s.frame merged zones i) (s.lanesWorked c merged zones) ∧
      Still (v.laneEdge c s.frame merged zones i) (s.lanesWorked c merged zones) := by
  obtain ⟨before, behind, split, lower, higher, -⟩ := laneIndices_split i
  have beside (t : State) (k : Fin 4) (hk : i ≠ k) : Beside i t (t.laneEdge c t.frame merged zones k) :=
    laneEdge_beside hk t ..
  have reached := foldl_beside beside (fun h => absurd (lower i h) (lt_irrefl i)) s
  have still := foldl_laneEdge_still c merged zones (s := s) fun k hk => alone k (lower k hk).ne
  unfold State.lanesWorked
  rw [split, List.foldl_append, List.foldl_cons]
  generalize before.foldl (fun s i => s.laneEdge c s.frame merged zones i) s = v at reached still
  refine ⟨v, reached, still, ?_, ?_⟩ <;> rw [reached.frame]
  · exact foldl_beside beside (fun h => absurd (higher i h) (lt_irrefl i)) _
  · refine foldl_laneEdge_still c merged zones fun k hk => ?_
    have other : Beside k v (v.laneEdge c s.frame merged zones i) := laneEdge_beside (higher k hk).ne' v ..
    rw [other.lane, other.frame, reached.frame, starting_congr (still.pending k)]
    exact alone k (higher k hk).ne'

end Sys2Proof.Machine

end

section
/-! SUPPORT. The edge at which one lane alone starts a cue, and the starts of cues as a whole (R122 to R124, R127, R130,
R136). -/

namespace Sys2Proof.Machine

open Sys2Proof

/-- R144: the merged levels the lanes read at an edge are the last published before it. -/
theorem mergedBefore_eq {s : State} {r : TimerRun} (hr : s.timer.run = some r) (sound : s.LabelsSound) (c : Config) :
    s.mergedBefore c = s.output.merged.last := by
  obtain ⟨-, -, -, merged, -⟩ := sound
  have found := beforeFetch_spec s c
  obtain ⟨-, -, edges⟩ := edge_timer hr c 0
  rw [(edge_clock s c 0).timer] at edges
  unfold State.mergedBefore
  rw [(lanesTurn_frame s c).output, (lanesTurn_frame s c).timer, found.output, found.timer, edges]
  exact readBefore_of_lt (Nat.lt_succ_of_le merged)

/-- R136: the conditions handed at an edge are those of the lanes after it. -/
theorem condition_edge {s : State} {c : Config} (hr : s.startup.phase = .running)
    (h : ∀ k, (c.pins.get k).function = .none) (pins : BitVec 8) (i : Fin 4) :
    (s.edge c pins).lanes.conditions.last.get i = ((s.edge c pins).lane i).condition := by
  rw [lane_edge hr h, (edge_lanes hr h pins).lanes, State.conditionsHanded, setLanes_lanes]
  simp [Published.publish, LaneEngine.conditionNow, State.lane, Vector.get_eq_getElem]

theorem localOrigin_congr {s t : State} (h : t.number = s.number) : t.localOrigin = s.localOrigin := by
  unfold State.localOrigin State.heldNumber
  rw [h]

/-! ## One lane alone -/

/-- R122: an edge from `s` to `t` at which lane `i` alone starts a cue, by the GO `p` with the record `r`, from the state `v`
that it finds at its work. -/
structure AloneAtEdge (s : State) (c : Config) (i : Fin 4) (p : PendingGo) (r : CueRecord) (v t : State) : Prop where
  lane : v.lane i = s.lane i
  found : v.fetch = (s.lanesTurn c).fetch
  number : t.number = v.number
  tick : t.tick = v.tick
  worked : t.lane i =
    ((v.startCue i p r s.nextFrame (s.mergedBefore c) s.wall.figures.last.zones).lane i).worked c s.nextFrame
      s.wall.figures.last.zones
  handed : t.fetch = (v.startCue i p r s.nextFrame (s.mergedBefore c) s.wall.figures.last.zones).fetch

theorem lane_lanesTurn_of_unasked {s : State} {k : Fin 4} (h : ∀ p, (s.lane k).pending = some p → p.fetch ≠ .asked)
    (c : Config) : (s.lanesTurn c).lane k = s.lane k := by
  rw [lane_lanesTurn, takeTimeouts_of_unasked h]

theorem edge_alone {s : State} {c : Config} {i : Fin 4} {p : PendingGo} {r : CueRecord} (hr : s.startup.phase = .running)
    (hpins : ∀ k, (c.pins.get k).function = .none) (hp : (s.lane i).pending = some p)
    (hf : p.fetch = .ready r ∨ p.fetch = .waitEdge r) (others : ∀ k, k ≠ i → (s.lane k).pending = none)
    (due : later p.execute s.nextFrame = false) (current : tooOld p.execute s.nextFrame = false) (pins : BitVec 8) :
    ∃ v, AloneAtEdge s c i p r v (s.edge c pins) := by
  have ready (k : Fin 4) (q : PendingGo) (hq : (s.lane k).pending = some q) :
      q.fetch ≠ .asked ∧ tooOld q.execute s.nextFrame = false := by
    by_cases hk : k = i
    · subst hk
      cases hp.symm.trans hq
      exact ⟨by rcases hf with hf | hf <;> simp [hf], current⟩
    · rw [others k hk] at hq
      cases hq
  have frame : (s.lanesTurn c).frame = s.nextFrame := (lanesTurn_frame s c).frame.trans (beforeFetch_spec s c).frame
  have checked : s.lanesChecked c = s.lanesTurn c := oldDropped_of_current fun k q hq => by
    rw [lane_lanesTurn_of_unasked fun q hq => (ready k q hq).1] at hq
    rw [frame]
    exact (ready k q hq).2
  have lanes (k : Fin 4) : (s.lanesChecked c).lane k = s.lane k := lane_lanesChecked_of_unasked rfl (ready k) c
  have alone (k : Fin 4) (hk : k ≠ i) : ((s.lanesChecked c).lane k).starting (s.lanesChecked c).frame = none := by
    rw [lanes]
    exact starting_of_unready (by simp [others k hk]) _
  obtain ⟨v, reached, still, after, done⟩ := lanesWorked_alone alone c (s.mergedBefore c) s.wall.figures.last.zones
  rw [frame_lanesChecked] at after done
  have starts : (v.lane i).starting s.nextFrame = some (p, r) := by
    rw [reached.lane, lanes]
    exact starting_eq_some.mpr ⟨hp, due, hf⟩
  have started := startOrStep_of_starting (s.mergedBefore c) s.wall.figures.last.zones starts
  have edge := edge_lanes hr hpins pins
  have frames := lanesAfter_frame s c
  have begun := LanesAndFetch.trans _ _ _ (lanesChecked_frame s c) reached.toLanesAndFetch
  refine ⟨v, reached.lane.trans (lanes i), still.fetch.trans (congrArg State.fetch checked), ?_, ?_, ?_, ?_⟩
  · rw [edge.number, State.conditionsHanded, setLanes_number, frames.number, begun.number]
  · rw [edge.tick, State.conditionsHanded, setLanes_tick, frames.tick, begun.tick]
  · rw [lane_edge hr hpins, State.lanesAfter, after.lane, laneEdge_eq, started, lane_setLane]
  · rw [fetch_edge hr hpins, State.lanesAfter, done.fetch, laneEdge_eq, started]
    rfl

/-! ## The levels of a cue just started -/

section StartedLevels

variable {p : PendingGo} {r : CueRecord} {f : FrameNo} {merged : Vector Nat 36} {zones : Vector Rgb 8}

/-- A channel listed once is found by its entry. -/
theorem find_listed_startedCue (once : (r.entries.map fun e => e.channel).Nodup) {e : CueEntry} (he : e ∈ r.entries) :
    (startedCue p r f merged zones).listed.find? (fun x => decide (x.channel = e.channel)) =
      some ⟨e.channel, e.source, merged.get e.channel, e.source.target zones⟩ := by
  have listed : (⟨e.channel, e.source, merged.get e.channel, e.source.target zones⟩ : Listed) ∈
      (startedCue p r f merged zones).listed := (mem_startedCue_listed ..).mpr ⟨e, he, rfl⟩
  cases hf : (startedCue p r f merged zones).listed.find? (fun x => decide (x.channel = e.channel)) with
  | none => exact absurd rfl (of_decide_eq_false (Bool.eq_false_of_not_eq_true (List.find?_eq_none.mp hf _ listed)))
  | some x =>
    obtain ⟨e', he', rfl⟩ := (mem_startedCue_listed ..).mp (List.mem_of_find?_eq_some hf)
    have same : e' = e := List.inj_on_of_nodup_map once he' he (by simpa using List.find?_some hf)
    rw [same]

/-- R123 c: a channel listed once has its level from its entry. -/
theorem touched_startedCue (once : (r.entries.map fun e => e.channel).Nodup) {e : CueEntry} (he : e ∈ r.entries)
    (levels : Vector (Option LaneLevel) 36) :
    (touchChannels levels (startedCue p r f merged zones).listed).get e.channel =
      some ⟨merged.get e.channel, e.source⟩ := by
  obtain ⟨x, hx, hc, touched⟩ := touched_of_listed (levels := levels) ((listed_startedCue_iff p r f merged zones).mpr ⟨e, he, rfl⟩)
  obtain ⟨e', he', rfl⟩ := (mem_startedCue_listed ..).mp hx
  have same : e' = e := List.inj_on_of_nodup_map once he' he hc
  rw [touched, same]

end StartedLevels

/-- R123, R126, R127: the lane after the edge at which it starts a cue with an empty control list. -/
theorem worked_of_started {s t : State} {i : Fin 4} {p : PendingGo} {r : CueRecord} {f : FrameNo} {merged : Vector Nat 36}
    {zones : Vector Rgb 8} (taken : CueTaken s i (startedCue p r f merged zones) t) (empty : (s.lane i).control = [])
    (once : (r.entries.map fun e => e.channel).Nodup) (c : Config) :
    ((t.lane i).worked c f zones).current = some { startedCue p r f merged zones with settle := false } ∧
      ∀ e ∈ r.entries,
        ((t.lane i).worked c f zones).levels.get e.channel =
          some ⟨fadeLevel (merged.get e.channel) (e.source.target zones) (startedCue p r f merged zones).weight, e.source⟩ := by
  obtain ⟨current, levels⟩ := worked_spec (c := c) (zones := zones)
    ((current_takeControl_of_empty (taken.control.trans empty) f).trans taken.current)
  rw [retarget_startedCue] at current levels
  rw [fades_startedCue, taken.levels] at levels
  exact ⟨current, fun e he =>
    (levels e.channel _ (touched_startedCue once he _)).1 _ rfl (find_listed_startedCue once he)⟩

/-! ## The owners after an edge (R124) -/

/-- R122 b: lane `i` starts a cue at the edge now due that lists the channel. -/
def State.StartsListing (s : State) (i : Fin 4) (ch : Fin 36) : Prop :=
  ∃ record, (∃ p, (s.lane i).pending = some p ∧ (p.fetch = .ready record ∨ p.fetch = .waitEdge record) ∧
    later p.execute s.nextFrame = false ∧ tooOld p.execute s.nextFrame = false) ∧ ∃ e ∈ record.entries, e.channel = ch

theorem listsAt_lanesChecked (s : State) (c : Config) (i : Fin 4) (ch : Fin 36) :
    ((s.lanesChecked c).lane i).ListsAt (s.lanesChecked c).frame ch ↔ s.StartsListing i ch := by
  unfold Lane.ListsAt State.StartsListing
  rw [frame_lanesChecked]
  simp only [starting_lanesChecked]
  exact ⟨fun ⟨p, r, hs, hl⟩ => ⟨r, ⟨p, hs⟩, hl⟩, fun ⟨r, ⟨p, hs⟩, hl⟩ => ⟨p, r, hs, hl⟩⟩

section Owner

variable {s : State} {c : Config} (hr : s.startup.phase = .running) (h : ∀ k, (c.pins.get k).function = .none)
  (pins : BitVec 8) {ch : Fin 36}

include hr h

theorem owner_edge_of_highest {i : Fin 4} (hi : s.StartsListing i ch) (highest : ∀ k, i < k → ¬ s.StartsListing k ch) :
    (s.edge c pins).lanes.owners.get ch = some i := by
  rw [owners_edge hr h, State.lanesAfter]
  exact owner_lanesWorked_of_highest c _ _ ((listsAt_lanesChecked ..).mpr hi) fun k hk =>
    mt (listsAt_lanesChecked ..).mp (highest k hk)

theorem owner_edge_of_none (none : ∀ k, ¬ s.StartsListing k ch) :
    (s.edge c pins).lanes.owners.get ch = s.lanes.owners.get ch := by
  rw [owners_edge hr h, State.lanesAfter, State.lanesWorked,
    owner_foldl_of_unlisted c _ _ laneIndices_nodup fun k _ => mt (listsAt_lanesChecked ..).mp (none k),
    owners_lanesChecked]

end Owner

/-! ## The follow cue of the lane alone (R104, R130) -/

theorem mem_queue_lanesTurn {s : State} {c : Config} {x : FetchRequest} (h : x ∈ (s.lanesTurn c).fetch.queue) :
    ∃ y ∈ s.fetch.queue, y.lane = x.lane := by
  rw [fetch_lanesTurn] at h
  obtain ⟨y, hy, rfl⟩ := List.mem_map.mp (List.mem_of_mem_filter h)
  exact ⟨y, hy, rfl⟩

/-- R104: the timeouts of an edge leave the port and the fetch in flight, and hand no request. -/
theorem unasked_lanesTurn_of_unasked {s : State} {i : Fin 4} (h : i ∉ s.fetch.requesting) (c : Config) :
    i ∉ (s.lanesTurn c).fetch.requesting := by
  obtain ⟨flying, queued⟩ := not_mem_requesting.mp h
  refine not_mem_requesting.mpr ⟨?_, fun x hx => ?_⟩
  · rw [fetch_lanesTurn]
    exact flying
  · obtain ⟨y, hy, hl⟩ := mem_queue_lanesTurn hx
    exact hl ▸ queued y hy

section AloneFollow

variable {s v t : State} {c : Config} {i : Fin 4} {p : PendingGo} {r : CueRecord} {fo : Follow} {q : Fin 16}
  (alone : AloneAtEdge s c i p r v t) (hfo : r.follow = some fo) (hn : ¬ (fo.next = 0 ∨ fo.next = 65535))
  (near : r.delay + r.fade + fo.wait ≤ 32767) (hb : (s.lane i).binding = some q)

include alone hfo hn near hb

theorem AloneAtEdge.pending_of_follow :
    (t.lane i).pending =
      some ⟨fo.next, p.execute + BitVec.ofNat 16 (r.delay + r.fade + fo.wait), t.localOrigin, .follow, .asked⟩ := by
  rw [alone.worked, pending_worked, pending_startCue_of_near v i hfo hn near (by rw [alone.lane]; exact hb),
    localOrigin_congr alone.number]

theorem AloneAtEdge.fetch_of_follow (unasked : i ∉ s.fetch.requesting) :
    let request : FetchRequest := ⟨i, q, fo.next, p.execute + BitVec.ofNat 16 (r.delay + r.fade + fo.wait), 0⟩
    (s.fetch.port = .none → t.fetch.port = .fetch ∧ t.fetch.flight = some ⟨request, t.tick⟩) ∧
      (s.fetch.port ≠ .none →
        t.fetch.port = s.fetch.port ∧ t.fetch.flight = s.fetch.flight ∧ request ∈ t.fetch.queue) := by
  intro request
  have handed := alone.handed.trans (fetch_startCue_of_near v i hfo hn near (by rw [alone.lane]; exact hb)
    (by rw [alone.found]; exact unasked_lanesTurn_of_unasked unasked c))
  rw [alone.found] at handed
  have port : (s.lanesTurn c).fetch.port = s.fetch.port := by rw [fetch_lanesTurn]
  have flight : (s.lanesTurn c).fetch.flight = s.fetch.flight := by rw [fetch_lanesTurn]
  generalize (s.lanesTurn c).fetch = u at handed port flight
  rw [port] at handed
  refine ⟨fun free => ?_, fun busy => ?_⟩
  · rw [if_pos free] at handed
    rw [handed, alone.tick]
    exact ⟨rfl, rfl⟩
  · rw [if_neg busy] at handed
    rw [handed]
    exact ⟨port, flight, mem_insertRequest.mpr (.inl rfl)⟩

end AloneFollow

/-! ## The statement -/

/-- R123, R124, R130: the start of a cue by a GO that has its record. -/
theorem cueStarts_start (s : State) (i : Fin 4) (f : FrameNo) (merged : Vector Nat 36) (zones : Vector Rgb 8)
    {p : PendingGo} {record : CueRecord} (hp : (s.lane i).pending = some p)
    (hf : p.fetch = .ready record ∨ p.fetch = .waitEdge record) (due : later p.execute f = false) :
    s.startOrStep i f merged zones = s.startCue i p record f merged zones ∧
      CueTaken s i (startedCue p record f merged zones) (s.startCue i p record f merged zones) :=
  ⟨startOrStep_of_starting merged zones (starting_eq_some.mpr ⟨hp, due, hf⟩), startCue_taken ..⟩

theorem next_of_run {s : State} {r : TimerRun} (hr : s.timer.run = some r) : s.nextFrame = r.nextNumber := by
  simp [State.nextFrame, hr]

/-- Settles O46: the start by what a cue takes up and its follow cue, the edge by the lane that alone starts one, the owners
by the highest lane that does. -/
theorem cueStarts : Obligations.CueStarts := by
  refine ⟨fun s i f merged zones p record hp hf due current => ?start,
    fun s pins r cfg i p record hrun hr hc sound hpins hp hf others empty once due current => ?edge,
    fun s pins r cfg hrun hr hc hpins => ?owners⟩
  case start =>
    obtain ⟨started, taken⟩ := cueStarts_start s i f merged zones hp hf due
    rw [started]
    intro t j
    refine ⟨⟨_, taken.current, rfl, rfl, rfl, rfl, rfl, rfl, rfl⟩, taken.control, taken.counts, fun ch => ⟨fun listed => ?_,
      fun unlisted => ?_⟩, taken.others, fun hn => startCue_of_no_follow s i hn, fun follow hfo => ?_⟩
    · obtain ⟨x, hx, hc, touched⟩ := touched_of_listed (levels := (s.lane i).levels)
        ((listed_startedCue_iff p record f merged zones).mpr listed)
      obtain ⟨e, -, rfl⟩ := (mem_startedCue_listed ..).mp hx
      refine ⟨?_, ?_⟩
      · rw [taken.owners]
        exact owner_of_listed ((listed_startedCue_iff ..).mpr listed)
      · rw [taken.levels, touched, ← hc]
        rfl
    · rw [taken.owners, taken.levels]
      exact ⟨owner_of_unlisted ((unlisted_startedCue_iff ..).mpr unlisted),
        touched_of_unlisted ((unlisted_startedCue_iff ..).mpr unlisted)⟩
    · intro span invalid
      exact ⟨startCue_of_invalid s i hfo, startCue_of_far s i hfo, counts_startCue_of_near s i hfo, fun q hn near hb =>
        ⟨pending_startCue_of_near s i hfo hn near hb, fun queued flying =>
          fetch_startCue_of_near s i hfo hn near hb (not_mem_requesting.mpr ⟨flying, queued⟩)⟩⟩
  case edge =>
    have next := next_of_run hr
    rw [← next] at due current
    obtain ⟨v, alone⟩ := edge_alone hrun hpins hp hf others due current pins
    have taken := startCue_taken v i p record s.nextFrame (s.mergedBefore cfg) s.wall.figures.last.zones
    obtain ⟨cue, levels⟩ := worked_of_started taken (by rw [alone.lane]; exact empty) once cfg
    rw [← alone.worked] at cue levels
    rw [next, mergedBefore_eq hr sound] at cue levels
    intro j merged target weight
    refine ⟨_, exec_frameEdge hr hc pins, cue, ?_, fun e he => ⟨?_, levels e he⟩, condition_edge hrun hpins pins i,
      fun hn => ?_, fun follow q hfo h0 h1 near hb queued flying => ?_⟩
    · rw [alone.worked, start_worked, taken.counts, alone.lane]
      rfl
    · refine owner_edge_of_highest hrun hpins pins ⟨record, ⟨p, hp, hf, due, current⟩, e, he, rfl⟩ fun k hk => ?_
      rintro ⟨-, ⟨x, hx, -⟩, -⟩
      rw [others k hk.ne'] at hx
      cases hx
    · obtain ⟨pending, fetch, -⟩ := startCue_of_no_follow v i (p := p) (f := s.nextFrame) (merged := s.mergedBefore cfg)
        (zones := s.wall.figures.last.zones) hn
      refine ⟨?_, ?_⟩
      · rw [alone.worked, pending_worked, pending]
      · rw [alone.handed, fetch, alone.found, fetch_lanesTurn]
    · have hn : ¬ (follow.next = 0 ∨ follow.next = 65535) := not_or.mpr ⟨h0, h1⟩
      exact ⟨alone.pending_of_follow hfo hn near hb,
        alone.fetch_of_follow hfo hn near hb (not_mem_requesting.mpr ⟨flying, queued⟩)⟩
  case owners =>
    have next := next_of_run hr
    rw [← next]
    intro starts lists
    exact ⟨_, exec_frameEdge hr hc pins, fun ch =>
      ⟨fun i record hs hl highest => owner_edge_of_highest hrun hpins pins ⟨record, hs, hl⟩ fun k hk ⟨r', hs', hl'⟩ =>
          highest k r' hk hs' hl',
        fun none => owner_edge_of_none hrun hpins pins fun k ⟨r', hs', hl'⟩ => none k r' hs' hl'⟩⟩

end Sys2Proof.Machine

end

section
/-! SUPPORT. What a message and a pin leave of the lanes: the lane levels and the owners of the channels (R116, R131, R169 to
R171), and so the merge of the lanes (R142, R143). -/

namespace Sys2Proof.Machine

open Sys2Proof

/-! ## Lane levels and owners -/

/-- Every lane level and every owner is as it was. -/
structure LevelsAlike (s t : State) : Prop where
  levels : ∀ i, (t.lane i).levels = (s.lane i).levels := by exact fun _ => rfl
  owners : t.lanes.owners = s.lanes.owners := by rfl

theorem LevelsAlike.refl (s : State) : LevelsAlike s s := {}

theorem LevelsAlike.trans {a b c : State} (h : LevelsAlike a b) (k : LevelsAlike b c) : LevelsAlike a c :=
  ⟨fun i => (k.levels i).trans (h.levels i), k.owners.trans h.owners⟩

theorem LevelsAlike.ofLanes {s t : State} (h : t.lanes = s.lanes) : LevelsAlike s t :=
  ⟨fun i => congrArg (fun e : LaneEngine => (e.lanes.get i).levels) h, congrArg LaneEngine.owners h⟩

theorem setLane_levels {s : State} {i : Fin 4} {l : Lane} (h : l.levels = (s.lane i).levels) :
    LevelsAlike s (s.setLane i l) where
  levels k := by
    by_cases hk : k = i
    · subst hk
      rw [lane_setLane, h]
    · rw [lane_setLane_of_ne s hk]

theorem PendingOnly.levelsAlike {i : Fin 4} {s t : State} (h : PendingOnly i s t) : LevelsAlike s t where
  levels k := by
    by_cases hk : k = i
    · subst hk
      have levels := congrArg Lane.levels (h.lane none)
      exact levels
    · rw [h.others k hk]
  owners := h.owners

/-- R142, R143: the merge reads the lane levels and the owners alone. -/
theorem LevelsAlike.merged {s t : State} (h : LevelsAlike s t) (c : Config) (ch : Fin 36) :
    t.lanes.merged c ch = s.lanes.merged c ch := by
  have held (i : Fin 4) : (t.lanes.lanes.get i).levelOf ch = (s.lanes.lanes.get i).levelOf ch := by
    have levels : (t.lanes.lanes.get i).levels = (s.lanes.lanes.get i).levels := h.levels i
    unfold Lane.levelOf
    rw [levels]
  unfold LaneEngine.merged LaneEngine.highest LaneEngine.owned
  simp only [held, h.owners]

/-! ## GO, HOLD and RELEASE (R115 to R118, R131, R134, R135) -/

/-- R118: of a lane a contest changes the pending GO and the contest count. -/
theorem contestGo_levels (s : State) (i : Fin 4) (cue : BitVec 16) (e : FrameNo) (o : Origin) (k : GoKind) :
    LevelsAlike s (s.contestGo i cue e o k) := by
  unfold State.contestGo
  split
  · exact (makePending_pendingOnly ..).levelsAlike
  · split
    · dsimp only
      refine .trans (.ofLanes (onlyFetch_lanes (withdrawRequest_frame s i))) ?_
      exact .trans (setLane_levels (by rfl)) (makePending_pendingOnly ..).levelsAlike
    · exact setLane_levels rfl

theorem laneGo_levels (s : State) (i : Fin 4) (cue : BitVec 16) (e : FrameNo) (o : Origin) :
    LevelsAlike s (s.laneGo i cue e o) := by
  unfold State.laneGo
  split
  · exact contestGo_levels ..
  · split
    · exact {}
    · exact contestGo_levels ..

theorem lateHold_levels (l : Lane) (e : FrameNo) (passed : Nat) : (l.lateHold e passed).levels = l.levels := by
  unfold Lane.lateHold
  split
  · rfl
  · split
    · rfl
    · split <;> rfl

theorem lateRelease_levels (l : Lane) (passed : Nat) : (l.lateRelease passed).levels = l.levels := by
  unfold Lane.lateRelease
  split
  · rfl
  · split
    · rfl
    · split <;> rfl

/-- R131: a HOLD or RELEASE changes the control list, the current cue or the ignored count. -/
theorem controlled_levels (l : Lane) (f : FrameNo) (kind : ControlKind) (e : FrameNo) :
    (l.controlled f kind e).levels = l.levels := by
  unfold Lane.controlled
  split
  · unfold Lane.joinControl
    split <;> rfl
  · cases kind with
    | hold => exact lateHold_levels ..
    | release => exact lateRelease_levels ..

theorem laneControl_levels (s : State) (i : Fin 4) (kind : ControlKind) (e : FrameNo) :
    LevelsAlike s (s.laneControl i kind e) := by
  rw [laneControl_eq]
  exact setLane_levels (controlled_levels ..)

/-- R116: a message forms no level and makes no lane an owner; a cue does so when it starts. -/
theorem deliverCue_levels (s : State) (m : CueMessage) (o : Origin) : LevelsAlike s (s.deliverCue m o) := by
  have taken (t : State) (i : Fin 4) : LevelsAlike t (t.laneTakes i m o) := by
    unfold State.laneTakes
    split
    · exact laneGo_levels ..
    · exact laneControl_levels ..
    · exact laneControl_levels ..
  unfold State.deliverCue
  split
  · exact {}
  · split
    · exact {}
    · split
      · exact {}
      · split
        · exact {}
        · exact foldl_frame LevelsAlike _ .refl (fun _ _ _ => .trans) taken _ s

/-! ## The trigger pins (R169 to R172) -/

theorem applyUnsentAt_levels (s : State) (f : FrameNo) (m : CueMessage) : LevelsAlike s (s.applyUnsentAt f m) := by
  have moved : (s.atFrame f).lanes = s.lanes := by
    unfold State.atFrame
    split <;> rfl
  have applied (t : State) : LevelsAlike t (t.applyUnsent m) := .trans {} (deliverCue_levels (t.setLink _) ..)
  exact .trans (.ofLanes moved) (.trans (applied _) {})

theorem formTrigger_levels (s : State) (f : FrameNo) (m : CueMessage) : LevelsAlike s (s.formTrigger f m) := by
  unfold State.formTrigger
  dsimp only
  split
  · exact {}
  · exact .trans {} (applyUnsentAt_levels (s.setTriggers _) ..)

theorem pinActs_levels (s : State) (pin : PinConfig) (level : Bool) (f : FrameNo) :
    LevelsAlike s (s.pinActs pin level f) := by
  unfold State.pinActs
  split
  · cases pin.function with
    | none => exact {}
    | goNext p =>
      dsimp only [State.goNextPin]
      split
      · exact formTrigger_levels ..
      · exact {}
    | hold p => exact formTrigger_levels ..
    | release p => exact formTrigger_levels ..
    | tally c => exact {}
  · exact {}

theorem samplePin_levels (s : State) (c : Config) (i : Fin 8) (level : Bool) (f : FrameNo) :
    LevelsAlike s (s.samplePin c i level f) := by
  unfold State.samplePin
  dsimp only
  split
  · exact {}
  · split
    · exact {}
    · split
      · exact .trans {} (pinActs_levels (s.setPin i ⟨some level, 0⟩) ..)
      · exact {}

theorem pinsEdge_levels (s : State) (c : Config) (pins : BitVec 8) : LevelsAlike s (s.pinsEdge c pins) :=
  foldl_frame LevelsAlike _ .refl (fun _ _ _ => .trans) (fun t i => samplePin_levels t c i _ _) _ s

end Sys2Proof.Machine

end

section
/-! SUPPORT. The merge of the lanes (R142, R143), and the output stage at an edge: what it reads, and what the blocks after it
leave (R142 to R145, R148). -/

namespace Sys2Proof.Machine

open Sys2Proof

/-! ## Merging (R142, R143) -/

theorem highest_eq_sup (e : LaneEngine) (ch : Fin 36) :
    e.highest ch = Finset.univ.sup fun i => (e.lanes.get i).levelOf ch := by
  have lanes : (Finset.univ : Finset (Fin 4)) = {0, 1, 2, 3} := by decide
  simp [LaneEngine.highest, laneIndices, lanes, max_assoc]

/-- R142: the highest lane level bounds every one, and is the level of some lane. -/
theorem highest_spec (e : LaneEngine) (ch : Fin 36) :
    (∀ i, (e.lanes.get i).levelOf ch ≤ e.highest ch) ∧ ∃ i, e.highest ch = (e.lanes.get i).levelOf ch := by
  rw [highest_eq_sup]
  obtain ⟨i, -, attained⟩ := Finset.exists_mem_eq_sup Finset.univ Finset.univ_nonempty fun i => (e.lanes.get i).levelOf ch
  exact ⟨fun i => Finset.le_sup (f := fun i => (e.lanes.get i).levelOf ch) (Finset.mem_univ i), i, attained⟩

section Merged

variable {e : LaneEngine} {c : Config} {ch : Fin 36}

theorem merged_of_htp (h : (c.channels.get ch).merge = .htp) : e.merged c ch = e.highest ch := by
  simp [LaneEngine.merged, h]

theorem merged_of_ltp (h : (c.channels.get ch).merge = .ltp) : e.merged c ch = e.owned ch := by
  simp [LaneEngine.merged, h]

theorem owned_of_owner {i : Fin 4} (h : e.owners.get ch = some i) : e.owned ch = (e.lanes.get i).levelOf ch := by
  simp [LaneEngine.owned, h]

theorem owned_of_none (h : e.owners.get ch = none) : e.owned ch = 0 := by
  simp [LaneEngine.owned, h]

end Merged

/-! ## The output stage at an edge (R144, R145) -/

/-- R148 to R150: the drive that the output stage forms. -/
theorem outputEdge_drive {s : State} {r : TimerRun} (hr : s.timer.run = some r) (c : Config) :
    (s.outputEdge c).output.drive =
      some (Vector.ofFn fun i : Fin 32 =>
        FixtureDrive.form (fixtureConfig c i) r.length
          ((s.output.merged.readBefore s.timer.edges).get (i.castLE (by decide)))
          (s.budget.scale.readBefore s.timer.edges)) := by
  simp [State.outputEdge, hr]

/-- The state in which the output stage works at an edge of the whole part. -/
def State.beforeOutput (s : State) (c : Config) : State := (s.lanesTurn c).lanesEdge c

/-- R145: the output stage finds at an edge what the scan finds. -/
theorem beforeOutput_scan (s : State) (c : Config) (pins : BitVec 8) : BeforeScan s c pins (s.beforeOutput c) := by
  obtain ⟨timer, triggers, output, budget⟩ := beforeFlip_scan s c pins
  have walled := wallEdge_frame (s.beforeFlip c) c (s.beforeFlip c).ingest (s.beforeFlip c).wall
  have laned : LanesAndFetch ((s.beforeFlip c).wallEdge c) (s.beforeOutput c) :=
    .trans _ _ _ (lanesTurn_frame s c) (lanesEdge_frame ..)
  exact ⟨laned.timer.trans (Eq.trans (by simpa using congrArg State.timer walled) timer),
    laned.triggers.trans (Eq.trans (by simpa using congrArg State.triggers walled) triggers),
    laned.output.trans (Eq.trans (by simpa using congrArg State.output walled) output),
    laned.budget.trans (Eq.trans (by simpa using congrArg State.budget walled) budget)⟩

/-- The output stage is as it was, and so are lane levels and owners. -/
structure OutputDone (s t : State) : Prop extends LevelsAlike s t where
  output : t.output = s.output := by rfl

theorem OutputDone.trans {a b c : State} (h : OutputDone a b) (k : OutputDone b c) : OutputDone a c :=
  ⟨h.toLevelsAlike.trans k.toLevelsAlike, k.output.trans h.output⟩

/-- R144: no block touches the output stage, a lane level or an owner after the work of the output stage at an edge. -/
theorem edge_outputDone {s : State} (running : s.isRunning = true) (c : Config) (pins : BitVec 8) :
    OutputDone ((s.beforeOutput c).outputEdge c) (s.edge c pins) := by
  have runs : (s.agePeers c).timerEdge.isRunning = true :=
    (timerEdge_frame _).isRunning.trans ((agePeers_frame s c).isRunning.trans running)
  have turn : ((s.agePeers c).timerEdge.beforeLanes c).lanesEdge c = s.beforeOutput c := rfl
  have reported (t : State) (own : Option Station) : OutputDone t (t.reportEdge c own) := by
    unfold State.reportEdge
    split <;> exact {}
  have ended (t : State) : OutputDone t (t.setAhead Ahead.none) := {}
  unfold State.edge
  dsimp only
  rw [if_pos runs, blocksEdge_eq, State.beforeReport, turn]
  generalize (s.beforeOutput c).outputEdge c = x
  refine .trans ?_ (ended _)
  refine .trans ?_ (reported _ _)
  refine .trans ?_ ⟨pinsEdge_levels _ c pins, (pinsEdge_frame _ c pins).output⟩
  exact {}

/-- R142 to R144: the merged set after an edge is published by that edge, on the one before it, of the lanes as they stand
after it. -/
theorem edge_merged {s : State} (running : s.isRunning = true) (c : Config) (pins : BitVec 8) :
    (s.edge c pins).output.merged =
      s.output.merged.publish (s.edge c pins).timer.edges (Vector.ofFn fun ch => (s.edge c pins).lanes.merged c ch) := by
  have before := beforeOutput_scan s c pins
  have done := edge_outputDone running c pins
  have levels : (fun ch => (s.edge c pins).lanes.merged c ch) = fun ch => (s.beforeOutput c).lanes.merged c ch :=
    funext fun ch => done.toLevelsAlike.merged c ch
  rw [done.output, levels, ← before.timer, ← before.output]
  rfl

/-- R145, R148: the drive after an edge is formed from the merged levels and the scale published before it. -/
theorem edge_drive {s : State} {r : TimerRun} (running : s.isRunning = true) (hr : s.timer.run = some r)
    (sound : s.LabelsSound) (c : Config) (pins : BitVec 8) :
    ∃ r', (s.edge c pins).timer.run = some r' ∧
      (s.edge c pins).output.drive =
        some (Vector.ofFn fun i : Fin 32 =>
          FixtureDrive.form (fixtureConfig c i) r'.length (s.output.merged.last.get (i.castLE (by decide)))
            s.budget.scale.last) := by
  obtain ⟨-, -, -, merged, scale⟩ := sound
  obtain ⟨r', run, edges⟩ := edge_timer hr c pins
  have before := beforeOutput_scan s c pins
  refine ⟨r', run, ?_⟩
  have drive := outputEdge_drive ((congrArg FrameTimer.run before.timer).trans run) c
  rwa [before.output, before.budget, before.timer, edges, readBefore_of_lt (Nat.lt_succ_of_le merged),
    readBefore_of_lt (Nat.lt_succ_of_le scale), ← (edge_outputDone running c pins).output] at drive

/-! ## The statement on merging -/

/-- Settles O48: HTP by the highest lane level, LTP by the owner, and the edge by what it publishes, which no later block
makes untrue of the lanes. -/
theorem channelsMerge : Obligations.ChannelsMerge := by
  refine ⟨fun e c ch => ⟨fun htp => ?htp, fun ltp => ⟨fun i owner => ?owner, fun ownerless => ?unowned⟩⟩,
    fun s pins r cfg hp hr hc => ?edge⟩
  case htp =>
    rw [merged_of_htp htp]
    exact highest_spec e ch
  case owner => exact (merged_of_ltp ltp).trans (owned_of_owner owner)
  case unowned => exact (merged_of_ltp ltp).trans (owned_of_none ownerless)
  case edge =>
    have published := edge_merged (isRunning_of_phase hp) cfg pins
    refine ⟨_, exec_frameEdge hr hc pins, ?_, ?_, fun ch => ?_⟩
    · rw [published, Published.publish]
    · rw [published, Published.publish]
    · rw [published, Published.publish]
      simp [Vector.get_eq_getElem]

end Sys2Proof.Machine

end

section
/-! SUPPORT. The duty of a fixture channel (R150), and the fixture drive of an edge. -/

namespace Sys2Proof.Machine

open Sys2Proof

/-! ## The duty (R150) -/

section Duty

variable (out pk least : Nat)

@[simp] theorem dutyOf_dark : dutyOf 0 pk least = 0 := rfl

theorem dutyOf_of_pos {out : Nat} (h : 0 < out) : dutyOf out pk least = min pk (max least (out * pk / 65536)) :=
  if_neg (Nat.ne_of_gt h)

theorem dutyOf_le : dutyOf out pk least ≤ pk := by
  rcases Nat.eq_zero_or_pos out with rfl | h
  · exact Nat.zero_le pk
  · rw [dutyOf_of_pos pk least h]
    exact Nat.min_le_left ..

/-- A level of 16 bits takes less than the whole cycle. -/
theorem share_lt {out pk : Nat} (level : out ≤ 65535) (h : 0 < pk) : out * pk / 65536 < pk := by
  have bound : out * pk ≤ 65535 * pk := Nat.mul_le_mul_right pk level
  omega

theorem dutyOf_without_minimum_lt {out pk : Nat} (level : out ≤ 65535) (h : 0 < pk) : dutyOf out pk 0 < pk := by
  rcases Nat.eq_zero_or_pos out with rfl | lit
  · exact h
  · rw [dutyOf_of_pos pk 0 lit, Nat.zero_max]
    exact Nat.lt_of_le_of_lt (Nat.min_le_right ..) (share_lt level h)

/-- At the highest level the pause is a 65536th of the cycle, rounded up. -/
theorem pause_at_full_level : pk - dutyOf 65535 pk 0 = (pk + 65535) / 65536 := by
  rw [dutyOf_of_pos pk 0 (by decide), Nat.zero_max]
  omega

end Duty

/-! ## The statement -/

/-- Settles O49: the duty clause by clause, and the edge by the drive it forms. -/
theorem dutyOfFixture : Obligations.DutyOfFixture := by
  refine ⟨fun out pk least => ?duty, by decide, fun s pins r cfg hp hr hc sound => ?edge⟩
  case duty =>
    intro d share
    refine ⟨fun dark => ?dark, fun lit above within => ?share, fun lit below within => ?raised, fun lit beyond => ?capped,
      dutyOf_le out pk least, dutyOf_without_minimum_lt, .inr (pause_at_full_level pk)⟩
    case dark =>
      subst dark
      exact dutyOf_dark pk least
    case share => exact (dutyOf_of_pos pk least lit).trans (by rw [Nat.max_eq_right above, Nat.min_eq_right within])
    case raised =>
      exact (dutyOf_of_pos pk least lit).trans (by rw [Nat.max_eq_left (Nat.le_of_lt below), Nat.min_eq_right within])
    case capped =>
      have exceeds : pk ≤ max least share := Nat.le_of_lt (lt_max_iff.mpr beyond.symm)
      exact (dutyOf_of_pos pk least lit).trans (Nat.min_eq_left exceeds)
  case edge =>
    obtain ⟨r', run, drive⟩ := edge_drive (isRunning_of_phase hp) hr sound cfg pins
    refine ⟨_, r', _, exec_frameEdge hr hc pins, run, drive, fun i => ?_⟩
    simp [Vector.get_eq_getElem, FixtureDrive.form, scaleBy]

end Sys2Proof.Machine

end

section
/-! SUPPORT. The budget unit: the rail watch (R157, R158), the effective limit (R159, R160), the budget scale (R161 to R163),
and what the unit makes of an edge (R164). -/

namespace Sys2Proof.Machine

open Sys2Proof

/-! ## Demand (R155, R156) -/

theorem foldl_add_eq_sum {α : Type} (f : α → Nat) (l : List α) : l.foldl (fun n x => n + f x) 0 = (l.map f).sum := by
  rw [List.sum_eq_foldl, List.foldl_map]

theorem wallDemand_eq_sum (tiles : Vector Rgb 4) (wall : Rgb) (merged : Vector Nat 36) :
    wallDemand tiles wall merged = ((List.finRange 4).map fun x => tileDemands (tiles.get x) wall merged).sum :=
  foldl_add_eq_sum ..

theorem fixtureDemand_eq_sum (c : Config) (merged : Vector Nat 36) :
    fixtureDemand c merged =
      ((List.finRange 32).map fun i : Fin 32 =>
        scaleBy (fixtureConfig c i).current (merged.get (i.castLE (by decide)))).sum :=
  foldl_add_eq_sum ..

/-- R155, R156: the demand of wall and fixtures. -/
def demandOf (c : Config) (figures : Figures) (merged : Vector Nat 36) : Nat :=
  wallDemand figures.tiles c.budget.wall merged + fixtureDemand c merged

/-! ## The ending frame judged (R159, R160) -/

section JudgeFrame

variable {b : Budget} {c : BudgetConfig} {ahead : Bool}

/-- R157, R159: the coming frame begins with the below flag of the samples taken into it ahead. -/
def Budget.begun (b : Budget) : Budget := { b with observed := true, frameBelow := b.nextBelow, nextBelow := false }

theorem judgeFrame_of_unjudged (h : ahead = true ∨ b.observed = false) : b.judgeFrame c ahead = b.begun :=
  if_pos (by simpa using h)

theorem judgeFrame_of_low (ha : ahead = false) (ho : b.observed = true) (hf : b.frameBelow = true) :
    b.judgeFrame c ahead =
      { b.begun with
        effectiveLimit := stepDown c b.effectiveLimit
        recoveryRun := 0
        counts := { b.counts with stepDown := raise8 b.counts.stepDown } } := by
  simp [Budget.judgeFrame, Budget.begun, ha, ho, hf]

theorem judgeFrame_of_recovered (ha : ahead = false) (ho : b.observed = true) (hf : b.frameBelow = false)
    (hr : c.recoveryLength ≤ b.recoveryRun + 1) :
    b.judgeFrame c ahead = { b.begun with effectiveLimit := stepUp c b.effectiveLimit, recoveryRun := 0 } := by
  simp [Budget.judgeFrame, Budget.begun, ha, ho, hf, hr]

theorem judgeFrame_of_recovering (ha : ahead = false) (ho : b.observed = true) (hf : b.frameBelow = false)
    (hr : b.recoveryRun + 1 < c.recoveryLength) :
    b.judgeFrame c ahead = { b.begun with recoveryRun := b.recoveryRun + 1 } := by
  simp [Budget.judgeFrame, Budget.begun, ha, ho, hf, Nat.not_le.mpr hr]

variable (b c ahead)

/-- R159, R160: of the budget unit the judgement of a frame changes the effective limit, the recovery run and the step down
count. -/
theorem judgeFrame_eq :
    ∃ limit run down,
      b.judgeFrame c ahead =
        { b.begun with
          effectiveLimit := limit, recoveryRun := run, counts := { b.counts with stepDown := down } } ∧
        (limit = b.effectiveLimit ∨ limit = stepDown c b.effectiveLimit ∨ limit = stepUp c b.effectiveLimit) := by
  by_cases judged : ahead = true ∨ b.observed = false
  · exact ⟨_, _, _, judgeFrame_of_unjudged judged, .inl rfl⟩
  obtain ⟨ha, ho⟩ : ahead = false ∧ b.observed = true := by simpa using judged
  cases hf : b.frameBelow with
  | true => exact ⟨_, _, _, judgeFrame_of_low ha ho hf, .inr (.inl rfl)⟩
  | false =>
    rcases Nat.lt_or_ge (b.recoveryRun + 1) c.recoveryLength with hr | hr
    · exact ⟨_, _, _, judgeFrame_of_recovering ha ho hf hr, .inl rfl⟩
    · exact ⟨_, _, _, judgeFrame_of_recovered ha ho hf hr, .inr (.inr rfl)⟩

@[simp] theorem judgeFrame_scale : (b.judgeFrame c ahead).scale = b.scale := by
  obtain ⟨limit, run, down, judged, -⟩ := judgeFrame_eq b c ahead
  rw [judged]
  rfl

@[simp] theorem judgeFrame_observed : (b.judgeFrame c ahead).observed = true := by
  obtain ⟨limit, run, down, judged, -⟩ := judgeFrame_eq b c ahead
  rw [judged]
  rfl

@[simp] theorem judgeFrame_frameBelow : (b.judgeFrame c ahead).frameBelow = b.nextBelow := by
  obtain ⟨limit, run, down, judged, -⟩ := judgeFrame_eq b c ahead
  rw [judged]
  rfl

end JudgeFrame

/-! ## The target scale (R161) -/

section Target

variable {demand limit floor scale : Nat}

theorem targetScale_of_le (h : demand ≤ limit) : targetScale demand limit floor = 65535 := if_pos h

theorem targetScale_of_lt (h : limit < demand) :
    targetScale demand limit floor = max floor (limit * 65536 / demand - 1) := if_neg (Nat.not_le.mpr h)

theorem limit_share_lt (h : limit < demand) : limit * 65536 / demand < 65536 :=
  Nat.div_lt_of_lt_mul (Nat.mul_lt_mul_of_pos_right h (by decide))

theorem demand_at_limit_share_le (demand limit : Nat) : demand * (limit * 65536 / demand) / 65536 ≤ limit :=
  Nat.div_le_of_le_mul (Nat.mul_comm limit 65536 ▸ Nat.mul_div_le ..)

theorem floor_le_targetScale (h : floor ≤ 65535) : floor ≤ targetScale demand limit floor := by
  rcases Nat.lt_or_ge limit demand with above | within
  · rw [targetScale_of_lt above]
    exact Nat.le_max_left ..
  · rwa [targetScale_of_le within]

theorem targetScale_le (h : floor ≤ 65535) : targetScale demand limit floor ≤ 65535 := by
  rcases Nat.lt_or_ge limit demand with above | within
  · have share := limit_share_lt above
    rw [targetScale_of_lt above]
    omega
  · rw [targetScale_of_le within]

/-- R161: a scale above its floor and not above the target keeps the demand within the limit. -/
theorem scaleBy_le_of_le_targetScale (target : scale ≤ targetScale demand limit floor) (raised : floor < scale) :
    scaleBy demand scale ≤ limit := by
  rcases Nat.lt_or_ge limit demand with above | within
  · have share : scale + 1 ≤ limit * 65536 / demand := by
      rw [targetScale_of_lt above] at target
      omega
    calc scaleBy demand scale
      _ ≤ demand * (limit * 65536 / demand) / 65536 := Nat.div_le_div_right (Nat.mul_le_mul_left demand share)
      _ ≤ limit := demand_at_limit_share_le demand limit
  · rw [targetScale_of_le within] at target
    exact (scaleBy_le target).trans within

/-- R161, R163: where even the floor is not enough the target is the floor. -/
theorem targetScale_of_overloaded (hf : floor ≤ 65535) (h : limit < scaleBy demand floor) :
    targetScale demand limit floor = floor := by
  have above : limit < demand := Nat.lt_of_lt_of_le h (scaleBy_le hf)
  have beyond : (limit + 1) * 65536 ≤ demand * (floor + 1) := (Nat.le_div_iff_mul_le (by decide)).mp h
  have share : limit * 65536 / demand < floor + 1 := Nat.div_lt_of_lt_mul (by omega)
  rw [targetScale_of_lt above]
  omega

end Target

/-! ## The new scale (R162) -/

section Scale

variable {target old floor : Nat}

theorem newScale_of_le (h : target ≤ old) : newScale target old = target := if_pos h

theorem newScale_le_target (target old : Nat) : newScale target old ≤ target := by
  unfold newScale
  split
  · exact Nat.le_refl _
  · exact Nat.min_le_left ..

theorem newScale_le_rise (target old : Nat) : newScale target old ≤ old + 1024 := by
  unfold newScale
  split <;> omega

theorem floor_le_newScale (ht : floor ≤ target) (ho : floor ≤ old) : floor ≤ newScale target old := by
  unfold newScale
  split <;> omega

end Scale

/-! ## The scale formed (R161 to R164) -/

section FormScale

variable (b : Budget) (c : BudgetConfig) (edge demand : Nat)

@[simp] theorem formScale_demand : (b.formScale c edge demand).demand = demand := rfl

@[simp] theorem formScale_effectiveLimit : (b.formScale c edge demand).effectiveLimit = b.effectiveLimit := rfl

@[simp] theorem formScale_recoveryRun : (b.formScale c edge demand).recoveryRun = b.recoveryRun := rfl

@[simp] theorem formScale_observed : (b.formScale c edge demand).observed = b.observed := rfl

@[simp] theorem formScale_frameBelow : (b.formScale c edge demand).frameBelow = b.frameBelow := rfl

@[simp] theorem formScale_stepDown : (b.formScale c edge demand).counts.stepDown = b.counts.stepDown := rfl

theorem formScale_scale :
    (b.formScale c edge demand).scale =
      b.scale.publish edge (newScale (targetScale demand b.effectiveLimit c.floor) (b.scale.readBefore edge)) := rfl

theorem formScale_overload :
    (b.formScale c edge demand).overload = true ↔ b.effectiveLimit < scaleBy demand c.floor :=
  decide_eq_true_iff

end FormScale

/-! ## The commands -/

/-- R157, R158: RAIL_SAMPLE while the part runs. -/
theorem exec_railSample {s : State} {c : Config} (hr : s.startup.phase = .running) (hc : s.config = some c)
    (tile fixture : Nat) (ahead : Bool) :
    exec (.railSample tile fixture ahead) s =
      .next (s.setBudget (s.budget.sample (compareRail tile c.budget.tileThreshold)
        (compareRail fixture c.budget.fixtureThreshold) ahead)) := by
  refine congrArg Host.Outcome.next ?_
  rw [isRunning_of_phase hr, hc]

/-- R160: LIMIT_STEP_UP where the edge due ends a full recovery run. -/
theorem exec_limitStepUp {s : State} {c : Config} (hr : s.startup.phase = .running) (hc : s.config = some c)
    (ha : s.ahead.limit = false) (ho : s.budget.observed = true) (hf : s.budget.frameBelow = false)
    (hn : c.budget.recoveryLength ≤ s.budget.recoveryRun + 1) :
    exec .limitStepUp s =
      .next ((s.setAhead { s.ahead with limit := true }).setBudget
        { s.budget with effectiveLimit := stepUp c.budget s.budget.effectiveLimit, recoveryRun := 0 }) := by
  refine congrArg Host.Outcome.next ?_
  rw [isRunning_of_phase hr, hc]
  exact if_pos ⟨ha, ho, hf, hn⟩

/-- A second LIMIT_STEP_UP of one edge does nothing (notes/assumptions/6.md). -/
theorem exec_limitStepUp_of_ahead {s : State} {c : Config} (hr : s.startup.phase = .running) (hc : s.config = some c)
    (ha : s.ahead.limit = true) : exec .limitStepUp s = .next s := by
  refine congrArg Host.Outcome.next ?_
  rw [isRunning_of_phase hr, hc]
  exact if_neg (by simp [ha])

end Sys2Proof.Machine

end

section
/-! SUPPORT. The budget unit at an edge (R164): what it finds there, and the statements on the target scale and on the scale. -/

namespace Sys2Proof.Machine

open Sys2Proof

/-! ## Blocks that leave the budget unit -/

/-- Configuration, phase and budget unit are as they were. -/
structure BudgetAlike (s t : State) : Prop where
  config : t.config = s.config := by rfl
  phase : t.startup.phase = s.startup.phase := by rfl
  budget : t.budget = s.budget := by rfl

theorem BudgetAlike.refl (s : State) : BudgetAlike s s := {}

theorem BudgetAlike.trans {a b c : State} (h : BudgetAlike a b) (k : BudgetAlike b c) : BudgetAlike a c :=
  ⟨k.config.trans h.config, k.phase.trans h.phase, k.budget.trans h.budget⟩

theorem LanesAndFetch.budgetAlike {s t : State} (h : LanesAndFetch s t) : BudgetAlike s t :=
  ⟨h.config, congrArg Startup.phase h.startup, h.budget⟩

theorem LinkAndLanes.budgetAlike {s t : State} (h : LinkAndLanes s t) : BudgetAlike s t :=
  ⟨h.config, congrArg Startup.phase h.startup, h.budget⟩

theorem NumberAndLink.budgetAlike {s t : State} (h : NumberAndLink s t) : BudgetAlike s t :=
  ⟨h.config, congrArg Startup.phase h.startup, h.budget⟩

theorem PeersAndTally.budgetAlike {s t : State} (h : PeersAndTally s t) : BudgetAlike s t :=
  ⟨h.config, congrArg Startup.phase h.startup, h.budget⟩

theorem TimerAndLink.budgetAlike {s t : State} (h : TimerAndLink s t) : BudgetAlike s t :=
  ⟨h.config, congrArg Startup.phase h.startup, h.budget⟩

theorem PinsAndLanes.budgetAlike {s t : State} (h : PinsAndLanes s t) : BudgetAlike s t :=
  ⟨h.config, congrArg Startup.phase h.startup, h.budget⟩

theorem reportEdge_budgetAlike (s : State) (c : Config) (own : Option Station) : BudgetAlike s (s.reportEdge c own) := by
  unfold State.reportEdge
  split <;> exact {}

/-! ## The budget unit's turn -/

/-- The state in which the budget unit works at an edge. -/
def State.beforeBudget (s : State) (c : Config) (first : Bool) : State :=
  (((((if first then s.triggerQueueEdge else s.triggerQueueEdge.numberEdge).flushEdge.wallEdge c).fetchEdge c).lanesEdge
    c).outputEdge c)

/-- R164: what the budget unit finds at an edge: the clock of the edge, what commands have done ahead, its own items
untouched, and for a reader of the edge the figures and the merged levels published before it. -/
structure BudgetTurn (s u : State) : Prop extends BudgetAlike s u where
  ahead : u.ahead = s.ahead
  timer : u.timer = s.timer
  figures : u.wall.figures.readBefore u.timer.edges = s.wall.figures.last
  merged : u.output.merged.readBefore u.timer.edges = s.output.merged.last

/-- The budget unit's own items are untouched, and so are what commands have done ahead, the frame timer and the output
stage. -/
structure BudgetWait (s t : State) : Prop extends BudgetAlike s t where
  ahead : t.ahead = s.ahead := by rfl
  timer : t.timer = s.timer := by rfl
  output : t.output = s.output := by rfl

theorem BudgetWait.trans {a b c : State} (h : BudgetWait a b) (k : BudgetWait b c) : BudgetWait a c :=
  ⟨h.toBudgetAlike.trans k.toBudgetAlike, k.ahead.trans h.ahead, k.timer.trans h.timer, k.output.trans h.output⟩

theorem NumberAndLink.budgetWait {s t : State} (h : NumberAndLink s t) : BudgetWait s t :=
  ⟨h.budgetAlike, h.ahead, h.timer, h.output⟩

theorem LanesAndFetch.budgetWait {s t : State} (h : LanesAndFetch s t) : BudgetWait s t :=
  ⟨h.budgetAlike, h.ahead, h.timer, h.output⟩

theorem flushEdge_budgetWait (s : State) : BudgetWait s s.flushEdge := {}

theorem wallEdge_budgetWait (s : State) (c : Config) : BudgetWait s (s.wallEdge c) := by
  unfold State.wallEdge State.scanEdge State.flip
  dsimp only
  split <;> exact {}

/-- R144, R145: after the output stage a reader of the edge finds the merged levels published before it. -/
theorem outputEdge_merged (s : State) (c : Config) :
    (s.outputEdge c).output.merged.readBefore (s.outputEdge c).timer.edges = s.output.merged.last := by
  unfold State.outputEdge
  dsimp only
  rw [setOutput_output, setOutput_timer, readBefore_publish]

theorem outputEdge_turn {s v : State} (waits : BudgetWait s v)
    (figures : v.wall.figures.readBefore v.timer.edges = s.wall.figures.last) (c : Config) :
    BudgetTurn s (v.outputEdge c) where
  config := (setOutput_config ..).trans waits.config
  phase := (congrArg Startup.phase (setOutput_startup ..)).trans waits.phase
  budget := (setOutput_budget ..).trans waits.budget
  ahead := (setOutput_ahead ..).trans waits.ahead
  timer := (setOutput_timer ..).trans waits.timer
  figures := by
    obtain ⟨⟨timer, -, wall⟩, -⟩ := outputEdge_block v c
    rw [wall, timer, figures]
  merged := by rw [outputEdge_merged, waits.output]

theorem beforeBudget_turn (s : State) (c : Config) (first : Bool) : BudgetTurn s (s.beforeBudget c first) := by
  have numbered : NumberAndLink s (if first then s.triggerQueueEdge else s.triggerQueueEdge.numberEdge) := by
    split
    · exact .ofLink (.ofSet ..)
    · exact .trans _ _ _ (.ofLink (.ofSet ..)) (numberEdge_frame _)
  unfold State.beforeBudget
  generalize (if first then s.triggerQueueEdge else s.triggerQueueEdge.numberEdge) = n at numbered
  have flushed := flushEdge_budgetWait n
  have before : n.flushEdge.wall = s.wall := numbered.wall
  generalize n.flushEdge = f at flushed before
  have walled := wallEdge_budgetWait f c
  have figures := wallEdge_figures f c
  generalize f.wallEdge c = w at walled figures
  have laned : LanesAndFetch w ((w.fetchEdge c).lanesEdge c) :=
    .trans _ _ _ (fetchEdge_frame w c) (lanesEdge_frame _ c)
  generalize (w.fetchEdge c).lanesEdge c = v at laned
  refine outputEdge_turn (numbered.budgetWait.trans (flushed.trans (walled.trans laned.budgetWait))) ?_ c
  rw [laned.wall, laned.timer, walled.timer, figures, before]

/-- R164: the budget unit at its turn. -/
theorem BudgetTurn.budgetEdge {s u : State} (h : BudgetTurn s u) (c : Config) :
    (u.budgetEdge c).budget =
      (s.budget.judgeFrame c.budget s.ahead.limit).formScale c.budget s.timer.edges
        (demandOf c s.wall.figures.last s.output.merged.last) := by
  unfold State.budgetEdge
  dsimp only
  rw [setBudget_budget, h.figures, h.merged, h.timer, h.budget, h.ahead]
  rfl

/-- R164: no block touches the budget unit after its work at an edge. -/
theorem blocksEdge_budgetAlike (s : State) (c : Config) (pins : BitVec 8) (first : Bool) :
    BudgetAlike ((s.beforeBudget c first).budgetEdge c) (s.blocksEdge c pins first) := by
  have turn : s.blocksEdge c pins first =
      (((s.beforeBudget c first).budgetEdge c).pinsEdge c pins).reportEdge c s.ownAtEdge := by
    cases first <;> rfl
  rw [turn]
  exact .trans (pinsEdge_frame _ c pins).budgetAlike (reportEdge_budgetAlike ..)

/-- R164: the budget unit after an edge, from the state before it. -/
theorem edge_budget {s : State} {r : TimerRun} (running : s.isRunning = true) (hr : s.timer.run = some r) (c : Config)
    (pins : BitVec 8) :
    (s.edge c pins).budget =
      (s.budget.judgeFrame c.budget s.ahead.limit).formScale c.budget (s.timer.edges + 1)
        (demandOf c s.wall.figures.last s.output.merged.last) := by
  obtain ⟨-, -, edges⟩ := edge_timer hr c pins
  have aged := agePeers_frame s c
  have timed := timerEdge_frame (s.agePeers c)
  rw [(edge_clock s c pins).timer] at edges
  unfold State.edge
  dsimp only
  generalize (s.agePeers c).timerEdge = w at timed edges
  rw [if_pos (timed.isRunning.trans (aged.isRunning.trans running)), setAhead_budget,
    (blocksEdge_budgetAlike w c pins false).budget, (beforeBudget_turn w c false).budgetEdge c, edges,
    timed.budget, aged.budget, timed.ahead, aged.ahead, timed.wall, aged.wall, timed.output, aged.output]

/-- R162, R164: the scale after an edge goes from the one published before it toward the target of the demand and the
effective limit of that edge. -/
theorem edge_scale {s : State} {r : TimerRun} (running : s.isRunning = true) (hr : s.timer.run = some r)
    (sound : s.LabelsSound) (c : Config) (pins : BitVec 8) :
    (s.edge c pins).budget.scale =
      s.budget.scale.publish (s.timer.edges + 1)
        (newScale
          (targetScale (s.edge c pins).budget.demand (s.edge c pins).budget.effectiveLimit c.budget.floor)
          s.budget.scale.last) := by
  obtain ⟨-, -, -, -, label⟩ := sound
  rw [edge_budget running hr c pins, formScale_scale, judgeFrame_scale, formScale_demand, formScale_effectiveLimit,
    readBefore_of_lt (Nat.lt_succ_of_le label)]

/-! ## The statement on the target scale -/

/-- Settles O51: the target by the side of the limit on which the demand lies, and the edge by the scale it publishes. -/
theorem targetScaleAndClamp : Obligations.TargetScale := by
  refine ⟨fun demand limit floor hf => ?_, fun s pins r cfg hp hr hc sound => ?_⟩
  · refine ⟨targetScale_of_le, fun above => ?_, floor_le_targetScale hf, targetScale_le hf,
      fun above => ⟨limit_share_lt above, demand_at_limit_share_le demand limit⟩⟩
    rw [targetScale_of_lt above]
    omega
  · have scale := edge_scale (isRunning_of_phase hp) hr sound cfg pins
    refine ⟨_, exec_frameEdge hr hc pins, ?_⟩
    generalize s.edge cfg pins = t at scale
    rw [scale]
    rfl

/-! ## The statement on the scale -/

/-- R162, R163: what the scale of an edge keeps to, the old one lying in its range. -/
theorem newScale_keeps_limit {demand limit floor old : Nat} (low : floor ≤ old) (high : old ≤ 65535) :
    let scale := newScale (targetScale demand limit floor) old
    floor ≤ scale ∧ scale ≤ old + 1024 ∧ (scale = floor ∨ scaleBy demand scale ≤ limit) ∧
      (limit < scaleBy demand floor → scale = floor) := by
  have range : floor ≤ 65535 := low.trans high
  have above := floor_le_newScale (floor_le_targetScale (demand := demand) (limit := limit) range) low
  refine ⟨above, newScale_le_rise .., ?_, fun overload => ?_⟩
  · rcases Nat.eq_or_lt_of_le above with atFloor | raised
    · exact .inl atFloor.symm
    · exact .inr (scaleBy_le_of_le_targetScale (newScale_le_target ..) raised)
  · rw [targetScale_of_overloaded range overload, newScale_of_le low]

/-- Settles O52: LIMIT_STEP_UP by whether it is due, the edge by the judgement of the frame and by the scale formed. -/
theorem scaleKeepsTheLimit : Obligations.ScaleKeepsTheLimit := by
  refine ⟨fun s cfg hp hc => ⟨exec_limitStepUp hp hc, exec_limitStepUp_of_ahead hp hc⟩,
    fun s pins r cfg hp hr hc sound low high => ?edge⟩
  intro b level scaled component tile wall fixtures
  have running := isRunning_of_phase hp
  have budget := edge_budget running hr cfg pins
  have scale := edge_scale running hr sound cfg pins
  obtain ⟨floor, rise, within, overload⟩ := newScale_keeps_limit
    (demand := (s.edge cfg pins).budget.demand) (limit := (s.edge cfg pins).budget.effectiveLimit) low high
  have overloaded : (s.edge cfg pins).budget.overload = true ↔
      (s.edge cfg pins).budget.effectiveLimit < scaleBy (s.edge cfg pins).budget.demand cfg.budget.floor := by
    rw [budget]
    exact formScale_overload ..
  refine ⟨_, exec_frameEdge hr hc pins, ?_⟩
  generalize s.edge cfg pins = t at budget scale floor rise within overload overloaded
  refine ⟨?demand, fun ahead => ?ahead, fun unseen => ?unseen,
    fun ahead seen below => ?low, fun ahead seen clear short => ?recovering, fun ahead seen clear full => ?recovered,
    ?observed, ?flag, ?previous, ?floor, ?rise, ?within, overloaded, fun h => ?overload⟩
  case demand =>
    rw [budget, formScale_demand, demandOf, wallDemand_eq_sum, fixtureDemand_eq_sum]
    rfl
  case ahead =>
    rw [budget, judgeFrame_of_unjudged (.inl ahead)]
    exact ⟨rfl, rfl⟩
  case unseen =>
    rw [budget, judgeFrame_of_unjudged (.inr unseen)]
    exact ⟨rfl, rfl⟩
  case low =>
    rw [budget, judgeFrame_of_low ahead seen below]
    exact ⟨rfl, rfl, rfl⟩
  case recovering =>
    rw [budget, judgeFrame_of_recovering ahead seen clear short]
    exact ⟨rfl, rfl⟩
  case recovered =>
    rw [budget, judgeFrame_of_recovered ahead seen clear full]
    exact ⟨rfl, rfl⟩
  case observed => rw [budget, formScale_observed, judgeFrame_observed]
  case flag => rw [budget, formScale_frameBelow, judgeFrame_frameBelow]
  case previous => exact congrArg Published.previous scale
  case floor => rwa [scale]
  case rise => rwa [scale]
  case within => rwa [scale]
  case overload =>
    rw [scale]
    exact overload (overloaded.mp h)

end Sys2Proof.Machine

end

section
/-! SUPPORT. The budget unit from one command to the next: which commands reach it, its start with the configuration (R167,
R184), sag events (R158), and the ranges of effective limit and scale, which every step keeps (R160, R162). -/

namespace Sys2Proof.Machine

open Sys2Proof

/-! ## Ranges (R160, R162, Table 10-2) -/

/-- Table 10-2: the values configured are in order. -/
structure BudgetValuesOrdered (c : BudgetConfig) : Prop where
  limit : c.leastLimit ≤ c.limit
  floor : c.floor ≤ 65535

/-- R160, R162: the effective limit lies in Lim_min to Lim, and each scale in s_floor to 65535. -/
structure Budget.InRange (b : Budget) (c : BudgetConfig) : Prop where
  least : c.leastLimit ≤ b.effectiveLimit
  most : b.effectiveLimit ≤ c.limit
  lastLow : c.floor ≤ b.scale.last
  lastHigh : b.scale.last ≤ 65535
  previousLow : c.floor ≤ b.scale.previous
  previousHigh : b.scale.previous ≤ 65535

theorem budgetSound_iff {s : State} :
    s.BudgetSound ↔
      ∀ c, s.config = some c →
        BudgetValuesOrdered c.budget ∧ (s.startup.phase = .running → s.budget.InRange c.budget) := by
  refine ⟨fun h c hc => ?_, fun h c hc => ?_⟩
  · obtain ⟨limit, floor, inside⟩ := h c hc
    exact ⟨⟨limit, floor⟩, fun hp =>
      let ⟨least, most, lastLow, lastHigh, previousLow, previousHigh⟩ := inside hp
      ⟨least, most, lastLow, lastHigh, previousLow, previousHigh⟩⟩
  · obtain ⟨⟨limit, floor⟩, inside⟩ := h c hc
    exact ⟨limit, floor, fun hp =>
      let ⟨least, most, lastLow, lastHigh, previousLow, previousHigh⟩ := inside hp
      ⟨least, most, lastLow, lastHigh, previousLow, previousHigh⟩⟩

theorem BudgetAlike.sound {s t : State} (h : BudgetAlike s t) (hs : s.BudgetSound) : t.BudgetSound := fun c hc => by
  rw [h.phase, h.budget]
  exact hs c (h.config ▸ hc)

/-- Outside RUNNING only the values configured are spoken of. -/
theorem budgetSound_of_not_running {s t : State} (hs : s.BudgetSound) (hc : t.config = s.config)
    (hp : t.startup.phase ≠ .running) : t.BudgetSound :=
  budgetSound_iff.mpr fun c h => ⟨(budgetSound_iff.mp hs c (hc ▸ h)).1, fun running => absurd running hp⟩

section Range

variable {b : Budget} {c : BudgetConfig}

theorem stepDown_range (ordered : BudgetValuesOrdered c) {limit : Nat} (h : limit ≤ c.limit) :
    c.leastLimit ≤ stepDown c limit ∧ stepDown c limit ≤ c.limit :=
  ⟨Nat.le_max_left .., Nat.max_le.mpr ⟨ordered.limit, (Nat.sub_le ..).trans h⟩⟩

theorem stepUp_range (ordered : BudgetValuesOrdered c) {limit : Nat} (h : c.leastLimit ≤ limit) :
    c.leastLimit ≤ stepUp c limit ∧ stepUp c limit ≤ c.limit :=
  ⟨Nat.le_min.mpr ⟨ordered.limit, h.trans (Nat.le_add_right ..)⟩, Nat.min_le_left ..⟩

theorem judgeFrame_inRange (ordered : BudgetValuesOrdered c) (h : b.InRange c) (ahead : Bool) :
    (b.judgeFrame c ahead).InRange c := by
  obtain ⟨limit, run, down, judged, limits⟩ := judgeFrame_eq b c ahead
  have range : c.leastLimit ≤ limit ∧ limit ≤ c.limit := by
    rcases limits with rfl | rfl | rfl
    · exact ⟨h.least, h.most⟩
    · exact stepDown_range ordered h.most
    · exact stepUp_range ordered h.least
  rw [judged]
  exact { h with least := range.1, most := range.2 }

/-- R162: from a scale in its range the next one lies there too, whichever of the two a reader of the edge finds. -/
theorem formScale_inRange (ordered : BudgetValuesOrdered c) (h : b.InRange c) (edge demand : Nat) :
    (b.formScale c edge demand).InRange c := by
  have found : c.floor ≤ b.scale.readBefore edge := by
    unfold Published.readBefore
    split
    · exact h.previousLow
    · exact h.lastLow
  exact
    { least := h.least
      most := h.most
      lastLow := floor_le_newScale (floor_le_targetScale ordered.floor) found
      lastHigh := (newScale_le_target ..).trans (targetScale_le ordered.floor)
      previousLow := h.lastLow
      previousHigh := h.lastHigh }

end Range

theorem budgetEdge_sound {s : State} {c : Config} (hs : s.BudgetSound) (hc : s.config = some c) :
    (s.budgetEdge c).BudgetSound := by
  obtain ⟨ordered, inside⟩ := budgetSound_iff.mp hs c hc
  refine budgetSound_iff.mpr fun x hx => ?_
  obtain rfl : c = x := Option.some.inj (hc.symm.trans hx)
  exact ⟨ordered, fun hp => formScale_inRange ordered (judgeFrame_inRange ordered (inside hp) _) _ _⟩

theorem blocksEdge_sound {s : State} {c : Config} (hs : s.BudgetSound) (hc : s.config = some c) (pins : BitVec 8)
    (first : Bool) : (s.blocksEdge c pins first).BudgetSound :=
  have turn := (beforeBudget_turn s c first).toBudgetAlike
  (blocksEdge_budgetAlike s c pins first).sound (budgetEdge_sound (turn.sound hs) (turn.config.trans hc))

theorem edge_budgetSound {s : State} {c : Config} (hs : s.BudgetSound) (hc : s.config = some c) (pins : BitVec 8) :
    (s.edge c pins).BudgetSound := by
  have timed : BudgetAlike s (s.agePeers c).timerEdge :=
    (agePeers_frame s c).budgetAlike.trans (timerEdge_frame _).budgetAlike
  have ended {t : State} (h : t.BudgetSound) : (t.setAhead Ahead.none).BudgetSound := h
  unfold State.edge
  dsimp only
  refine ended ?_
  split
  · exact blocksEdge_sound (timed.sound hs) (timed.config.trans hc) pins false
  · exact timed.sound hs

/-! ## The start (R167, R184) -/

theorem fieldAt_two_lt (bytes : List Byte) (k : Nat) : fieldAt bytes k 2 < 65536 := by
  simp only [fieldAt, bigEndian, List.range_succ, List.range_zero, List.nil_append, List.cons_append, List.map_cons,
    List.map_nil, List.foldl_cons, List.foldl_nil]
  omega

/-- R183: the values of a block that passes are in order. -/
theorem judgeRead_budget_ordered {s : State} {c : Config} (h : s.judgeRead = .ok c) : BudgetValuesOrdered c.budget := by
  obtain ⟨-, -, bitTime, mode, rfl⟩ := judgeBlock_ok h
  exact ⟨Nat.min_le_left .., Nat.le_of_lt_succ (fieldAt_two_lt _ _)⟩

/-- R184: the budget unit starts at the limit of the configuration, and takes the first edge where the frame timer starts. -/
theorem pass_budget (s : State) (c : Config) (now : Stamp) (pins : BitVec 8) :
    ∃ u : State, u.config = some c ∧ u.budget = Budget.initial c.budget.limit s.timer.edges ∧
      (BudgetAlike u (s.pass c now pins) ∨ BudgetAlike (u.budgetEdge c) (s.pass c now pins)) := by
  have emptied : s.peersAtPass.timer = s.timer := by
    unfold State.peersAtPass
    split <;> rfl
  have continued (t : State) (r : TimerRun) : BudgetAlike t (t.continueTimer r c) := by
    obtain ⟨r', h⟩ := continueTimer_eq t r c
    rw [h]
    exact {}
  have started (t : State) : ∃ u, BudgetAlike t u ∧ BudgetAlike (u.budgetEdge c) (t.startTimer c now pins) := by
    refine ⟨_, ?_, .trans (blocksEdge_budgetAlike _ c pins true) {}⟩
    exact .trans (b := t.setTimer _) {} (beforeBudget_turn _ c true).toBudgetAlike
  unfold State.pass
  dsimp only
  rw [← emptied]
  generalize s.peersAtPass = p
  have numbered := (startNumber_frame ((p.setStartup (p.startup.pass c)).startBlocks c) c).budgetAlike
  generalize ((p.setStartup (p.startup.pass c)).startBlocks c).startNumber c = n at numbered
  split
  · exact ⟨n, numbered.config, numbered.budget, .inl (continued n _)⟩
  · obtain ⟨u, alike, edge⟩ := started n
    exact ⟨u, alike.config.trans numbered.config, alike.budget.trans numbered.budget, .inr edge⟩

theorem initial_inRange {c : BudgetConfig} (ordered : BudgetValuesOrdered c) (label : Nat) :
    (Budget.initial c.limit label).InRange c :=
  ⟨ordered.limit, Nat.le_refl _, ordered.floor, Nat.le_refl _, ordered.floor, Nat.le_refl _⟩

theorem pass_budgetSound (s : State) {c : Config} (ordered : BudgetValuesOrdered c.budget) (now : Stamp)
    (pins : BitVec 8) : (s.pass c now pins).BudgetSound := by
  obtain ⟨u, config, budget, reached⟩ := pass_budget s c now pins
  have begun : u.BudgetSound := budgetSound_iff.mpr fun x hx => by
    obtain rfl : c = x := Option.some.inj (config.symm.trans hx)
    rw [budget]
    exact ⟨ordered, fun _ => initial_inRange ordered _⟩
  rcases reached with alike | alike
  · exact alike.sound begun
  · exact alike.sound (budgetEdge_sound begun config)

/-! ## Sag events (R158) -/

/-- Both rails stand above, and no sag event is counted. -/
structure Budget.Unsagged (b : Budget) : Prop where
  tileRail : b.tileRail = .above
  fixtureRail : b.fixtureRail = .above
  tileSag : b.counts.tileSag = 0
  fixtureSag : b.counts.fixtureSag = 0

/-- R157: an edge takes no sample. -/
theorem budgetEdge_unsagged {s : State} (h : s.budget.Unsagged) (c : Config) : (s.budgetEdge c).budget.Unsagged := by
  obtain ⟨limit, run, down, judged, -⟩ := judgeFrame_eq s.budget c.budget s.ahead.limit
  unfold State.budgetEdge
  dsimp only
  rw [setBudget_budget, judged]
  exact ⟨h.tileRail, h.fixtureRail, h.tileSag, h.fixtureSag⟩

theorem pass_unsagged (s : State) (c : Config) (now : Stamp) (pins : BitVec 8) :
    (s.pass c now pins).budget.Unsagged := by
  obtain ⟨u, -, budget, reached⟩ := pass_budget s c now pins
  have begun : u.budget.Unsagged := by
    rw [budget]
    exact ⟨rfl, rfl, rfl, rfl⟩
  rcases reached with alike | alike <;> rw [alike.budget]
  · exact begun
  · exact budgetEdge_unsagged begun c

/-- R184: CONFIG_READ_END with a block that passes. -/
theorem exec_configReadEnd_of_pass {s : State} {c : Config} (hr : s.reading = true) (hj : s.judgeRead = .ok c)
    (now : Stamp) (pins : BitVec 8) :
    exec (.configReadEnd now pins) s = .next ((s.advanceTo now).endRead.pass c now pins) := by
  obtain ⟨k, hk⟩ := advanceTo_eq s now
  have judged : (s.advanceTo now).judgeRead = .ok c := by
    rw [hk]
    exact hj
  refine congrArg Host.Outcome.next ((if_pos hr).trans ?_)
  dsimp only
  rw [judged]

/-- Settles O50: a sample by what it makes of either rail, and the start by what a block that passes leaves. -/
theorem sagEvents : Obligations.SagEvents := by
  refine ⟨fun s cfg tile fixture ahead hp hc => ?sample, fun s now pins c hr hj => ?start⟩
  case sample =>
    intro b x y low
    have marked : low = (decide (x = .below) || decide (y = .below)) := Bool.decide_or ..
    rw [exec_railSample hp hc, marked]
    rfl
  case start =>
    obtain ⟨tileRail, fixtureRail, tileSag, fixtureSag⟩ := pass_unsagged (s.advanceTo now).endRead c now pins
    exact ⟨_, exec_configReadEnd_of_pass hr hj now pins, tileRail, fixtureRail, tileSag, fixtureSag⟩

/-! ## The commands that leave the budget unit -/

theorem advanceTo_budgetAlike (s : State) (now : Stamp) : BudgetAlike s (s.advanceTo now) := by
  obtain ⟨t, h⟩ := advanceTo_eq s now
  rw [h]
  exact {}

theorem choosePort_budgetAlike (s : State) : BudgetAlike s s.choosePort :=
  (LanesAndFetch.ofFetch (choosePort_frame s)).budgetAlike

theorem askRead_budgetAlike (s : State) : BudgetAlike s s.askRead := by
  unfold State.askRead
  dsimp only
  split <;> exact {}

theorem endRead_budgetAlike (s : State) : BudgetAlike s s.endRead := by
  obtain ⟨f, h⟩ := endRead_eq s
  rw [h]
  exact {}

theorem hearPeer_budgetAlike (s : State) (o : Station) (f : Option SyncFields) : BudgetAlike s (s.hearPeer o f) := by
  unfold State.hearPeer
  split <;> exact {}

theorem hearStatusRole_budgetAlike (s : State) (o : Station) (r : Role) : BudgetAlike s (s.hearStatusRole o r) := by
  unfold State.hearStatusRole
  split <;> exact {}

theorem takePacket_budgetAlike (s : State) (p : RowPacket) : BudgetAlike s (s.takePacket p) := by
  unfold State.takePacket
  repeat' split
  all_goals exact {}

theorem takeQuery_budgetAlike (s : State) (own : Option Station) (o : Station) (q : QueryFields) :
    BudgetAlike s (s.takeQuery own o q) := by
  unfold State.takeQuery
  dsimp only
  repeat' split
  all_goals exact {}

/-- R44: work on the aged entries leaves the budget unit where the work does. -/
theorem onAged_budgetAlike {s : State} {work : State → State} (h : ∀ t, BudgetAlike t (work t)) :
    BudgetAlike s (s.onAged work) := by
  unfold State.onAged
  split
  · exact h s
  · exact .trans (agePeers_frame ..).budgetAlike (.trans (h _) {})

theorem firstStep_budgetAlike (s : State) (m : LinkMessage) (sync : Option SyncFields) (isClaim : Bool) :
    BudgetAlike s (s.firstStep m sync isClaim) :=
  .trans (advanceTo_budgetAlike s m.stamp) <|
    .trans (b := (s.advanceTo m.stamp).setLink _) {} <|
      .trans (hearPeer_budgetAlike ..) (hearOrigin_frame ..).budgetAlike

/-- R23: a message is taken no further than the first step, or its consumer takes it after that step. -/
theorem receive_budget_spec (s : State) (k : MessageKind) (m : LinkMessage)
    (consumer : State → Option Station → State) :
    BudgetAlike s (s.receive k m consumer) ∨
      ∃ t, BudgetAlike s t ∧ s.receive k m consumer = consumer t s.heldNumber := by
  unfold State.receive
  dsimp only
  split
  · split
    · exact .inr ⟨_, firstStep_budgetAlike .., rfl⟩
    · exact .inl (.trans (firstStep_budgetAlike s m _ _) {})
  · exact .inl {}

theorem receive_budgetAlike (s : State) (k : MessageKind) (m : LinkMessage)
    {consumer : State → Option Station → State} (h : ∀ t own, BudgetAlike t (consumer t own)) :
    BudgetAlike s (s.receive k m consumer) := by
  rcases receive_budget_spec s k m consumer with alike | ⟨t, alike, taken⟩
  · exact alike
  · rw [taken]
    exact alike.trans (h ..)

theorem selfReceive_budgetAlike (s : State) (a : Attempt) (head : Option CueMessage) :
    BudgetAlike s (s.selfReceive a head) := by
  unfold State.selfReceive
  repeat' split
  · exact (ownSyncSent_frame ..).budgetAlike
  · exact (ownClaimSent_frame ..).budgetAlike
  · exact {}
  · exact {}
  · exact {}
  · exact (deliverCue_frame ..).budgetAlike
  · exact {}

theorem raiseRequest_budgetAlike (s : State) : BudgetAlike s s.raiseRequest := by
  have risen : BudgetAlike s (s.setFetch { s.fetch with loaderRequest := true }) := {}
  unfold State.raiseRequest
  dsimp only
  repeat' split
  · exact {}
  · exact risen.trans (choosePort_budgetAlike _)
  · exact risen

theorem loseLeader_budgetAlike (s : State) (n : Station) : BudgetAlike s (s.loseLeader n) := by
  unfold State.loseLeader
  repeat' split
  · exact {}
  · exact .trans (lockEdge_frame s _).budgetAlike (.trans (onAged_timer _ _ roleEdge_frame).budgetAlike {})
  · exact {}
  · exact {}

theorem execPeerAgeOut_budgetAlike (n : Station) (s : State) :
    ∃ t, execPeerAgeOut n s = .next t ∧ BudgetAlike s t := by
  have retried (t : State) : BudgetAlike t (t.retryNumber n) := by
    unfold State.retryNumber
    split <;> exact {}
  refine ⟨_, rfl, ?_⟩
  split
  · exact .trans (ageOut_frame s n).budgetAlike (.trans (loseLeader_budgetAlike ..) (retried _))
  · exact {}

theorem execLinkFault_budgetAlike (k : LinkFaultKind) (phase : SignalPhase) (s : State) :
    ∃ t, execLinkFault k phase s = .next t ∧ BudgetAlike s t := by
  refine ⟨_, rfl, ?_⟩
  split
  · exact .trans (b := s.setLink { s.link with lastFault := FaultCode.ofKind k }) {} <|
      .trans (attemptFailed_frame _).budgetAlike <| .trans (countFault_frame ..).budgetAlike {}
  · exact {}

theorem execReferencePulse_budgetAlike (now : Stamp) (s : State) :
    ∃ t, execReferencePulse now s = .next t ∧ BudgetAlike s t := by
  refine ⟨_, rfl, .trans (advanceTo_budgetAlike s now) ?_⟩
  generalize s.advanceTo now = t
  split
  · exact {}
  · dsimp only
    repeat' split
    all_goals exact {}

theorem execLoaderRelease_budgetAlike (drop : LoaderDrop) (s : State) :
    ∃ t, execLoaderRelease drop s = .next t ∧ BudgetAlike s t := by
  have ended (t : State) (b : Bool) : BudgetAlike t (if b = true then t.endGrant drop.writes else t) := by
    unfold State.endGrant
    dsimp only
    repeat' split
    all_goals exact {}
  have chosen (t : State) (b : Bool) : BudgetAlike t
      (if drop.risesAgain = true then t.raiseRequest else if b && decide (t.startup.phase ≠ .reset) then t.choosePort
       else t) := by
    repeat' split
    · exact raiseRequest_budgetAlike t
    · exact choosePort_budgetAlike t
    · exact {}
  exact ⟨_, rfl, .trans (b := s.setFetch { s.fetch with loaderRequest := false }) {}
    (.trans (ended _ s.fetch.grant) (chosen _ s.fetch.grant))⟩

/-- The commands that reach configuration, phase or budget unit: resets, the end of the configuration read, a restart, and
of the budget unit's own the edge, the rail sample and the step up. -/
def reachesBudget : Instr → Bool
  | .coldReset _ | .resetRelease _ | .configReadEnd _ _ | .restartReceived _ | .frameEdge _ | .limitStepUp
  | .railSample _ _ _ => true
  | _ => false

/-- Every other command leaves them. -/
theorem exec_budgetAlike (c : Instr) (hc : reachesBudget c = false) (s : State) :
    ∃ t, exec c s = .next t ∧ BudgetAlike s t := by
  cases c with
  | coldReset | resetRelease | configReadEnd | restartReceived | frameEdge | limitStepUp | railSample => cases hc
  | attemptStart now =>
    refine ⟨_, rfl, .trans (advanceTo_budgetAlike s now) ?_⟩
    split <;> exact {}
  | arbitrationLoss => exact ⟨_, rfl, (attemptFailed_frame s).budgetAlike⟩
  | claimLoss =>
    refine ⟨_, rfl, ?_⟩
    repeat' split
    · exact .trans (attemptFailed_frame s).budgetAlike (claimLost_frame ..).budgetAlike
    · exact {}
    · exact {}
  | linkFault kind phase => exact execLinkFault_budgetAlike kind phase s
  | messageSent =>
    refine ⟨_, rfl, ?_⟩
    split
    · exact {}
    · exact .trans (b := s.setLink _) {} (selfReceive_budgetAlike ..)
  | syncReceived m => exact ⟨_, rfl, receive_budgetAlike s _ m fun _ _ => (takeSync_frame ..).budgetAlike⟩
  | claimReceived m => exact ⟨_, rfl, receive_budgetAlike s _ m fun _ _ => (hearClaim_frame ..).budgetAlike⟩
  | goReceived m => exact ⟨_, rfl, receive_budgetAlike s _ m fun _ _ => (deliverCue_frame ..).budgetAlike⟩
  | holdReceived m => exact ⟨_, rfl, receive_budgetAlike s _ m fun _ _ => (deliverCue_frame ..).budgetAlike⟩
  | releaseReceived m => exact ⟨_, rfl, receive_budgetAlike s _ m fun _ _ => (deliverCue_frame ..).budgetAlike⟩
  | tallyReceived m => exact ⟨_, rfl, receive_budgetAlike s _ m fun _ _ => {}⟩
  | queryReceived m => exact ⟨_, rfl, receive_budgetAlike s _ m fun _ _ => takeQuery_budgetAlike ..⟩
  | answerReceived m => exact ⟨_, rfl, receive_budgetAlike s _ m fun _ _ => {}⟩
  | statusReceived m =>
    refine ⟨_, rfl, receive_budgetAlike s _ m fun t _ => ?_⟩
    split
    · exact {}
    · exact hearStatusRole_budgetAlike ..
  | unknownMessageReceived cls kind m =>
    refine ⟨_, rfl, ?_⟩
    split
    · exact firstStep_budgetAlike ..
    · exact {}
  | startEnd =>
    refine ⟨_, rfl, ?_⟩
    repeat' split
    · exact {}
    · exact .trans (onAged_timer s _ fun t => endStart_frame t _).budgetAlike {}
    · exact {}
    · exact {}
  | candidateChoice =>
    refine ⟨_, rfl, ?_⟩
    repeat' split
    · exact .trans (onAged_budgetAlike fun t => (chooseCandidate_frame t).budgetAlike) {}
    · exact {}
    · exact {}
  | peerAgeOut n => exact execPeerAgeOut_budgetAlike n s
  | triggerQualified e =>
    refine ⟨_, rfl, ?_⟩
    repeat' split
    · exact .trans (samplePins_frame ..).budgetAlike {}
    · exact {}
    · exact {}
  | referencePulse now => exact execReferencePulse_budgetAlike now s
  | referenceTimeout =>
    refine ⟨_, rfl, ?_⟩
    split
    · exact {}
    · split
      · exact {}
      · exact .trans (advanceTo_budgetAlike ..) {}
  | rowArrival levels =>
    exact ⟨_, rfl, .trans (b := s.setPixelPort (s.pixelPort.run levels).1) {}
      (foldl_frame BudgetAlike _ .refl (fun _ _ _ => .trans) takePacket_budgetAlike _ _)⟩
  | fetchComplete => exact ⟨_, rfl, (completeFetch_frame s).budgetAlike⟩
  | fetchTimeout lane =>
    refine ⟨_, rfl, ?_⟩
    split
    · exact (timeOut_frame ..).budgetAlike
    · exact {}
  | loaderRequest => exact ⟨_, rfl, raiseRequest_budgetAlike s⟩
  | loaderRelease drop => exact execLoaderRelease_budgetAlike drop s
  | detachedRecovery levels =>
    refine ⟨_, rfl, ?_⟩
    dsimp only
    repeat' split
    all_goals exact {}
  | linkJoin | staleBeacon | triggerExpired | lockQuietLoss | claimWindowEnd | duplicateClear | wallHeld | rowCommit =>
    refine ⟨_, rfl, ?_⟩
    repeat' split
    all_goals exact {}

/-! ## The commands that reach the budget unit -/

/-- R180: a part that leaves RESET does not run yet. -/
theorem execResetRelease_budgetSound (by_ : ResetReleaser) {s : State} (hs : s.BudgetSound) :
    ∃ t, execResetRelease by_ s = .next t ∧ t.BudgetSound := by
  refine ⟨_, rfl, ?_⟩
  split
  · rename_i resting
    have phase : (s.setStartup (s.startup.letGo by_)).startup.phase = .reset := by
      cases by_ <;> exact resting
    dsimp only
    split
    · exact budgetSound_of_not_running hs rfl (by rw [phase]; decide)
    · refine (askRead_budgetAlike _).sound (budgetSound_of_not_running hs rfl ?_)
      exact (nofun : Phase.configLoad ≠ .running)
  · exact hs

/-- R184, R185: a block that passes brings its own values, and one that fails ends in SAFE. -/
theorem execConfigReadEnd_budgetSound (now : Stamp) (pins : BitVec 8) {s : State} (hs : s.BudgetSound) :
    ∃ t, execConfigReadEnd now pins s = .next t ∧ t.BudgetSound := by
  refine ⟨_, rfl, ?_⟩
  dsimp only
  split
  · split
    · rename_i judged
      exact pass_budgetSound _ (judgeRead_budget_ordered judged) now pins
    · have ended := (advanceTo_budgetAlike s now).trans (endRead_budgetAlike _)
      exact budgetSound_of_not_running (ended.sound hs) rfl (nofun : Phase.safe ≠ .running)
  · exact hs

/-- R188: a warm restart ends RUNNING and holds the configuration. -/
theorem takeRestart_budgetSound {s : State} (hs : s.BudgetSound) (own : Option Station) (target : Nat) :
    (s.takeRestart own target).BudgetSound := by
  have restarted : s.warmRestart.BudgetSound := by
    refine (askRead_budgetAlike _).sound (budgetSound_of_not_running hs rfl ?_)
    exact (nofun : Phase.configLoad ≠ .running)
  unfold State.takeRestart
  repeat' split
  · exact hs
  · exact restarted
  · exact hs
  · exact hs

theorem execRestartReceived_budgetSound (m : LinkMessage) {s : State} (hs : s.BudgetSound) :
    ∃ t, execRestartReceived m s = .next t ∧ t.BudgetSound := by
  refine ⟨_, rfl, ?_⟩
  rcases receive_budget_spec s .restart m fun s own => s.takeRestart own (fieldAt m.payload 0 1) with
    alike | ⟨t, alike, taken⟩
  · exact alike.sound hs
  · rw [taken]
    exact takeRestart_budgetSound (alike.sound hs) _ _

/-- R158: a sample changes neither limit nor scale. -/
theorem execRailSample_budgetSound (tile fixture : Nat) (ahead : Bool) {s : State} (hs : s.BudgetSound) :
    ∃ t, execRailSample tile fixture ahead s = .next t ∧ t.BudgetSound := by
  refine ⟨_, rfl, ?_⟩
  split <;> exact hs

/-- R160: a step up stays below the limit. -/
theorem execLimitStepUp_budgetSound {s : State} (hs : s.BudgetSound) :
    ∃ t, execLimitStepUp s = .next t ∧ t.BudgetSound := by
  refine ⟨_, rfl, ?_⟩
  split
  · rename_i c _ hc
    split
    · obtain ⟨ordered, inside⟩ := budgetSound_iff.mp hs c hc
      refine budgetSound_iff.mpr fun x hx => ?_
      obtain rfl : c = x := Option.some.inj (hc.symm.trans hx)
      refine ⟨ordered, fun hp => ?_⟩
      obtain ⟨least, most⟩ := stepUp_range ordered (inside hp).least
      exact { inside hp with least := least, most := most }
    · exact hs
  · exact hs

/-- Every command keeps the ranges. -/
theorem exec_budgetSound (c : Instr) {s : State} (hs : s.BudgetSound) : ∃ t, exec c s = .next t ∧ t.BudgetSound := by
  have other (hc : reachesBudget c = false) : ∃ t, exec c s = .next t ∧ t.BudgetSound :=
    let ⟨t, ht, alike⟩ := exec_budgetAlike c hc s
    ⟨t, ht, alike.sound hs⟩
  cases c with
  | coldReset by_ => cases by_ <;> exact ⟨_, rfl, fun _ hc => nomatch hc⟩
  | resetRelease by_ => exact execResetRelease_budgetSound by_ hs
  | configReadEnd now pins => exact execConfigReadEnd_budgetSound (s := s) now pins hs
  | restartReceived m => exact execRestartReceived_budgetSound m hs
  | frameEdge pins =>
    refine ⟨_, rfl, ?_⟩
    split
    · exact edge_budgetSound hs (by assumption) pins
    · exact hs
  | limitStepUp => exact execLimitStepUp_budgetSound hs
  | railSample tile fixture ahead => exact execRailSample_budgetSound tile fixture ahead hs
  | _ => exact other rfl

/-- Settles O60: a tick leaves the budget unit, and every command keeps its ranges. -/
theorem budgetStaysInRange : Obligations.BudgetStaysInRange := by
  intro s t hs h
  unfold step at h
  split at h
  · cases h
    unfold State.idle
    split <;> exact hs
  · rename_i c rest _
    obtain ⟨u, hu, sound⟩ := exec_budgetSound c (s := s.setPending rest) hs
    rw [hu] at h
    cases h
    exact sound

end Sys2Proof.Machine

end

section
/-! SUPPORT. What a TALLY, a STATUS and a QUERY leave, each a consumer given the state after the first delivery step. -/

namespace Sys2Proof.Machine

open Sys2Proof

/-! ## The fields of the payloads -/

theorem fieldAt_byte (bytes : List Byte) (k : Nat) : fieldAt bytes k 1 = (bytes.getD k 0).toNat := by
  simp [fieldAt, bigEndian]

theorem readTally_pair (mask on : Byte) : readTally [mask, on] = ⟨mask, on⟩ := by
  simp [readTally, fieldAt_byte]

theorem readQuery_triple (target page part : Byte) :
    readQuery [target, page, part] = ⟨target.toNat, page, Fin.ofNat 4 part.toNat⟩ := by
  simp [readQuery, fieldAt_byte]

theorem readStatusRole_cons (b : Byte) (rest : List Byte) : readStatusRole (b :: rest) = Role.ofCode b.toNat := by
  simp [readStatusRole, fieldAt_byte]

theorem code_ofCode {n : Nat} (h : n ≤ 4) : (Role.ofCode n).code = n := by
  interval_cases n <;> rfl

/-- R190: a code that names no role is taken as FREE. -/
theorem ofCode_of_unused {n : Nat} (h : 4 < n) : Role.ofCode n = .free := by
  obtain ⟨k, rfl⟩ : ∃ k, n = k + 5 := Nat.exists_eq_add_of_le' h
  rfl

/-! ## The first step and the consumers -/

/-- R38: of a message that concerns no number of the node the first step is the entry of its origin. -/
theorem firstStep_entered {s : State} {m : LinkMessage} (h : s.Indifferent m.origin) (sync : Option SyncFields)
    (isClaim : Bool) : s.firstStep m sync isClaim = s.entered m sync := by
  have unheard : (s.entered m sync).Indifferent m.origin := by
    unfold State.Indifferent
    rwa [entered_number]
  rw [firstStep_of_entered (heldNumber_of_indifferent h), hearOrigin_of_indifferent unheard]

theorem entered_triggers (s : State) (m : LinkMessage) (sync : Option SyncFields) :
    (s.entered m sync).triggers = s.triggers := advanceTo_triggers ..

theorem entered_report (s : State) (m : LinkMessage) (sync : Option SyncFields) :
    (s.entered m sync).report = s.report := advanceTo_report ..

theorem exec_tallyReceived {s : State} {m : LinkMessage} (hr : s.receives = true) (hi : s.Indifferent m.origin)
    {mask on : Byte} (hp : m.payload = [mask, on]) :
    exec (.tallyReceived m) s =
      .next ((s.entered m none).setTriggers (s.triggers.hearTally m.origin ⟨mask, on⟩)) := by
  refine congrArg Host.Outcome.next ((receive_of_fits hr (by decide) (by rw [hp]; rfl) _).trans ?_)
  rw [firstStep_entered hi, entered_triggers, hp, readTally_pair]

theorem hearTally_camera (t : Triggers) (o : Station) (m : TallyBody) (i : Fin 8) :
    (t.hearTally o m).cameras.get i =
      if m.mask.getLsbD i.val then ⟨m.on.getLsbD i.val, some o⟩ else t.cameras.get i := by
  simp [Triggers.hearTally, Vector.get_eq_getElem]

theorem hearStatusRole_of_present {s : State} {o : Station} {p : Peer} (h : s.peers.get o = some p) (r : Role) :
    s.hearStatusRole o r = s.setPeer o (some { p with role := some r }) := by
  unfold State.hearStatusRole
  rw [h]

/-- R38: a STATUS of its length sets the role of the entry its first step left. -/
theorem exec_statusReceived {s : State} {m : LinkMessage} (hr : s.receives = true) (hi : s.Indifferent m.origin)
    {b : Byte} {rest : List Byte} (hp : m.payload = b :: rest) (hl : rest.length = 9) :
    exec (.statusReceived m) s =
      .next
        ((s.entered m none).setPeer m.origin
          (some { s.entryHeard m.origin none with role := some (Role.ofCode b.toNat) })) := by
  have fits : m.payload.length = MessageKind.status.length := by rw [hp, List.length_cons, hl]; rfl
  refine congrArg Host.Outcome.next ((receive_of_fits hr (by decide) fits _).trans ?_)
  rw [if_neg (heldNumber_of_indifferent hi), firstStep_entered hi, hearStatusRole_of_present (entered_peer ..), hp,
    readStatusRole_cons]

/-- Settles O29: TALLY and STATUS each write what their consumer writes. -/
theorem tallyAndStatusTaken : Obligations.TallyAndStatusTaken := by
  refine ⟨fun s m mask on hr hi hp => ⟨_, exec_tallyReceived hr hi hp, ?_, fun i => ?_⟩,
    fun s m b rest hr hi hp hl => ⟨_, s.entryHeard m.origin none,
      { s.entryHeard m.origin none with role := some (Role.ofCode b.toNat) }, exec_statusReceived hr hi hp hl, ?_⟩⟩
  · rw [firstStep_entered hi]
    rfl
  · have camera := hearTally_camera s.triggers m.origin ⟨mask, on⟩ i
    exact ⟨fun h => camera.trans (if_pos h), fun h => camera.trans (if_neg (Bool.eq_false_iff.mp h))⟩
  · rw [firstStep_entered hi]
    exact ⟨rfl, entered_peer .., by simp [State.setPeer, Vector.get_eq_getElem], rfl, rfl, rfl,
      fun h => ⟨_, rfl, code_ofCode h⟩, fun h => congrArg some (ofCode_of_unused h), fun n hn => get_set_of_ne _ hn _⟩

/-! ## QUERY (R175) -/

theorem exec_queryReceived {s : State} {m : LinkMessage} (hr : s.receives = true) {target page part : Byte}
    (hp : m.payload = [target, page, part]) :
    exec (.queryReceived m) s =
      .next
        ((s.firstStep m none false).takeQuery s.heldNumber m.origin ⟨target.toNat, page, Fin.ofNat 4 part.toNat⟩) := by
  refine congrArg Host.Outcome.next ((receive_of_fits hr (by decide) (by rw [hp]; rfl) _).trans ?_)
  rw [hp, readQuery_triple]
  rfl

/-- R175: a QUERY for the number held is counted and its ANSWER written. -/
theorem takeQuery_of_target {s : State} {n o : Station} {q : QueryFields} (h : q.target = n.val) :
    s.takeQuery (some n) o q =
      { s with
        report :=
          ⟨raise16 s.report.answered, if 9 < q.page.toNat then raise16 s.report.unknownPage else s.report.unknownPage⟩
        link := s.link.writeAnswer (s.answerTo o q) } := if_pos h

theorem takeQuery_of_other {s : State} {own : Option Station} {o : Station} {q : QueryFields}
    (h : ∀ n, own = some n → q.target ≠ n.val) : s.takeQuery own o q = s := by
  cases own with
  | none => rfl
  | some n => exact if_neg (h n rfl)

theorem page_of_unknown (s : State) {page : Nat} (h : 9 < page) : s.page page = List.replicate 40 0 := by
  obtain ⟨k, rfl⟩ : ∃ k, page = k + 10 := Nat.exists_eq_add_of_le' h
  rfl

/-- Settles O30: by whether the number asked is the one held. -/
theorem queryAnswered : Obligations.QueryAnswered := by
  intro s m target page part hr hi hp after
  have counted : after.report = s.report := by
    rw [show after = _ from firstStep_entered hi none false, entered_report]
  refine ⟨fun n hn ht => ?_, fun h => ?_, page_of_unknown after⟩
  · rw [exec_queryReceived hr hp, hn, takeQuery_of_target ht, ← counted]
    rfl
  · rw [exec_queryReceived hr hp, takeQuery_of_other h]

end Sys2Proof.Machine

end

section
/-! SUPPORT. What a cue message delivered to the own lanes reads and what it leaves: blocks it does not see, and the cues
that run. -/

namespace Sys2Proof.Machine

open Sys2Proof

/-! ## Blocks a cue message does not see -/

/-- A change of a state that leaves alone all that a cue message reads, and that may come before or after a write of the
lane engine, the fetch unit or the frame timer. -/
structure Aloof (g : State → State) : Prop where
  startup : ∀ s, (g s).startup = s.startup := by exact fun _ => rfl
  config : ∀ s, (g s).config = s.config := by exact fun _ => rfl
  tick : ∀ s, (g s).tick = s.tick := by exact fun _ => rfl
  timer : ∀ s, (g s).timer = s.timer := by exact fun _ => rfl
  lanes : ∀ s, (g s).lanes = s.lanes := by exact fun _ => rfl
  fetch : ∀ s, (g s).fetch = s.fetch := by exact fun _ => rfl
  setLanes : ∀ s x, (g s).setLanes x = g (s.setLanes x) := by exact fun _ _ => rfl
  setFetch : ∀ s x, (g s).setFetch x = g (s.setFetch x) := by exact fun _ _ => rfl
  setTimer : ∀ s x, (g s).setTimer x = g (s.setTimer x) := by exact fun _ _ => rfl

theorem aloof_setAhead (x : Ahead) : Aloof fun s => s.setAhead x := {}

theorem aloof_setTriggers (x : Triggers) : Aloof fun s => s.setTriggers x := {}

theorem aloof_setLink (x : Link) : Aloof fun s => s.setLink x := {}

section Aloof

variable {g : State → State} (h : Aloof g) (s : State)

include h

theorem Aloof.frame : (g s).frame = s.frame := by
  unfold State.frame
  rw [h.timer]

theorem Aloof.atFrame (f : FrameNo) : (g s).atFrame f = g (s.atFrame f) := by
  unfold State.atFrame State.setRun
  simp only [h.timer, h.setTimer]
  split <;> rfl

theorem Aloof.lane (i : Fin 4) : (g s).lane i = s.lane i := by
  unfold State.lane
  rw [h.lanes]

theorem Aloof.setLane (i : Fin 4) (l : Lane) : (g s).setLane i l = g (s.setLane i l) := by
  unfold State.setLane
  rw [h.lanes, h.setLanes]

theorem Aloof.setNodeCounts (c : NodeCounts) : (g s).setNodeCounts c = g (s.setNodeCounts c) := by
  unfold State.setNodeCounts
  rw [h.lanes, h.setLanes]

theorem Aloof.choosePort : (g s).choosePort = g s.choosePort := by
  unfold State.choosePort
  simp only [h.fetch, h.startup, h.frame, h.tick, h.setFetch]
  split
  · rfl
  · split
    · rfl
    · split <;> rfl

theorem Aloof.withdrawRequest (i : Fin 4) : (g s).withdrawRequest i = g (s.withdrawRequest i) := by
  unfold State.withdrawRequest
  simp only [h.fetch, h.setFetch, h.choosePort]
  split
  · rfl
  · split <;> rfl

theorem Aloof.handRequest (i : Fin 4) (p : Fin 16) (cue : BitVec 16) (e : FrameNo) :
    (g s).handRequest i p cue e = g (s.handRequest i p cue e) := by
  unfold State.handRequest
  simp only [h.withdrawRequest, h.fetch, h.frame, h.tick, h.setFetch]
  split <;> rfl

theorem Aloof.makePending (i : Fin 4) (cue : BitVec 16) (e : FrameNo) (o : Origin) (k : GoKind) :
    (g s).makePending i cue e o k = g (s.makePending i cue e o k) := by
  unfold State.makePending
  simp only [h.lane, h.setLane, h.handRequest]
  split <;> rfl

theorem Aloof.contestGo (i : Fin 4) (cue : BitVec 16) (e : FrameNo) (o : Origin) (k : GoKind) :
    (g s).contestGo i cue e o k = g (s.contestGo i cue e o k) := by
  unfold State.contestGo
  simp only [h.lane, h.withdrawRequest, h.setLane, h.makePending]
  split
  · rfl
  · split <;> rfl

theorem Aloof.laneTakes (i : Fin 4) (m : CueMessage) (o : Origin) :
    (g s).laneTakes i m o = g (s.laneTakes i m o) := by
  unfold State.laneTakes
  split
  · unfold State.laneGo
    simp only [h.lane, h.frame, h.lanes, h.setNodeCounts, h.contestGo]
    split
    · rfl
    · split <;> rfl
  · simp only [laneControl_eq, h.lane, h.frame, h.setLane]
  · simp only [laneControl_eq, h.lane, h.frame, h.setLane]

theorem Aloof.addressedLanes (m : CueMessage) : (g s).addressedLanes m = s.addressedLanes m := by
  unfold State.addressedLanes
  simp only [h.config, h.lane]

/-- R115, R116: a cue message delivered before such a change or after it. -/
theorem Aloof.deliverCue (m : CueMessage) (o : Origin) : (g s).deliverCue m o = g (s.deliverCue m o) := by
  have taken (is : List (Fin 4)) (t : State) :
      is.foldl (fun s i => s.laneTakes i m o) (g t) = g (is.foldl (fun s i => s.laneTakes i m o) t) := by
    induction is generalizing t with
    | nil => rfl
    | cons i rest ih => rw [List.foldl_cons, List.foldl_cons, h.laneTakes, ih]
  have running : (g s).isRunning = s.isRunning := by
    unfold State.isRunning
    rw [h.startup]
  unfold State.deliverCue
  simp only [running, h.addressedLanes, h.lanes, h.frame, h.setNodeCounts, taken]
  split
  · rfl
  · split
    · rfl
    · split
      · rfl
      · split <;> rfl

end Aloof

/-! ## Bindings and cues that run -/

/-- Binding and record of the cue that runs, if one does. -/
def Lane.boundCue (l : Lane) : Option (Fin 16) × Option CueRecord := (l.binding, l.current.map fun c => c.record)

/-- Every lane has its binding and runs the cue it ran. -/
structure CuesKept (s t : State) : Prop where
  lane : ∀ i, (t.lane i).boundCue = (s.lane i).boundCue := by exact fun _ => rfl

theorem CuesKept.refl (s : State) : CuesKept s s := {}

theorem CuesKept.trans {a b c : State} (h : CuesKept a b) (k : CuesKept b c) : CuesKept a c :=
  ⟨fun i => (k.lane i).trans (h.lane i)⟩

theorem CuesKept.ofLanes {s t : State} (h : t.lanes = s.lanes) : CuesKept s t :=
  ⟨fun i => congrArg (fun e : LaneEngine => (e.lanes.get i).boundCue) h⟩

theorem setLane_cues {s : State} {i : Fin 4} {l : Lane} (h : l.boundCue = (s.lane i).boundCue) :
    CuesKept s (s.setLane i l) where
  lane k := by
    by_cases hk : k = i
    · subst hk
      rw [lane_setLane, h]
    · rw [lane_setLane_of_ne s hk]

theorem makePending_cues (s : State) (i : Fin 4) (cue : BitVec 16) (e : FrameNo) (o : Origin) (k : GoKind) :
    CuesKept s (s.makePending i cue e o k) where
  lane j := by
    have only := makePending_pendingOnly s i cue e o k
    by_cases hj : j = i
    · subst hj
      have same := congrArg Lane.boundCue (only.lane none)
      exact same
    · rw [only.others j hj]

theorem contestGo_cues (s : State) (i : Fin 4) (cue : BitVec 16) (e : FrameNo) (o : Origin) (k : GoKind) :
    CuesKept s (s.contestGo i cue e o k) := by
  unfold State.contestGo
  split
  · exact makePending_cues ..
  · split
    · refine .trans (.ofLanes (onlyFetch_lanes (withdrawRequest_frame s i))) ?_
      exact .trans (setLane_cues (by rfl)) (makePending_cues ..)
    · exact setLane_cues rfl

/-- R131, R134, R135: a HOLD or RELEASE moves or pauses the cue that runs; it starts none. -/
theorem controlled_boundCue (l : Lane) (f : FrameNo) (kind : ControlKind) (e : FrameNo) :
    (l.controlled f kind e).boundCue = l.boundCue := by
  have moved (c c' : CurrentCue) (hc : l.current = some c) (hr : c'.record = c.record) :
      { l with current := some c' }.boundCue = l.boundCue := by simp [Lane.boundCue, hc, hr]
  unfold Lane.controlled
  split
  · unfold Lane.joinControl
    split <;> rfl
  · cases kind with
    | hold =>
      dsimp only [Lane.lateHold]
      split
      · rfl
      · split
        · rfl
        · split
          · refine moved _ _ (by assumption) ?_
            rfl
          · rfl
    | release =>
      dsimp only [Lane.lateRelease]
      split
      · rfl
      · split
        · rfl
        · split
          · refine moved _ _ (by assumption) ?_
            rfl
          · rfl

/-- R116: a message starts no cue; a lane does at an edge. -/
theorem deliverCue_cues (s : State) (m : CueMessage) (o : Origin) : CuesKept s (s.deliverCue m o) := by
  have controlled (t : State) (i : Fin 4) (kind : ControlKind) (e : FrameNo) : CuesKept t (t.laneControl i kind e) := by
    rw [laneControl_eq]
    exact setLane_cues (controlled_boundCue ..)
  have taken (t : State) (i : Fin 4) : CuesKept t (t.laneTakes i m o) := by
    unfold State.laneTakes State.laneGo
    split
    · split
      · exact contestGo_cues ..
      · split
        · exact {}
        · exact contestGo_cues ..
    · exact controlled ..
    · exact controlled ..
  unfold State.deliverCue
  split
  · exact {}
  · split
    · exact {}
    · split
      · exact {}
      · split
        · exact {}
        · exact foldl_frame CuesKept _ .refl (fun _ _ _ => .trans) taken _ s

/-- R170: a GO_NEXT pin reads bindings and running cues alone. -/
theorem CuesKept.resolveCue {s t : State} (h : CuesKept s t) (p : Fin 16) (pin : PinConfig) :
    t.resolveCue p pin = s.resolveCue p pin := by
  have binding (i : Fin 4) : (t.lane i).binding = (s.lane i).binding := congrArg Prod.fst (h.lane i)
  have running (i : Fin 4) : (t.lane i).current.map (fun c => c.record) = (s.lane i).current.map fun c => c.record :=
    congrArg Prod.snd (h.lane i)
  unfold State.resolveCue State.boundLane
  simp only [binding]
  refine congrArg _ (funext fun i => ?_)
  have same := running i
  cases ht : (t.lane i).current <;> cases hs : (s.lane i).current <;> simp_all

end Sys2Proof.Machine

end

section
/-! SUPPORT. The trigger pins: one sample of a pin, the message it offers, and the samples of an edge taken together. -/

namespace Sys2Proof.Machine

open Sys2Proof

/-! ## The debounce of a pin (R168) -/

/-- R168 c: a sample that differs from the stable level after `d` others makes the pin take the new level. -/
def PinState.turns (p : PinState) (d : Nat) (level : Bool) : Bool :=
  decide (p.stable = some (!level)) && decide (d ≤ p.run)

/-- R168: the pin after a sample. -/
def PinState.sampled (p : PinState) (d : Nat) (level : Bool) : PinState :=
  if p.stable = some (!level) ∧ p.run < d then ⟨some (!level), p.run + 1⟩ else ⟨some level, 0⟩

theorem turns_iff {p : PinState} {d : Nat} {level : Bool} :
    p.turns d level = true ↔ p.stable = some (!level) ∧ d ≤ p.run := by
  simp [PinState.turns]

theorem sampled_of_not_other {p : PinState} {level : Bool} (h : p.stable ≠ some (!level)) (d : Nat) :
    p.sampled d level = ⟨some level, 0⟩ := if_neg fun hp => h hp.1

theorem sampled_of_short {p : PinState} {d : Nat} {level : Bool} (h : p.stable = some (!level)) (hd : p.run < d) :
    p.sampled d level = ⟨some (!level), p.run + 1⟩ := if_pos ⟨h, hd⟩

theorem sampled_of_turned {p : PinState} {d : Nat} {level : Bool} (h : p.turns d level = true) :
    p.sampled d level = ⟨some level, 0⟩ := if_neg fun hp => Nat.not_lt.mpr (turns_iff.mp h).2 hp.2

/-- R168 a to c: the first sample, one equal to the stable level, one that differs, and the one that turns the pin. -/
theorem sampled_cases (p : PinState) (d : Nat) (level : Bool) :
    (p.stable = none → p.sampled d level = ⟨some level, 0⟩) ∧
      (p.stable = some level → p.sampled d level = ⟨some level, 0⟩) ∧
      (p.stable = some (!level) → p.run < d → p.sampled d level = ⟨some (!level), p.run + 1⟩) ∧
      (p.stable = some (!level) → d ≤ p.run → p.sampled d level = ⟨some level, 0⟩) :=
  ⟨fun h => sampled_of_not_other (by simp [h]) d, fun h => sampled_of_not_other (by simp [h]) d, sampled_of_short,
    fun h hd => sampled_of_turned (turns_iff.mpr ⟨h, hd⟩)⟩

theorem sampled_of_still {p : PinState} {d : Nat} {level : Bool} (h : ¬ p.turns d level = true) :
    p.sampled d level = if p.stable = some (!level) then ⟨some (!level), p.run + 1⟩ else ⟨some level, 0⟩ := by
  split
  · rename_i other
    exact sampled_of_short other (Nat.lt_of_not_le fun hd => h (turns_iff.mpr ⟨other, hd⟩))
  · exact sampled_of_not_other ‹_› d

/-- R168: a sample writes the pin and, where the pin turns, its transition acts. -/
theorem samplePin_eq (s : State) (c : Config) (i : Fin 8) (level : Bool) (f : FrameNo) :
    s.samplePin c i level f =
      if (s.triggers.pins.get i).turns (c.pins.get i).debounce level then
        (s.setPin i ⟨some level, 0⟩).pinActs (c.pins.get i) level f
      else s.setPin i ((s.triggers.pins.get i).sampled (c.pins.get i).debounce level) := by
  unfold State.samplePin State.qualify
  generalize s.triggers.pins.get i = p
  generalize (c.pins.get i).debounce = d
  obtain ⟨stable, run⟩ := p
  cases stable with
  | none => rfl
  | some l =>
    by_cases hl : l = level
    · subst hl
      simp [PinState.turns, PinState.sampled]
    · have other : l = !level := Bool.eq_not.mpr hl
      by_cases hd : d ≤ run
      · simp [PinState.turns, other, hd]
      · simp [PinState.turns, PinState.sampled, other, hd, Nat.lt_of_not_le hd]

/-- R168: a pin whose sample of the edge due is not yet taken qualifies where that sample turns it. -/
theorem qualifies_iff {s : State} {c : Config} {i : Fin 8} {level : Bool} :
    s.qualifies c i level = true ↔
      s.ahead.pins ≤ i.val ∧ (s.triggers.pins.get i).turns (c.pins.get i).debounce level = true := by
  simp [State.qualifies, PinState.turns, and_assoc]

/-! ## What a transition offers (R169, R170) -/

/-- R169, R170: the message a selected transition to `level` forms at edge `f`, if it forms one. -/
def State.pinOffer (s : State) (pin : PinConfig) (level : Bool) (f : FrameNo) : Option CueMessage :=
  if edgeTakes pin.edge level then
    match pin.function with
    | .none => none
    | .hold p => some (pinMessage .hold p pin f)
    | .release p => some (pinMessage .release p pin f)
    | .goNext p => (s.resolveCue p pin).map fun cue => pinMessage (.go (BitVec.ofNat 16 cue)) p pin f
    | .tally _ => none
  else none

theorem CuesKept.pinOffer {s t : State} (h : CuesKept s t) (pin : PinConfig) (level : Bool) (f : FrameNo) :
    t.pinOffer pin level f = s.pinOffer pin level f := by
  unfold State.pinOffer
  simp only [h.resolveCue]

/-- The work of a pin that forms no message: debounce, tally table and unresolved count, and the TALLY slot, at most. -/
structure PinQuiet (s t : State) : Prop where
  same : ∀ x l, (t.setTriggers x).setLink l = (s.setTriggers x).setLink l := by exact fun _ _ => rfl
  formed : t.triggers.formed = s.triggers.formed := by rfl
  queue : t.link.triggers = s.link.triggers := by rfl
  state : t.link.state = s.link.state := by rfl

theorem PinQuiet.trans {a b c : State} (h : PinQuiet a b) (k : PinQuiet b c) : PinQuiet a c :=
  ⟨fun x l => (k.same x l).trans (h.same x l), k.formed.trans h.formed, k.queue.trans h.queue, k.state.trans h.state⟩

theorem PinQuiet.lanes {s t : State} (h : PinQuiet s t) : t.lanes = s.lanes := by
  simpa using congrArg State.lanes (h.same s.triggers s.link)

theorem PinQuiet.number {s t : State} (h : PinQuiet s t) : t.number = s.number := by
  simpa using congrArg State.number (h.same s.triggers s.link)

theorem PinQuiet.queuesTriggers {s t : State} (h : PinQuiet s t) : t.queuesTriggers = s.queuesTriggers := by
  unfold State.queuesTriggers State.heldNumber
  rw [h.state, h.number]

theorem setPin_quiet (s : State) (i : Fin 8) (p : PinState) : PinQuiet s (s.setPin i p) := {}

theorem pinActs_of_offer {s : State} {pin : PinConfig} {level : Bool} {f : FrameNo} {m : CueMessage}
    (h : s.pinOffer pin level f = some m) : s.pinActs pin level f = s.formTrigger f m := by
  unfold State.pinOffer at h
  unfold State.pinActs
  split at h
  · rename_i taken
    rw [if_pos taken]
    cases hf : pin.function with
    | none => simp [hf] at h
    | tally camera => simp [hf] at h
    | hold p => simp_all
    | release p => simp_all
    | goNext p =>
      simp only [hf, Option.map_eq_some_iff] at h
      obtain ⟨cue, hc, rfl⟩ := h
      simp [State.goNextPin, hc]
  · cases h

theorem pinActs_of_no_offer {s : State} {pin : PinConfig} {level : Bool} {f : FrameNo}
    (h : s.pinOffer pin level f = none) : PinQuiet s (s.pinActs pin level f) := by
  unfold State.pinOffer at h
  unfold State.pinActs
  split at h
  · rename_i taken
    rw [if_pos taken]
    cases hf : pin.function with
    | none => exact {}
    | tally camera => exact {}
    | hold p => simp [hf] at h
    | release p => simp [hf] at h
    | goNext p =>
      simp only [hf, Option.map_eq_none_iff] at h
      simp only [State.goNextPin, h]
      exact {}
  · rename_i unselected
    rw [if_neg unselected]
    exact {}

/-! ## A message formed (R169, R171) -/

theorem applyUnsentAt_link (s : State) (f : FrameNo) (m : CueMessage) :
    (s.applyUnsentAt f m).link =
      { s.link with
        counters := { s.link.counters with unsentTrigger := raise16 s.link.counters.unsentTrigger } } := by
  have seen : (s.atFrame f).link = s.link := by
    unfold State.atFrame
    split <;> rfl
  exact (applyUnsent_link (s.atFrame f) m).trans (by rw [seen])

theorem formTrigger_triggers (s : State) (f : FrameNo) (m : CueMessage) :
    (s.formTrigger f m).triggers = { s.triggers with formed := raise16 s.triggers.formed } := by
  unfold State.formTrigger
  dsimp only
  split
  · rfl
  · exact (applyUnsentAt_frame ..).triggers

theorem formTrigger_of_queues {s : State} (h : s.queuesTriggers = true) (f : FrameNo) (m : CueMessage) :
    s.formTrigger f m =
      (s.setTriggers { s.triggers with formed := raise16 s.triggers.formed }).setLink (s.link.offerTrigger m) := if_pos h

theorem formTrigger_of_unsent {s : State} (h : s.queuesTriggers = false) (f : FrameNo) (m : CueMessage) :
    s.formTrigger f m =
      (s.setTriggers { s.triggers with formed := raise16 s.triggers.formed }).applyUnsentAt f m :=
  if_neg (Bool.eq_false_iff.mp h)

theorem offerTrigger_state (l : Link) (m : CueMessage) : (l.offerTrigger m).state = l.state := by
  unfold Link.offerTrigger
  split <;> rfl

/-- R19: the queue with one more message offered. -/
def joinQueue (q : List CueMessage) (m : CueMessage) : List CueMessage := if q.length < 4 then q ++ [m] else q

theorem offerTrigger_queue (l : Link) (m : CueMessage) : (l.offerTrigger m).triggers = joinQueue l.triggers m := by
  unfold Link.offerTrigger joinQueue
  split <;> rfl

theorem formTrigger_queuesTriggers (s : State) (f : FrameNo) (m : CueMessage) :
    (s.formTrigger f m).queuesTriggers = s.queuesTriggers := by
  have state : (s.formTrigger f m).link.state = s.link.state := by
    cases hq : s.queuesTriggers with
    | true =>
      rw [formTrigger_of_queues hq]
      exact offerTrigger_state ..
    | false => rw [formTrigger_of_unsent hq, applyUnsentAt_link, setTriggers_link]
  unfold State.queuesTriggers
  rw [state, (formTrigger_frame s f m).heldNumber]

theorem applyUnsentAt_cues (s : State) (f : FrameNo) (m : CueMessage) : CuesKept s (s.applyUnsentAt f m) := by
  have moved : (s.atFrame f).lanes = s.lanes := by
    unfold State.atFrame
    split <;> rfl
  have applied (t : State) : CuesKept t (t.applyUnsent m) := .trans {} (deliverCue_cues (t.setLink _) ..)
  exact .trans (.ofLanes moved) (.trans (applied _) {})

theorem formTrigger_cues (s : State) (f : FrameNo) (m : CueMessage) : CuesKept s (s.formTrigger f m) := by
  cases hq : s.queuesTriggers with
  | true =>
    rw [formTrigger_of_queues hq]
    exact {}
  | false =>
    rw [formTrigger_of_unsent hq]
    exact .trans {} (applyUnsentAt_cues (s.setTriggers _) f m)

/-! ## One sample of a pin, by what it offers -/

/-- R168 to R170: the message the sample of a pin forms at edge `f`, if it forms one. -/
def State.sampleOffer (s : State) (c : Config) (pins : BitVec 8) (f : FrameNo) (i : Fin 8) : Option CueMessage :=
  if (s.triggers.pins.get i).turns (c.pins.get i).debounce (pins.getLsbD i.val) then
    s.pinOffer (c.pins.get i) (pins.getLsbD i.val) f
  else none

section Sample

variable {s : State} {c : Config} {pins : BitVec 8} {f : FrameNo} {i : Fin 8}

theorem samplePin_of_offer {m : CueMessage} (h : s.sampleOffer c pins f i = some m) :
    ∃ x, PinQuiet s x ∧ s.samplePin c i (pins.getLsbD i.val) f = x.formTrigger f m := by
  unfold State.sampleOffer at h
  split at h
  · rename_i turned
    rw [samplePin_eq, if_pos turned]
    exact ⟨_, setPin_quiet .., pinActs_of_offer h⟩
  · cases h

theorem samplePin_of_no_offer (h : s.sampleOffer c pins f i = none) :
    PinQuiet s (s.samplePin c i (pins.getLsbD i.val) f) := by
  rw [samplePin_eq]
  unfold State.sampleOffer at h
  split
  · rename_i turned
    rw [if_pos turned] at h
    exact (setPin_quiet ..).trans (pinActs_of_no_offer (by exact h))
  · exact setPin_quiet ..

end Sample

theorem pinActs_pins (s : State) (pin : PinConfig) (level : Bool) (f : FrameNo) :
    (s.pinActs pin level f).triggers.pins = s.triggers.pins := by
  have formed (m : CueMessage) : (s.formTrigger f m).triggers.pins = s.triggers.pins := by rw [formTrigger_triggers]
  unfold State.pinActs
  split
  · cases pin.function with
    | none => rfl
    | tally camera => rfl
    | hold p => exact formed _
    | release p => exact formed _
    | goNext p =>
      dsimp only [State.goNextPin]
      split
      · exact formed _
      · rfl
  · rfl

/-- R168: of the debounce states a sample writes that of its pin. -/
theorem samplePin_pins (s : State) (c : Config) (i : Fin 8) (level : Bool) (f : FrameNo) :
    (s.samplePin c i level f).triggers.pins =
      s.triggers.pins.set i.val ((s.triggers.pins.get i).sampled (c.pins.get i).debounce level) i.isLt := by
  rw [samplePin_eq]
  split
  · rename_i turned
    rw [pinActs_pins, sampled_of_turned turned]
    rfl
  · rfl

theorem samplePin_cues (s : State) (c : Config) (pins : BitVec 8) (i : Fin 8) (f : FrameNo) :
    CuesKept s (s.samplePin c i (pins.getLsbD i.val) f) := by
  cases h : s.sampleOffer c pins f i with
  | none => exact .ofLanes (samplePin_of_no_offer h).lanes
  | some m =>
    obtain ⟨x, quiet, formed⟩ := samplePin_of_offer h
    rw [formed]
    exact .trans (.ofLanes quiet.lanes) (formTrigger_cues ..)

/-- R169: the sample of one pin changes nothing of what another offers. -/
theorem sampleOffer_samplePin (s : State) (c : Config) (pins : BitVec 8) (f : FrameNo) {i k : Fin 8} (h : k ≠ i) :
    (s.samplePin c i (pins.getLsbD i.val) f).sampleOffer c pins f k = s.sampleOffer c pins f k := by
  unfold State.sampleOffer
  rw [samplePin_pins, get_set_of_ne _ h, (samplePin_cues s c pins i f).pinOffer]

theorem samplePin_queuesTriggers (s : State) (c : Config) (pins : BitVec 8) (i : Fin 8) (f : FrameNo) :
    (s.samplePin c i (pins.getLsbD i.val) f).queuesTriggers = s.queuesTriggers := by
  cases h : s.sampleOffer c pins f i with
  | none => exact (samplePin_of_no_offer h).queuesTriggers
  | some m =>
    obtain ⟨x, quiet, formed⟩ := samplePin_of_offer h
    rw [formed, formTrigger_queuesTriggers, quiet.queuesTriggers]

/-! ## The samples of an edge (R169) -/

/-- The samples of these pins, in this order. -/
def State.sampleAll (s : State) (c : Config) (pins : BitVec 8) (f : FrameNo) (js : List (Fin 8)) : State :=
  js.foldl (fun x j => x.samplePin c j (pins.getLsbD j.val) f) s

theorem samplePins_eq (s : State) (c : Config) (pins : BitVec 8) (f : FrameNo) (upTo : Nat) :
    s.samplePins c pins f upTo = s.sampleAll c pins f (s.pinsToSample upTo) := rfl

theorem pinsToSample_nodup (s : State) (upTo : Nat) : (s.pinsToSample upTo).Nodup := (List.nodup_finRange 8).filter _

section SampleAll

variable {c : Config} {pins : BitVec 8} {f : FrameNo}

/-- R169: what is seen of a state, where a pin that forms no message leaves it and a message formed changes it by `form`,
is changed by the messages offered, in the order of the pins. -/
theorem observe_sampleAll {α : Type} {obs : State → α} {form : α → CueMessage → α} {b : Bool}
    (quiet : ∀ x y, PinQuiet x y → obs y = obs x)
    (formed : ∀ x m, x.queuesTriggers = b → obs (x.formTrigger f m) = form (obs x) m) {js : List (Fin 8)}
    (hjs : js.Nodup) {s : State} (hq : s.queuesTriggers = b) :
    obs (s.sampleAll c pins f js) = (js.filterMap (s.sampleOffer c pins f)).foldl form (obs s) := by
  induction js generalizing s with
  | nil => rfl
  | cons j rest ih =>
    obtain ⟨fresh, hrest⟩ := List.nodup_cons.mp hjs
    have later : rest.filterMap ((s.samplePin c j (pins.getLsbD j.val) f).sampleOffer c pins f) =
        rest.filterMap (s.sampleOffer c pins f) :=
      List.filterMap_congr fun k hk => sampleOffer_samplePin s c pins f fun e => fresh (e ▸ hk)
    have tail := ih hrest ((samplePin_queuesTriggers s c pins j f).trans hq)
    rw [later] at tail
    refine tail.trans ?_
    cases h : s.sampleOffer c pins f j with
    | none => rw [List.filterMap_cons_none h, quiet _ _ (samplePin_of_no_offer h)]
    | some m =>
      obtain ⟨x, still, acted⟩ := samplePin_of_offer h
      rw [List.filterMap_cons_some h, List.foldl_cons, acted, formed x m (still.queuesTriggers.trans hq), quiet s x still]

theorem sampleAll_pins_of_not_mem {js : List (Fin 8)} {i : Fin 8} (h : i ∉ js) (s : State) :
    (s.sampleAll c pins f js).triggers.pins.get i = s.triggers.pins.get i := by
  induction js generalizing s with
  | nil => rfl
  | cons j rest ih =>
    rw [List.mem_cons, not_or] at h
    obtain ⟨hj, hrest⟩ := h
    refine (ih hrest (s.samplePin c j (pins.getLsbD j.val) f)).trans ?_
    rw [samplePin_pins, get_set_of_ne _ hj]

theorem sampleAll_pins_of_mem {js : List (Fin 8)} (hjs : js.Nodup) {i : Fin 8} (h : i ∈ js) (s : State) :
    (s.sampleAll c pins f js).triggers.pins.get i =
      (s.triggers.pins.get i).sampled (c.pins.get i).debounce (pins.getLsbD i.val) := by
  induction js generalizing s with
  | nil => cases h
  | cons j rest ih =>
    obtain ⟨fresh, hrest⟩ := List.nodup_cons.mp hjs
    rcases List.mem_cons.mp h with rfl | hi
    · refine (sampleAll_pins_of_not_mem fresh (s.samplePin c i (pins.getLsbD i.val) f)).trans ?_
      rw [samplePin_pins, get_set_same]
    · refine (ih hrest hi (s.samplePin c j (pins.getLsbD j.val) f)).trans ?_
      rw [samplePin_pins, get_set_of_ne _ fun e : i = j => fresh (e ▸ hi)]

/-- R168: the pins after the samples of an edge. -/
theorem samplePins_pins (s : State) (upTo : Nat) (i : Fin 8) :
    (s.samplePins c pins f upTo).triggers.pins.get i =
      if s.ahead.pins ≤ i.val ∧ i.val < upTo then
        (s.triggers.pins.get i).sampled (c.pins.get i).debounce (pins.getLsbD i.val)
      else s.triggers.pins.get i := by
  rw [samplePins_eq]
  split
  · exact sampleAll_pins_of_mem (pinsToSample_nodup ..) ((mem_pinsToSample ..).mpr ‹_›) s
  · exact sampleAll_pins_of_not_mem (mt (mem_pinsToSample ..).mp ‹_›) s

/-! ## What is seen of the samples of an edge -/

variable {s : State} {js : List (Fin 8)} (hjs : js.Nodup)

include hjs

theorem sampleAll_formed :
    (s.sampleAll c pins f js).triggers.formed =
      (js.filterMap (s.sampleOffer c pins f)).foldl (fun n _ => raise16 n) s.triggers.formed :=
  observe_sampleAll (obs := fun x => x.triggers.formed) (fun _ _ h => h.formed)
    (fun x m _ => by rw [formTrigger_triggers]) hjs rfl

theorem sampleAll_queue_of_queues (hq : s.queuesTriggers = true) :
    (s.sampleAll c pins f js).link.triggers =
      (js.filterMap (s.sampleOffer c pins f)).foldl joinQueue s.link.triggers :=
  observe_sampleAll (obs := fun x => x.link.triggers) (fun _ _ h => h.queue)
    (fun x m hx => by rw [formTrigger_of_queues hx, setLink_link, offerTrigger_queue]) hjs hq

theorem sampleAll_lanes_of_queues (hq : s.queuesTriggers = true) : (s.sampleAll c pins f js).lanes = s.lanes := by
  have seen := observe_sampleAll (c := c) (pins := pins) (f := f) (obs := State.lanes) (form := fun e _ => e)
    (fun _ _ h => h.lanes) (fun x m hx => by rw [formTrigger_of_queues hx, setLink_lanes, setTriggers_lanes]) hjs hq
  rwa [List.foldl_fixed] at seen

theorem sampleAll_queue_of_unsent (hq : s.queuesTriggers = false) :
    (s.sampleAll c pins f js).link.triggers = s.link.triggers := by
  have seen := observe_sampleAll (c := c) (pins := pins) (f := f) (obs := fun x => x.link.triggers)
    (form := fun q _ => q) (fun _ _ h => h.queue)
    (fun x m hx => by rw [formTrigger_of_unsent hx, applyUnsentAt_link, setTriggers_link]) hjs hq
  rwa [List.foldl_fixed] at seen

end SampleAll

end Sys2Proof.Machine

end

section
/-! SUPPORT. The pins at TRIGGER_QUALIFIED and at a FRAME_EDGE: the messages offered, where they go, and the pins after. -/

namespace Sys2Proof.Machine

open Sys2Proof

/-! ## Messages offered together -/

/-- A 16-bit counter raised `n` times. -/
def raisedTo (k n : Nat) : Nat := if n = 0 then k else min 65535 (k + n)

theorem foldl_raise16 (ms : List CueMessage) (k : Nat) :
    ms.foldl (fun n _ => raise16 n) k = raisedTo k ms.length := by
  induction ms generalizing k with
  | nil => rfl
  | cons m rest ih =>
    rw [List.foldl_cons, ih, List.length_cons]
    simp only [raisedTo, raise16, Nat.add_one_ne_zero, if_false]
    split <;> omega

/-- R19: of the messages offered the first that find room join the queue. -/
theorem foldl_joinQueue (ms q : List CueMessage) : ms.foldl joinQueue q = (q ++ ms).take (max 4 q.length) := by
  induction ms generalizing q with
  | nil => simp
  | cons m rest ih =>
    rw [List.foldl_cons, ih]
    unfold joinQueue
    split
    · rename_i room
      rw [List.append_assoc, List.singleton_append, List.length_append, List.length_singleton,
        Nat.max_eq_left (by omega), Nat.max_eq_left (by omega)]
    · rename_i full
      rw [Nat.max_eq_right (Nat.le_of_not_lt full), List.take_left, List.take_left]

/-! ## Delivery of a message that cannot be sent (R171) -/

/-- A timer put back and then seen at the frame again. -/
theorem setTimer_atFrame {s z : State} {f : FrameNo} (h : z.timer = (s.atFrame f).timer) :
    (z.setTimer s.timer).atFrame f = z := by
  have again : ((z.setTimer s.timer).atFrame f) = z.setTimer (s.atFrame f).timer := by
    unfold State.atFrame
    rw [setTimer_timer]
    split <;> rfl
  rw [again, ← h, setTimer_same]

theorem atFrame_localOrigin (s : State) (f : FrameNo) : (s.atFrame f).localOrigin = s.localOrigin := by
  unfold State.atFrame
  split <;> rfl

/-- R116, R171: a message that cannot be sent reaches the own lanes as they see it at the frame of the edge. -/
theorem formTrigger_delivers {s : State} (h : s.queuesTriggers = false) (f : FrameNo) (m : CueMessage) :
    s.formTrigger f m =
      (((((s.setTriggers { s.triggers with formed := raise16 s.triggers.formed }).setLink
        { s.link with
          counters :=
            { s.link.counters with unsentTrigger := raise16 s.link.counters.unsentTrigger } }).atFrame f).deliverCue m
        s.localOrigin).setTimer s.timer) := by
  rw [formTrigger_of_unsent h, State.applyUnsentAt, State.applyUnsent, (aloof_setLink _).atFrame,
    (aloof_setTriggers _).atFrame]
  simp only [setTriggers_link, setTriggers_timer, setTriggers_localOrigin, atFrame_localOrigin]
  have seen : (s.atFrame f).link = s.link := by
    unfold State.atFrame
    split <;> rfl
  rw [seen]

/-- A state as the lanes see it at frame `f`, with trigger unit and link controller put in. -/
def State.seenBy (s : State) (t : Triggers) (l : Link) (f : FrameNo) : State := ((s.setTriggers t).setLink l).atFrame f

theorem seenBy_formTrigger {s : State} (h : s.queuesTriggers = false) (t : Triggers) (l : Link) (f : FrameNo)
    (m : CueMessage) :
    (s.formTrigger f m).seenBy t l f = (s.seenBy t l f).deliverCue m (s.seenBy t l f).localOrigin := by
  have origin : (s.seenBy t l f).localOrigin = s.localOrigin := atFrame_localOrigin ..
  rw [formTrigger_delivers h, origin]
  unfold State.seenBy
  generalize { s.triggers with formed := raise16 s.triggers.formed } = t'
  generalize ({ s.link with counters := _ } : Link) = l'
  simp only [(aloof_setLink _).atFrame, (aloof_setTriggers _).atFrame]
  rw [setTimer_atFrame]
  · simp only [← (aloof_setLink _).deliverCue, ← (aloof_setTriggers _).deliverCue]
    rfl
  · exact (deliverCue_frame ..).timer

theorem sampleAll_lanes_of_unsent {s : State} {c : Config} {pins : BitVec 8} {f : FrameNo} {js : List (Fin 8)}
    (hjs : js.Nodup) (hq : s.queuesTriggers = false) :
    (s.sampleAll c pins f js).lanes =
      ((js.filterMap (s.sampleOffer c pins f)).foldl (fun x m => x.deliverCue m s.localOrigin) (s.atFrame f)).lanes := by
  have seen := observe_sampleAll (c := c) (pins := pins) (f := f) (obs := fun x => x.seenBy s.triggers s.link f)
    (form := fun x m => x.deliverCue m x.localOrigin) (fun x y h => congrArg (State.atFrame · f) (h.same _ _))
    (fun x m hx => seenBy_formTrigger hx ..) hjs hq
  have start : s.seenBy s.triggers s.link f = s.atFrame f := rfl
  have final (x : State) : (x.seenBy s.triggers s.link f).lanes = x.lanes := by
    unfold State.seenBy State.atFrame
    split <;> rfl
  rw [start, foldl_deliverCue_localOrigin, atFrame_localOrigin] at seen
  rw [← final, seen]
  rfl

/-! ## The messages of an edge -/

/-- R169: the message a pin offers at edge `f`, where it qualifies in the state `s` and its GO_NEXT reads the lanes of `x`. -/
def State.edgeOffer (s x : State) (c : Config) (pins : BitVec 8) (f : FrameNo) (j : Fin 8) : Option CueMessage :=
  if s.qualifies c j (pins.getLsbD j.val) then x.pinOffer (c.pins.get j) (pins.getLsbD j.val) f else none

theorem filterMap_sampleOffer {s x : State} (hp : x.triggers.pins = s.triggers.pins) (ha : x.ahead = s.ahead) (c : Config)
    (pins : BitVec 8) (f : FrameNo) (upTo : Nat) :
    (x.pinsToSample upTo).filterMap (x.sampleOffer c pins f) =
      ((List.finRange 8).filter fun j => decide (j.val < upTo)).filterMap (s.edgeOffer x c pins f) := by
  unfold State.pinsToSample
  rw [List.filterMap_filter, List.filterMap_filter]
  refine List.filterMap_congr fun j _ => ?_
  unfold State.edgeOffer State.sampleOffer
  rw [hp, ha]
  by_cases below : j.val < upTo <;> by_cases due : s.ahead.pins ≤ j.val <;> simp [below, due, qualifies_iff]

/-! ## TRIGGER_QUALIFIED -/

section Qualified

variable {s : State} {cfg : Config} (hr : s.startup.phase = .running) (hc : s.config = some cfg)

include hr hc

theorem exec_triggerQualified (i : Fin 8) (pins : BitVec 8) :
    exec (.triggerQualified ⟨i, pins⟩) s = .next
      (if s.qualifies cfg i (pins.getLsbD i.val) then
        (s.samplePins cfg pins s.nextFrame (i.val + 1)).setAhead { s.ahead with pins := i.val + 1 }
      else s) := by
  refine congrArg Host.Outcome.next ?_
  rw [isRunning_of_phase hr, hc]

end Qualified

/-! ## The pins' turn at an edge (R44) -/

/-- The state in which the pins have their turn at an edge. -/
def State.pinsTurn (s : State) (c : Config) : State := ((s.agePeers c).timerEdge.beforeBudget c false).budgetEdge c

/-- Link controller, number unit, and trigger and tally unit are as they were. -/
structure PinsWait (s t : State) : Prop where
  link : t.link = s.link := by rfl
  number : t.number = s.number := by rfl
  triggers : t.triggers = s.triggers := by rfl

theorem PinsWait.trans {a b c : State} (h : PinsWait a b) (k : PinsWait b c) : PinsWait a c :=
  ⟨k.link.trans h.link, k.number.trans h.number, k.triggers.trans h.triggers⟩

theorem LanesAndFetch.pinsWait {s t : State} (h : LanesAndFetch s t) : PinsWait s t := ⟨h.link, h.number, h.triggers⟩

/-- R44: between number unit and pins no block touches what the pins write. -/
theorem beforeBudget_waits (w : State) (c : Config) :
    PinsWait w.triggerQueueEdge.numberEdge ((w.beforeBudget c false).budgetEdge c) := by
  have walled (u : State) : PinsWait u (u.wallEdge c) :=
    ⟨wallEdge_link u c, (wallEdge_numberAlike u c).number,
      by simpa using congrArg State.triggers (wallEdge_frame u c u.ingest u.wall)⟩
  unfold State.beforeBudget
  rw [if_neg Bool.false_ne_true]
  generalize w.triggerQueueEdge.numberEdge = u
  refine .trans ?_ ⟨setBudget_link .., setBudget_number .., setBudget_triggers ..⟩
  refine .trans ?_ ⟨setOutput_link .., setOutput_number .., setOutput_triggers ..⟩
  refine .trans ?_ (lanesEdge_frame _ c).pinsWait
  refine .trans ?_ (fetchEdge_frame _ c).pinsWait
  exact .trans (b := u.flushEdge) {} (walled _)

/-- The debounce states, and the count of messages formed, are as they were. -/
structure DebounceKept (s t : State) : Prop where
  pins : t.triggers.pins = s.triggers.pins := by rfl
  formed : t.triggers.formed = s.triggers.formed := by rfl

theorem DebounceKept.trans {a b c : State} (h : DebounceKept a b) (k : DebounceKept b c) : DebounceKept a c :=
  ⟨k.pins.trans h.pins, k.formed.trans h.formed⟩

theorem agePeers_debounce (s : State) (c : Config) : DebounceKept s (s.agePeers c) := by
  refine foldl_frame DebounceKept _ (fun _ => {}) (fun _ _ _ => .trans) (fun t n => ?_) _ s
  unfold State.agePeer
  split
  · exact {}
  · split <;> exact {}

/-- R44: what the pins find at their turn. -/
structure PinsTurn (s : State) (c : Config) (v : State) : Prop extends DebounceKept s v where
  ahead : v.ahead = s.ahead
  timer : v.timer = (s.agePeers c).timerEdge.timer

theorem pinsTurn_spec (s : State) (c : Config) : PinsTurn s c (s.pinsTurn c) := by
  have aged := agePeers_frame s c
  have timed := timerEdge_frame (s.agePeers c)
  have kept := agePeers_debounce s c
  unfold State.pinsTurn
  generalize hw : (s.agePeers c).timerEdge = w at timed
  have turn := beforeBudget_turn w c false
  have waits := beforeBudget_waits w c
  have numbered := numberEdge_frame w.triggerQueueEdge
  have triggers : ((w.beforeBudget c false).budgetEdge c).triggers = (s.agePeers c).triggers :=
    waits.triggers.trans (numbered.triggers.trans timed.triggers)
  refine ⟨⟨by rw [triggers, kept.pins], by rw [triggers, kept.formed]⟩, ?_, ?_⟩
  · exact (setBudget_ahead ..).trans (turn.ahead.trans (timed.ahead.trans aged.ahead))
  · rw [hw]
    exact (setBudget_timer ..).trans turn.timer

/-- R44: what an edge leaves of the pins' turn: after it the STATUS slot alone is written. -/
structure PinsDone (v t : State) : Prop where
  triggers : t.triggers = v.triggers := by rfl
  queue : t.link.triggers = v.link.triggers := by rfl
  lanes : t.lanes = v.lanes := by rfl

theorem edge_pinsDone {s : State} (running : s.isRunning = true) (c : Config) (pins : BitVec 8) :
    PinsDone ((s.pinsTurn c).pinsEdge c pins) (s.edge c pins) := by
  have runs : (s.agePeers c).timerEdge.isRunning = true :=
    (timerEdge_frame _).isRunning.trans ((agePeers_frame s c).isRunning.trans running)
  have turn (w : State) : w.blocksEdge c pins false =
      (((w.beforeBudget c false).budgetEdge c).pinsEdge c pins).reportEdge c w.ownAtEdge := rfl
  have reported (v : State) (own : Option Station) : PinsDone v ((v.reportEdge c own).setAhead Ahead.none) := by
    unfold State.reportEdge
    split <;> exact {}
  unfold State.edge State.pinsTurn
  dsimp only
  generalize (s.agePeers c).timerEdge = w at runs
  rw [if_pos runs, turn]
  exact reported _ _

/-- R168: the pins after an edge. -/
theorem edge_pins {s : State} (running : s.isRunning = true) (c : Config) (pins : BitVec 8) (i : Fin 8) :
    (s.edge c pins).triggers.pins.get i =
      if s.ahead.pins ≤ i.val then
        (s.triggers.pins.get i).sampled (c.pins.get i).debounce (pins.getLsbD i.val)
      else s.triggers.pins.get i := by
  have turn := pinsTurn_spec s c
  rw [(edge_pinsDone running c pins).triggers, State.pinsEdge, samplePins_pins, turn.ahead, turn.pins]
  simp only [i.isLt, and_true]

/-! ## The trigger queue at an edge where a number is held -/

theorem numberEdge_of_numbered {s : State} {n : Station} (h : s.number.numbering = .fixed n ∨ s.number.numbering = .holding n) :
    s.numberEdge.link = s.link ∧ s.numberEdge.number.numbering = s.number.numbering := by
  unfold State.numberEdge
  split
  · exact ⟨rfl, rfl⟩
  · rcases h with h | h
    · simp only [h]
      split
      · split <;> exact ⟨rfl, rfl⟩
      · exact ⟨rfl, h⟩
    · simp [h]

theorem heldNumber_of_numbered {s : State} {n : Station}
    (h : s.number.numbering = .fixed n ∨ s.number.numbering = .holding n) : s.heldNumber = some n :=
  h.elim heldNumber_of_fixed heldNumber_of_holding

section Edge

variable {s : State} {n : Station}

/-- R19, R171: at their turn the pins find the messages still queued, and a queue that takes theirs. -/
theorem pinsTurn_queue (ha : s.link.attempt = none) (hd : s.link.state ≠ .detached)
    (hn : s.number.numbering = .fixed n ∨ s.number.numbering = .holding n) (c : Config) :
    (s.pinsTurn c).queuesTriggers = true ∧
      (s.pinsTurn c).link.triggers = s.link.triggers.filter fun m => !m.expiredAt (s.pinsTurn c).frame := by
  have aged := agePeers_frame s c
  have timed := timerEdge_frame (s.agePeers c)
  have work := (timerEdge_work (s.agePeers c)).1
  have timer := (pinsTurn_spec s c).timer
  unfold State.pinsTurn at timer ⊢
  generalize (s.agePeers c).timerEdge = w at timed work timer
  obtain ⟨x, k, link⟩ := work.link
  rw [aged.link] at link
  have still : w.number = s.number := timed.number.trans aged.number
  have waits := beforeBudget_waits w c
  have numbered : w.triggerQueueEdge.number.numbering = .fixed n ∨ w.triggerQueueEdge.number.numbering = .holding n := by
    rwa [← still] at hn
  obtain ⟨unlinked, unnumbered⟩ := numberEdge_of_numbered numbered
  have queue : ((w.beforeBudget c false).budgetEdge c).link = w.link.expireTriggers w.frame := waits.link.trans unlinked
  rw [expireTriggers_of_no_attempt (by rw [link]; exact ha), link] at queue
  have frame : ((w.beforeBudget c false).budgetEdge c).frame = w.frame := by
    unfold State.frame
    rw [timer]
  have held : ((w.beforeBudget c false).budgetEdge c).heldNumber = some n :=
    heldNumber_of_numbered (by rwa [waits.number, unnumbered])
  refine ⟨?_, by rw [queue, frame]⟩
  unfold State.queuesTriggers
  rw [held, queue]
  simpa using hd

end Edge

end Sys2Proof.Machine

end

section
/-! SUPPORT. PinQualified: one pin that qualifies alone, several that qualify at one edge, and the edge itself. -/

namespace Sys2Proof.Machine

open Sys2Proof

/-! ## The lane of a GO_NEXT pin (R170) -/

theorem boundLane_of_unbound {s : State} {p : Fin 16} (h : ∀ k, (s.lane k).binding ≠ some p) : s.boundLane p = none := by
  simpa [State.boundLane] using fun k _ => h k

theorem boundLane_of_lowest {s : State} {p : Fin 16} {k : Fin 4} (h : (s.lane k).binding = some p)
    (lowest : ∀ j, j < k → (s.lane j).binding ≠ some p) : s.boundLane p = some k := by
  unfold State.boundLane laneIndices
  match k with
  | 0 => simp [h]
  | 1 => simp [h, lowest 0 (by decide)]
  | 2 => simp [h, lowest 0 (by decide), lowest 1 (by decide)]
  | 3 => simp [h, lowest 0 (by decide), lowest 1 (by decide), lowest 2 (by decide)]

theorem resolveCue_of_unbound {s : State} {p : Fin 16} (h : ∀ k, (s.lane k).binding ≠ some p) (pin : PinConfig) :
    s.resolveCue p pin = none := by
  simp [State.resolveCue, boundLane_of_unbound h]

section Resolve

variable {s : State} {p : Fin 16} {k : Fin 4} (hk : s.boundLane p = some k) (pin : PinConfig)

include hk

theorem resolveCue_of_empty (h : (s.lane k).current = none) : s.resolveCue p pin = some pin.firstCue := by
  simp [State.resolveCue, hk, h]

theorem resolveCue_of_step {c : CurrentCue} (h : (s.lane k).current = some c)
    (near : c.record.number.toNat + pin.step ≤ 65534) :
    s.resolveCue p pin = some (c.record.number.toNat + pin.step) := by
  simp [State.resolveCue, hk, h, Nat.not_lt.mpr near]

theorem resolveCue_of_past {c : CurrentCue} (h : (s.lane k).current = some c)
    (past : 65534 < c.record.number.toNat + pin.step) : s.resolveCue p pin = none := by
  simp [State.resolveCue, hk, h, past]

end Resolve

/-- R170: what holds of the cue resolved to, and where there is none, by the lowest lane bound and the cue that runs there. -/
theorem resolveCue_cases {s : State} {p : Fin 16} {pin : PinConfig} {formed : Nat → Prop} {unresolved : Prop}
    (found : ∀ cue, s.resolveCue p pin = some cue → formed cue) (lost : s.resolveCue p pin = none → unresolved) :
    ((∀ k, (s.lane k).binding ≠ some p) → unresolved) ∧
      ∀ k, (s.lane k).binding = some p → (∀ j, j < k → (s.lane j).binding ≠ some p) →
        ((s.lane k).current = none → formed pin.firstCue) ∧
          ∀ c, (s.lane k).current = some c →
            (c.record.number.toNat + pin.step ≤ 65534 → formed (c.record.number.toNat + pin.step)) ∧
              (65534 < c.record.number.toNat + pin.step → unresolved) := by
  refine ⟨fun unbound => lost (resolveCue_of_unbound unbound pin), fun k hk lowest => ?_⟩
  have bound := boundLane_of_lowest hk lowest
  exact ⟨fun empty => found _ (resolveCue_of_empty bound pin empty), fun c current =>
    ⟨fun near => found _ (resolveCue_of_step bound pin current near),
      fun past => lost (resolveCue_of_past bound pin current past)⟩⟩

/-- R170: the cue of a GO_NEXT pin, by the lowest lane bound to its playback and the cue that runs there. -/
theorem resolveCue_eq (s : State) (p : Fin 16) (pin : PinConfig) :
    s.resolveCue p pin =
      ((List.finRange 4).find? fun k => decide ((s.lane k).binding = some p)).bind fun k =>
        match (s.lane k).current with
        | none => some pin.firstCue
        | some c =>
          if c.record.number.toNat + pin.step ≤ 65534 then some (c.record.number.toNat + pin.step) else none := by
  show _ = (s.boundLane p).bind _
  unfold State.resolveCue
  refine congrArg _ (funext fun k => ?_)
  cases (s.lane k).current with
  | none => rfl
  | some c =>
    dsimp only
    rw [← ite_not]
    simp only [Nat.not_lt]

/-- R169, R170: the message offered, the GO_NEXT written out. -/
theorem pinOffer_eq (s : State) (pin : PinConfig) (level : Bool) (f : FrameNo) :
    s.pinOffer pin level f =
      if edgeTakes pin.edge level then
        match pin.function with
        | .hold p => some (pinMessage .hold p pin f)
        | .release p => some (pinMessage .release p pin f)
        | .goNext p =>
          ((List.finRange 4).find? fun k => decide ((s.lane k).binding = some p)).bind fun k =>
            match (s.lane k).current with
            | none => some (pinMessage (.go (BitVec.ofNat 16 pin.firstCue)) p pin f)
            | some c =>
              if c.record.number.toNat + pin.step ≤ 65534 then
                some (pinMessage (.go (BitVec.ofNat 16 (c.record.number.toNat + pin.step))) p pin f)
              else none
        | _ => none
      else none := by
  unfold State.pinOffer
  cases pin.function with
  | goNext p =>
    dsimp only
    rw [resolveCue_eq, Option.map_bind]
    refine congrArg (fun x => if edgeTakes pin.edge level then x else none) (congrArg _ (funext fun k => ?_))
    dsimp only [Function.comp]
    cases (s.lane k).current with
    | none => rfl
    | some c =>
      dsimp only
      split <;> rfl
  | _ => rfl

theorem pinActs_of_unselected {pin : PinConfig} {level : Bool} (h : edgeTakes pin.edge level = false ∨ pin.function = .none)
    (s : State) (f : FrameNo) : s.pinActs pin level f = s := by
  rcases h with h | h <;> simp [State.pinActs, h]

section Selected

variable {pin : PinConfig} {level : Bool} (h : edgeTakes pin.edge level = true) {s : State} {f : FrameNo}

include h

theorem pinActs_hold {p : Fin 16} (hf : pin.function = .hold p) :
    s.pinActs pin level f = s.formTrigger f (pinMessage .hold p pin f) :=
  pinActs_of_offer (by simp [State.pinOffer, h, hf])

theorem pinActs_release {p : Fin 16} (hf : pin.function = .release p) :
    s.pinActs pin level f = s.formTrigger f (pinMessage .release p pin f) :=
  pinActs_of_offer (by simp [State.pinOffer, h, hf])

theorem pinActs_goNext {p : Fin 16} (hf : pin.function = .goNext p) {cue : Nat} (hc : s.resolveCue p pin = some cue) :
    s.pinActs pin level f = s.formTrigger f (pinMessage (.go (BitVec.ofNat 16 cue)) p pin f) :=
  pinActs_of_offer (by simp [State.pinOffer, h, hf, hc])

theorem pinActs_unresolved {p : Fin 16} (hf : pin.function = .goNext p) (hc : s.resolveCue p pin = none) :
    s.pinActs pin level f =
      { s with triggers := { s.triggers with unresolved := min 65535 (s.triggers.unresolved + 1) } } := by
  simp only [State.pinActs, State.goNextPin, h, hf, hc, if_true]
  rfl

/-- R172: a TALLY pin sets its camera and writes a TALLY. -/
theorem pinActs_tally {camera : Fin 8} (hf : pin.function = .tally camera) :
    s.pinActs pin level f =
      { s with
        triggers :=
          { s.triggers with
            localTally := s.triggers.localTally.set camera.val (some level) camera.isLt
            cameras := s.triggers.cameras.set camera.val ⟨level, s.heldNumber⟩ camera.isLt }
        link := s.link.writeTally (s.triggers.setCamera camera level s.heldNumber).report } := by
  simp only [State.pinActs, h, hf, if_true]
  rfl

end Selected

/-- R19, R116, R171: what becomes of a message formed, the count of pins sampled written after it. -/
theorem formTrigger_cases {s : State} {f : FrameNo} {m : CueMessage} {a : Ahead} {act : Host.Outcome State Fault Refusal}
    (h : act = .next ((s.formTrigger f m).setAhead a)) :
    let formed : Triggers := { s.triggers with formed := min 65535 (s.triggers.formed + 1) }
    (s.queuesTriggers = true → s.link.triggers.length < 4 →
      act = .next { s with ahead := a, triggers := formed, link := { s.link with triggers := s.link.triggers ++ [m] } }) ∧
      (s.queuesTriggers = true → 4 ≤ s.link.triggers.length →
        act = .next
          { s with
            ahead := a
            triggers := formed
            link :=
              { s.link with
                counters :=
                  { s.link.counters with triggerRefused := min 65535 (s.link.counters.triggerRefused + 1) } } }) ∧
      (s.queuesTriggers = false →
        act = .next
          { ((({ s with
                  ahead := a
                  triggers := formed
                  link :=
                    { s.link with
                      counters :=
                        { s.link.counters with
                          unsentTrigger := min 65535 (s.link.counters.unsentTrigger + 1) } } } : State).atFrame
              f).deliverCue m s.localOrigin) with
            timer := s.timer }) := by
  intro formed
  refine ⟨fun hq room => ?_, fun hq full => ?_, fun hq => ?_⟩
  · rw [h, formTrigger_of_queues hq, Link.offerTrigger, if_pos room]
    rfl
  · rw [h, formTrigger_of_queues hq, Link.offerTrigger, if_neg (Nat.not_lt.mpr full)]
    rfl
  · rw [h, formTrigger_delivers hq, ← (aloof_setAhead a).setTimer, ← (aloof_setAhead a).deliverCue,
      ← (aloof_setAhead a).atFrame]
    rfl

/-! ## One pin that qualifies alone -/

theorem sampleAll_concat (s : State) (c : Config) (pins : BitVec 8) (f : FrameNo) (js : List (Fin 8)) (i : Fin 8) :
    s.sampleAll c pins f (js ++ [i]) = (s.sampleAll c pins f js).samplePin c i (pins.getLsbD i.val) f :=
  List.foldl_concat ..

/-- R168: pins of which none turns are written and do nothing. -/
theorem sampleAll_of_still {c : Config} {pins : BitVec 8} {js : List (Fin 8)} (hjs : js.Nodup) {s : State}
    (still : ∀ j ∈ js, (s.triggers.pins.get j).turns (c.pins.get j).debounce (pins.getLsbD j.val) = false) (f : FrameNo) :
    ∃ ps, s.sampleAll c pins f js = s.setTriggers { s.triggers with pins := ps } := by
  induction js generalizing s with
  | nil => exact ⟨s.triggers.pins, rfl⟩
  | cons j rest ih =>
    obtain ⟨fresh, hrest⟩ := List.nodup_cons.mp hjs
    have first := samplePin_eq s c j (pins.getLsbD j.val) f
    rw [if_neg (Bool.eq_false_iff.mp (still j List.mem_cons_self))] at first
    obtain ⟨ps, sampled⟩ := ih hrest (s := s.samplePin c j (pins.getLsbD j.val) f) fun k hk => by
      rw [samplePin_pins, get_set_of_ne _ fun e : k = j => fresh (e ▸ hk)]
      exact still k (List.mem_cons_of_mem j hk)
    refine ⟨ps, Eq.trans sampled ?_⟩
    rw [first]
    rfl

/-- R168: the pins where pin `i` takes its new level, none of the pins sampled before it turning. -/
def State.sampledBefore (s : State) (pins : BitVec 8) (i : Fin 8) (level : Bool) : Vector PinState 8 :=
  Vector.ofFn fun j =>
    if j = i then ⟨some level, 0⟩
    else if s.ahead.pins ≤ j.val ∧ j < i then
      (if (s.triggers.pins.get j).stable = some (!pins.getLsbD j.val) then
         ⟨some (!pins.getLsbD j.val), (s.triggers.pins.get j).run + 1⟩
       else ⟨some (pins.getLsbD j.val), 0⟩)
    else s.triggers.pins.get j

/-- They are the pins that the samples up to pin `i` leave. -/
theorem sampledBefore_get {s : State} {c : Config} {pins : BitVec 8} {i : Fin 8}
    (due : s.qualifies c i (pins.getLsbD i.val) = true)
    (alone : ∀ j, j < i → ¬ s.qualifies c j (pins.getLsbD j.val) = true) (f : FrameNo) (j : Fin 8) :
    (s.sampledBefore pins i (pins.getLsbD i.val)).get j = (s.samplePins c pins f (i.val + 1)).triggers.pins.get j := by
  obtain ⟨ahead, turned⟩ := qualifies_iff.mp due
  rw [samplePins_pins, State.sampledBefore, Vector.get_eq_getElem, Vector.getElem_ofFn, Fin.eta]
  by_cases own : j = i
  · subst own
    rw [if_pos rfl, if_pos ⟨ahead, Nat.lt_succ_self _⟩, sampled_of_turned turned]
  · rw [if_neg own]
    by_cases low : s.ahead.pins ≤ j.val ∧ j < i
    · have range : s.ahead.pins ≤ j.val ∧ j.val < i.val + 1 := ⟨low.1, Nat.lt_succ_of_lt low.2⟩
      rw [if_pos low, if_pos range, sampled_of_still fun h => alone j low.2 (qualifies_iff.mpr ⟨low.1, h⟩)]
    · rw [if_neg low, if_neg fun h => low ⟨h.1, Fin.lt_def.mpr ?_⟩]
      have := Fin.val_ne_of_ne own
      omega

section Qualified

variable {s : State} {cfg : Config} (hr : s.startup.phase = .running) (hc : s.config = some cfg) {i : Fin 8} {pins : BitVec 8}
  (due : s.qualifies cfg i (pins.getLsbD i.val) = true)

include hr hc due

/-- R168, R169: with no lower pin that qualifies, the lower pins are sampled and the pin acts. -/
theorem exec_triggerQualified_alone (alone : ∀ j, j < i → ¬ s.qualifies cfg j (pins.getLsbD j.val) = true) :
    exec (.triggerQualified ⟨i, pins⟩) s = .next
      (((s.setTriggers { s.triggers with pins := s.sampledBefore pins i (pins.getLsbD i.val) }).pinActs (cfg.pins.get i)
        (pins.getLsbD i.val) s.nextFrame).setAhead { s.ahead with pins := i.val + 1 }) := by
  obtain ⟨ahead, turned⟩ := qualifies_iff.mp due
  have below : i ∉ s.pinsToSample i.val := mt (mem_pinsToSample ..).mp fun h => Nat.lt_irrefl _ h.2
  obtain ⟨ps, lower⟩ := sampleAll_of_still (c := cfg) (pins := pins) (pinsToSample_nodup s i.val)
    (fun j hj => by
      obtain ⟨low, high⟩ := (mem_pinsToSample ..).mp hj
      exact Bool.eq_false_iff.mpr fun h => alone j high (qualifies_iff.mpr ⟨low, h⟩)) s.nextFrame
  have own := sampleAll_pins_of_not_mem (c := cfg) (pins := pins) (f := s.nextFrame) below s
  have all : s.samplePins cfg pins s.nextFrame (i.val + 1) =
      (s.setTriggers { s.triggers with pins := ps.set i.val ⟨some (pins.getLsbD i.val), 0⟩ i.isLt }).pinActs
        (cfg.pins.get i) (pins.getLsbD i.val) s.nextFrame := by
    rw [samplePins_eq, pinsToSample_succ s i ahead, sampleAll_concat, samplePin_eq, own, if_pos turned, lower]
    rfl
  have written : s.sampledBefore pins i (pins.getLsbD i.val) = ps.set i.val ⟨some (pins.getLsbD i.val), 0⟩ i.isLt := by
    have after := congrArg (fun t : State => t.triggers.pins) all
    dsimp only at after
    rw [pinActs_pins] at after
    refine Vector.ext fun k hk => (sampledBefore_get due alone s.nextFrame ⟨k, hk⟩).trans ?_
    rw [after]
    rfl
  rw [exec_triggerQualified hr hc, if_pos due, all, written]

/-! ## Several pins that qualify at one edge -/

/-- R169, R171: the messages of the pins up to the one named, queued or taken by the own lanes. -/
theorem exec_triggerQualified_offers :
    let offered := ((List.finRange 8).filter fun j => decide (j ≤ i)).filterMap (s.edgeOffer s cfg pins s.nextFrame)
    ∃ t : State, exec (.triggerQualified ⟨i, pins⟩) s = .next t ∧ t.ahead = { s.ahead with pins := i.val + 1 } ∧
      t.triggers.formed = raisedTo s.triggers.formed offered.length ∧
      (s.queuesTriggers = true →
        t.link.triggers = (s.link.triggers ++ offered).take (max 4 s.link.triggers.length) ∧ t.lanes = s.lanes) ∧
      (s.queuesTriggers = false →
        t.link.triggers = s.link.triggers ∧
          t.lanes = (offered.foldl (fun x m => x.deliverCue m s.localOrigin) (s.atFrame s.nextFrame)).lanes) := by
  intro offered
  have nodup := pinsToSample_nodup s (i.val + 1)
  have offers : (s.pinsToSample (i.val + 1)).filterMap (s.sampleOffer cfg pins s.nextFrame) = offered := by
    rw [filterMap_sampleOffer rfl rfl]
    simp only [Nat.lt_succ_iff]
    rfl
  rw [exec_triggerQualified hr hc, if_pos due, samplePins_eq]
  refine ⟨_, rfl, rfl, ?_, fun hq => ⟨?_, ?_⟩, fun hq => ⟨?_, ?_⟩⟩
  · rw [setAhead_triggers, sampleAll_formed nodup, offers, foldl_raise16]
  · rw [setAhead_link, sampleAll_queue_of_queues nodup hq, offers, foldl_joinQueue]
  · rw [setAhead_lanes, sampleAll_lanes_of_queues nodup hq]
  · rw [setAhead_link, sampleAll_queue_of_unsent nodup hq]
  · rw [setAhead_lanes, sampleAll_lanes_of_unsent nodup hq, offers]

end Qualified

/-! ## The edge -/

/-- R19, R169, R171: the messages of an edge, queued behind those still queued, a GO_NEXT pin reading the lanes the edge leaves. -/
theorem edge_offers {s : State} {r : TimerRun} {n : Station} (running : s.isRunning = true) (hr : s.timer.run = some r)
    (ha : s.link.attempt = none) (hd : s.link.state ≠ .detached)
    (hn : s.number.numbering = .fixed n ∨ s.number.numbering = .holding n) (c : Config) (pins : BitVec 8) :
    let t := s.edge c pins
    ∃ r', t.timer.run = some r' ∧
      let queued := s.link.triggers.filter fun m => !m.expiredAt r'.frame
      let offered := (List.finRange 8).filterMap (s.edgeOffer t c pins r'.frame)
      t.triggers.formed = raisedTo s.triggers.formed offered.length ∧
        t.link.triggers = (queued ++ offered).take (max 4 queued.length) := by
  intro t
  obtain ⟨r', hr', -⟩ := edge_timer hr c pins
  have turn := pinsTurn_spec s c
  obtain ⟨queues, queued⟩ := pinsTurn_queue ha hd hn c
  have done := edge_pinsDone running c pins
  have frame : (s.pinsTurn c).frame = r'.frame := by
    simp [State.frame, turn.timer, ← (edge_clock s c pins).timer, hr']
  rw [frame] at queued
  have nodup := pinsToSample_nodup (s.pinsTurn c) 8
  have sampled : (s.pinsTurn c).pinsEdge c pins =
      (s.pinsTurn c).sampleAll c pins r'.frame ((s.pinsTurn c).pinsToSample 8) := by rw [← frame]; rfl
  rw [sampled] at done
  have lanes : t.lanes = (s.pinsTurn c).lanes := done.lanes.trans (sampleAll_lanes_of_queues nodup queues)
  have offers : ((s.pinsTurn c).pinsToSample 8).filterMap ((s.pinsTurn c).sampleOffer c pins r'.frame) =
      (List.finRange 8).filterMap (s.edgeOffer t c pins r'.frame) := by
    rw [filterMap_sampleOffer turn.pins turn.ahead, List.filter_eq_self.mpr fun j _ => decide_eq_true j.isLt]
    refine List.filterMap_congr fun j _ => ?_
    unfold State.edgeOffer
    rw [(CuesKept.ofLanes lanes).pinOffer]
  refine ⟨r', hr', ?_, done.queue.trans ?_⟩
  · rw [done.triggers, sampleAll_formed nodup, offers, turn.formed, foldl_raise16]
  · rw [sampleAll_queue_of_queues nodup queues, offers, queued, foldl_joinQueue]

/-- Settles O53: one pin that qualifies alone, several at one edge, the edge itself, and the pins after it. -/
theorem pinQualified : Obligations.PinQualified := by
  refine ⟨?_, ?_, ?_⟩
  · intro s cfg i pins old hr hc due pin selected done sampled base message formed sends act forms unresolved
    have hdue (j : Fin 8) : s.qualifies cfg j (pins.getLsbD j.val) = true ↔ due j :=
      qualifies_iff.trans (and_congr_right fun _ => turns_iff)
    refine ⟨fun idle => ?_, fun hi level alone => ?_⟩
    · exact (exec_triggerQualified hr hc i pins).trans (congrArg _ (if_neg (mt (hdue i).mp idle)))
    have acts : act = .next (((s.setTriggers base).pinActs pin (!old) s.nextFrame).setAhead done) := by
      have lone := exec_triggerQualified_alone hr hc ((hdue i).mpr hi) fun j hj => mt (hdue j).mp (alone j hj)
      rwa [level] at lone
    have taken : edgeTakes pin.edge (!old) = selected := by
      show _ = (match pin.edge with | .rise => !old | .fall => old | .both => true)
      cases pin.edge with
      | rise => rfl
      | fall => exact Bool.not_not old
      | both => rfl
    have offered (m : CueMessage)
        (h : (s.setTriggers base).pinActs pin (!old) s.nextFrame = (s.setTriggers base).formTrigger s.nextFrame m) :
        forms m := formTrigger_cases (s := s.setTriggers base) (by rw [acts, h])
    rw [← taken]
    refine ⟨fun h => ?_, fun sel => ⟨fun p hf => offered _ (pinActs_hold sel hf), fun p hf => offered _ (pinActs_release sel hf),
      fun p hf => ?_, fun camera hf => ?_⟩⟩
    · rw [acts, pinActs_of_unselected h]
      rfl
    · refine resolveCue_cases (s := s.setTriggers base) (formed := fun cue => forms (message (.go (BitVec.ofNat 16 cue)) p))
        (fun cue found => offered _ (pinActs_goNext sel hf found)) fun lost => ?_
      rw [acts, pinActs_unresolved sel hf lost]
      rfl
    · rw [acts, pinActs_tally sel hf]
      exact ⟨_, rfl, rfl, rfl⟩
  · intro s cfg pins hr hc due selected message offer raised
    have hdue (j : Fin 8) : s.qualifies cfg j (pins.getLsbD j.val) = due j := by
      simp only [State.qualifies, Nat.add_le_add_iff_right]
      rfl
    have taken (j : Fin 8) : edgeTakes (cfg.pins.get j).edge (pins.getLsbD j.val) = selected j := by
      show _ = (match (cfg.pins.get j).edge with
        | .rise => pins.getLsbD j.val | .fall => !pins.getLsbD j.val | .both => true)
      cases (cfg.pins.get j).edge <;> rfl
    have hoffer (x : State) (f : FrameNo) : offer x f = s.edgeOffer x cfg pins f := by
      funext j
      unfold State.edgeOffer
      rw [hdue, pinOffer_eq, taken]
      show (if due j && selected j then _ else none) = _
      cases due j with
      | false => rfl
      | true => rfl
    refine ⟨fun i hi => ?_, fun r n hrun ha hd hn => ?_⟩
    · rw [← hdue] at hi
      rw [hoffer]
      obtain ⟨t, ht, ahead, formed, queues, unsent⟩ := exec_triggerQualified_offers hr hc hi
      refine ⟨t, ht, ahead, formed, fun hd hn => queues ?_, fun h => unsent ?_⟩
      · simp [State.queuesTriggers, hd, hn]
      · rcases h with h | h <;> simp [State.queuesTriggers, h]
    · obtain ⟨r', hr', done⟩ := edge_offers (isRunning_of_phase hr) hrun ha hd hn cfg pins
      refine ⟨_, r', exec_frameEdge hrun hc pins, hr', ?_⟩
      rw [hoffer]
      exact done
  · intro s pins r cfg hr hrun hc
    refine ⟨_, exec_frameEdge hrun hc pins, fun i => ?_⟩
    have after := edge_pins (isRunning_of_phase hr) cfg pins i
    refine ⟨fun taken => after.trans (if_neg (Nat.not_le.mpr taken)), fun untaken => ?_⟩
    rw [after, if_pos untaken]
    exact sampled_cases ..

end Sys2Proof.Machine

end

section
/-! SUPPORT. Reset and release (R180, R113), a block that fails (R182, R185), and the RESTART judged (R187, R188). -/

namespace Sys2Proof.Machine

open Sys2Proof

/-! ## Reset and release (R180, R113) -/

/-- Settles O7: the source that begins to hold does so from now on, and the other holds as it did. -/
theorem coldResetClearsThePart : Obligations.ColdResetClearsThePart := by
  intro h s
  cases h with
  | pin => rfl
  | supply => rfl

theorem exec_resetRelease {s : State} (h : s.startup.phase = .reset) (r : ResetReleaser) :
    exec (.resetRelease r) s =
      .next
        (if (s.startup.letGo r).pinHolds || (s.startup.letGo r).supplyHolds then s.setStartup (s.startup.letGo r)
         else (s.setStartup (s.startup.letGo r)).leaveReset) :=
  congrArg Host.Outcome.next (if_pos h)

/-- R180: a source holds on where the other alone lets go. -/
theorem letGo_eq (u : Startup) (r : ResetReleaser) :
    u.letGo r =
      { u with
        pinHolds := u.pinHolds && decide (r = .supply)
        supplyHolds := u.supplyHolds && decide (r = .pin) } := by
  cases r <;> simp [Startup.letGo]

/-- R181, R186: a read asked for takes a free port. -/
theorem askRead_eq (s : State) :
    s.askRead =
      (s.setStartup { s.startup with readAsked := true }).setFetch
        { s.fetch with port := if s.fetch.port = .none then .configRead else s.fetch.port } := by
  unfold State.askRead
  by_cases free : s.fetch.port = .none
  · simp [free]
  · simp only [setStartup_fetch, free, if_false]
    rfl

/-- R180, R113, R181: on leaving RESET the port goes to a loader that asks for it, the grant counted, else to the read. -/
theorem leaveReset_eq (s : State) :
    s.leaveReset =
      { s with
        tick := 0
        startup := { s.startup with phase := .configLoad, cause := some .cold, readAsked := true }
        fetch :=
          { s.fetch with
            port := if s.fetch.loaderRequest then .loader else .configRead
            grant := s.fetch.loaderRequest
            queue := []
            flight := none
            counters := { FetchCounters.zero with grant := if s.fetch.loaderRequest then 1 else 0 } } } := by
  unfold State.leaveReset
  rw [askRead_eq]
  cases asked : s.fetch.loaderRequest <;> simp [Fetch.atRelease, asked] <;> rfl

/-- Settles O8: with a source that holds on only the holds are written; without one the part leaves RESET. -/
theorem releaseEntersConfigLoad : Obligations.ReleaseEntersConfigLoad := by
  intro r s h pin supply
  rw [exec_resetRelease h, letGo_eq]
  refine ⟨fun held => congrArg Host.Outcome.next (if_pos held), fun free => congrArg Host.Outcome.next ?_⟩
  obtain ⟨hp, hs⟩ : (s.startup.pinHolds && decide (r = .supply)) = false ∧
    (s.startup.supplyHolds && decide (r = .pin)) = false := Bool.or_eq_false_iff.mp free
  rw [hp, hs, leaveReset_eq]
  rfl

/-! ## A block that fails (R182, R185) -/

/-- R185: CONFIG_READ_END with a block that fails. -/
theorem exec_configReadEnd_of_fail {s : State} {e : LoadFault} (hr : s.reading = true) (hj : s.judgeRead = .error e)
    (now : Stamp) (pins : BitVec 8) :
    exec (.configReadEnd now pins) s = .next ((s.advanceTo now).endRead.fail e) := by
  obtain ⟨k, hk⟩ := advanceTo_eq s now
  have judged : (s.advanceTo now).judgeRead = .error e := by
    rw [hk]
    exact hj
  refine congrArg Host.Outcome.next ((if_pos hr).trans ?_)
  dsimp only
  rw [judged]

/-- R181, R109: the port a read frees goes to a loader that asks for it. -/
theorem endRead_of_loader {s : State} (h : s.fetch.loaderRequest = true) :
    s.endRead.fetch.grant = true ∧ s.endRead.fetch.port = .loader := by
  unfold State.endRead
  rw [choosePort_of_loader (by exact h)]
  exact ⟨rfl, rfl⟩

/-- R181: with neither a loader nor a request the port a read frees stays free. -/
theorem endRead_of_nobody {s : State} (hl : s.fetch.loaderRequest = false) (hq : s.fetch.queue = []) :
    s.endRead.fetch.port = .none := by
  unfold State.endRead
  rw [choosePort_of_nobody (by exact hl) rfl (by exact hq)]
  rfl

/-- R177: in SAFE the fault line is low. -/
theorem faultLineLow_of_safe {s : State} (h : s.startup.phase = .safe) : s.faultLineLow = true := by
  simp [State.faultLineLow, State.faultConditions, h]

/-- Settles O9: the end of the read reaches the start-up controller and the fetch unit, and what the failure writes is
stated block by block. -/
theorem failedBlockLeadsToSafe : Obligations.FailedBlockLeadsToSafe := by
  intro s now pins e hr hj
  obtain ⟨k, hk⟩ := advanceTo_eq s now
  obtain ⟨f, hf⟩ := endRead_eq (s.setTick k)
  have loader := endRead_of_loader (s := s.setTick k)
  have nobody := endRead_of_nobody (s := s.setTick k)
  refine ⟨_, exec_configReadEnd_of_fail hr hj now pins, ?_⟩
  rw [hk]
  rw [hf] at loader nobody ⊢
  exact ⟨rfl, rfl, rfl, rfl, rfl, rfl, rfl, rfl, rfl, rfl, rfl, rfl, faultLineLow_of_safe rfl, rfl, rfl, rfl, rfl, rfl, rfl,
    rfl, rfl, rfl, loader, nobody⟩

/-! ## RESTART (R187, R188) -/

theorem numbered_of_heldNumber {s : State} {n : Station} (h : s.heldNumber = some n) :
    s.number.numbering = .fixed n ∨ s.number.numbering = .holding n := by
  unfold State.heldNumber at h
  split at h
  all_goals cases h
  · exact .inl ‹_›
  · exact .inr ‹_›

theorem indifferent_of_held {s : State} {n o : Station} (h : s.heldNumber = some n) (ho : o ≠ n) : s.Indifferent o := by
  unfold State.Indifferent
  rcases numbered_of_heldNumber h with h | h <;> rw [h] <;> exact fun shown => ho (Option.some.inj shown).symm

/-- R38: the blocks that the entry of an origin writes. -/
theorem entered_eq (s : State) (m : LinkMessage) (sync : Option SyncFields) :
    ∃ k, s.entered m sync =
      { s with
        tick := k
        link := s.link.countReceived
        peers := s.peers.set m.origin.val (some (s.entryHeard m.origin sync)) m.origin.isLt } := by
  obtain ⟨k, hk⟩ := advanceTo_eq s m.stamp
  refine ⟨k, ?_⟩
  unfold State.entered State.heard
  rw [hk]
  rfl

/-- R187: RESTART_RECEIVED from a station that concerns no number of the node. -/
theorem exec_restartReceived {s : State} {m : LinkMessage} {n : Station} {b : Byte} (hr : s.receives = true)
    (hn : s.heldNumber = some n) (hi : s.Indifferent m.origin) (hp : m.payload = [b]) :
    exec (.restartReceived m) s = .next ((s.entered m none).takeRestart (some n) b.toNat) := by
  have target : fieldAt [b] 0 1 = b.toNat := fieldAt_byte [b] 0
  refine congrArg Host.Outcome.next ((receive_of_fits hr (by decide) (by rw [hp]; rfl) _).trans ?_)
  rw [firstStep_entered hi, hn, hp, target]

section TakeRestart

variable {s : State} {n : Station} {target : Nat}

theorem takeRestart_of_permitted (hr : s.startup.phase = .running) (ht : target = n.val)
    (permitted : s.startup.restartPermission = some true) : s.takeRestart (some n) target = s.warmRestart :=
  (if_pos ⟨hr, ht⟩).trans (if_pos permitted)

theorem takeRestart_of_refused (hr : s.startup.phase = .running) (ht : target = n.val)
    (refused : s.startup.restartPermission ≠ some true) :
    s.takeRestart (some n) target =
      s.setStartup { s.startup with restartRefused := raise16 s.startup.restartRefused } :=
  (if_pos ⟨hr, ht⟩).trans (if_neg refused)

theorem takeRestart_of_other (ht : target ≠ n.val) : s.takeRestart (some n) target = s := if_neg fun h => ht h.2

end TakeRestart

/-- R36: a number held by claim is kept through the restart. -/
theorem atRestart_kept {u : NumberUnit} {n : Station} (h : u.numbering = .fixed n ∨ u.numbering = .holding n) :
    u.atRestart.kept = if u.numbering = .holding n then some n else none := by
  rcases h with h | h <;> simp [NumberUnit.atRestart, NumberUnit.initial, h]

/-- R113, R181: the read asked for at a restart has the port, unless the grant of the loader stands. -/
theorem atRestart_port (u : Fetch) :
    (if u.atRestart.port = .none then .configRead else u.atRestart.port) = if u.grant then .loader else .configRead := by
  cases h : u.grant <;> simp [Fetch.atRestart, h]

theorem get_initial_lanes (bindings : Vector (Option (Fin 16)) 4) (edge : Nat) (i : Fin 4) :
    (LaneEngine.initial bindings edge).lanes.get i = Lane.initial (bindings.get i) := by
  simp [LaneEngine.initial, Vector.get_eq_getElem]

/-- Settles O12: by target and permission, on the state after the first delivery step. -/
theorem restartJudged : Obligations.RestartJudged := by
  intro s m n b hr hn ho hp
  have indifferent := indifferent_of_held hn ho
  have running : s.startup.phase = .running := of_decide_eq_true (isRunning_of_receives hr)
  have delivered := exec_restartReceived hr hn indifferent hp
  rw [firstStep_entered indifferent]
  obtain ⟨k, entered⟩ := entered_eq s m none
  rw [entered] at delivered ⊢
  refine ⟨fun own permitted => ?accepted, fun own refused => ?refused, fun other => ?other⟩
  case accepted =>
    refine ⟨_, delivered.trans (congrArg Host.Outcome.next (takeRestart_of_permitted running own permitted)), ?_⟩
    unfold State.warmRestart
    rw [askRead_eq]
    refine ⟨rfl, rfl, rfl, rfl, rfl, rfl, rfl, rfl, rfl, rfl, atRestart_kept (numbered_of_heldNumber hn), rfl, rfl, rfl, rfl,
      rfl, rfl, rfl, rfl, rfl, atRestart_port s.fetch, fun i => ?lane, rfl, rfl, rfl, rfl, rfl, rfl, rfl, rfl, rfl,
      rfl, rfl, rfl, rfl, rfl⟩
    case lane =>
      have cleared := get_initial_lanes s.lanes.bindings s.timer.edges i
      exact ⟨congrArg Lane.current cleared, congrArg Lane.pending cleared⟩
  case refused => exact delivered.trans (congrArg Host.Outcome.next (takeRestart_of_refused running own refused))
  case other => exact delivered.trans (congrArg Host.Outcome.next (takeRestart_of_other other))

end Sys2Proof.Machine

end

section
/-! SUPPORT. What the blocks just started (R184) make of an edge: EMPTY lanes, dark outputs, no demand, first samples of the pins,
and a black front repeated. -/

namespace Sys2Proof.Machine

open Sys2Proof

open Vector (get_replicate)

/-! ## Lanes just started (R114, R122) -/

/-- R114: every lane is EMPTY with the binding of `c`, no channel is owned, and nothing is counted. -/
structure LanesVacant (c : Config) (s : State) : Prop where
  lane : ∀ i, s.lane i = Lane.initial (c.bindings.get i)
  owners : ∀ ch, s.lanes.owners.get ch = none
  counts : s.lanes.counts = ⟨0, 0, 0, 0⟩

theorem lanesVacant_of_initial {c : Config} {s : State} {edge : Nat} (h : s.lanes = LaneEngine.initial c.bindings edge) :
    LanesVacant c s where
  lane i := by rw [State.lane, h, get_initial_lanes]
  owners ch := by rw [h]; exact get_replicate ..
  counts := by rw [h]; rfl

/-- R122: an edge leaves an EMPTY lane as it is. -/
theorem worked_initial (binding : Option (Fin 16)) (c : Config) (f : FrameNo) (zones : Vector Rgb 8) :
    (Lane.initial binding).stepped.worked c f zones = Lane.initial binding := by
  have levels : (Vector.ofFn fun ch : Fin 36 => ((Vector.replicate 36 (none : Option LaneLevel)).get ch).map fun v =>
      v.formed none ch (c.channels.get ch).slew zones) = Vector.replicate 36 none := by
    ext i hi
    simp [get_replicate]
  have taken : (Lane.initial binding).stepped.takeControl f = Lane.initial binding := rfl
  unfold Lane.worked
  rw [taken]
  exact congrArg (fun l => { Lane.initial binding with levels := l }) levels

section Vacant

variable {c : Config} {s : State} (h : LanesVacant c s)

include h

theorem LanesVacant.same {t : State} (ht : t.lanes = s.lanes) : LanesVacant c t :=
  ⟨fun i => by rw [State.lane, ht]; exact h.lane i, by rw [ht]; exact h.owners, by rw [ht]; exact h.counts⟩

theorem LanesVacant.setLane {i : Fin 4} {l : Lane} (hl : l = Lane.initial (c.bindings.get i)) :
    LanesVacant c (s.setLane i l) where
  lane k := by
    by_cases hk : k = i
    · rw [hk, lane_setLane, hl]
    · rw [lane_setLane_of_ne s hk, h.lane]
  owners := h.owners
  counts := h.counts

/-- R106: a request that times out finds no GO that waits for it. -/
theorem LanesVacant.timeOut (r : FetchRequest) : LanesVacant c (s.timeOut r) := by
  have asked : (s.lane r.lane).takeFailure r.cue r.execute = Lane.initial (c.bindings.get r.lane) := by
    rw [h.lane]
    exact takeFailure_of_unasked (l := Lane.initial _) nofun ..
  have dequeued (u : Fetch) : LanesVacant c (s.setFetch u) := h.same rfl
  exact (dequeued _).setLane asked

theorem LanesVacant.fetchEdge : LanesVacant c (s.fetchEdge c) := by
  rw [fetchEdge_eq]
  exact foldl_frame (fun a b => LanesVacant c a → LanesVacant c b) _ (fun _ => id) (fun _ _ _ k l => l ∘ k)
    (fun _ r k => k.timeOut r) _ _ (h.same rfl)

theorem LanesVacant.laneEdge (f : FrameNo) (merged : Vector Nat 36) (zones : Vector Rgb 8) (i : Fin 4) :
    LanesVacant c (s.laneEdge c f merged zones i) := by
  have idle : (s.lane i).starting f = none := by
    rw [h.lane]
    rfl
  rw [laneEdge_of_idle c merged zones idle, h.lane, worked_initial]
  exact h.setLane rfl

theorem LanesVacant.lanesWorked (merged : Vector Nat 36) (zones : Vector Rgb 8) :
    LanesVacant c (s.lanesWorked c merged zones) := by
  unfold State.lanesWorked
  exact foldl_frame (fun a b => LanesVacant c a → LanesVacant c b) _ (fun _ => id) (fun _ _ _ k l => l ∘ k)
    (fun t i k => k.laneEdge t.frame merged zones i) laneIndices s h

theorem LanesVacant.lanesEdge : LanesVacant c (s.lanesEdge c) := by
  have unasked : s.oldDropped = s := oldDropped_of_current fun i p hp => by
    rw [h.lane] at hp
    cases hp
  rw [lanesEdge_eq, unasked]
  have worked := h.lanesWorked (s.output.merged.readBefore s.timer.edges) (s.wall.figures.readBefore s.timer.edges).zones
  generalize s.lanesWorked c _ _ = t at worked
  obtain ⟨lane, owners, counts⟩ := worked
  exact ⟨lane, owners, counts⟩

/-- R142, R143: EMPTY lanes merge to 0. -/
theorem LanesVacant.merged (ch : Fin 36) : s.lanes.merged c ch = 0 := by
  have dark (i : Fin 4) : (s.lanes.lanes.get i).levelOf ch = 0 := by
    have empty : s.lanes.lanes.get i = Lane.initial (c.bindings.get i) := h.lane i
    rw [empty]
    simp [Lane.levelOf, Lane.initial, get_replicate]
  cases hm : (c.channels.get ch).merge with
  | htp =>
    obtain ⟨i, highest⟩ := (highest_spec s.lanes ch).2
    rw [merged_of_htp hm, highest, dark]
  | ltp => rw [merged_of_ltp hm, owned_of_none (h.owners ch)]

end Vacant

/-! ## Dark outputs (R141, R148) -/

theorem readBefore_both {α : Type} (v : α) (label edge : Nat) : (Published.both v label).readBefore edge = v := by
  unfold Published.readBefore
  split <;> rfl

/-- R143, R150: of EMPTY lanes and a merged set of 0 the output stage makes a merged set of 0 and a dark drive. -/
theorem outputEdge_of_vacant {s : State} {c : Config} {driven : Option (Vector Polarity 32)} {label : Nat}
    (vacant : LanesVacant c s) (ho : s.output = OutputStage.initial driven label) :
    (∀ ch : Fin 36, (s.outputEdge c).output.merged.last.get ch = 0 ∧ (s.outputEdge c).output.merged.previous.get ch = 0) ∧
      (s.outputEdge c).output.driven = driven ∧
      ∀ drive, (s.outputEdge c).output.drive = some drive → ∀ i : Fin 32, (drive.get i).duty = 0 := by
  unfold State.outputEdge
  dsimp only
  rw [setOutput_output, ho]
  refine ⟨fun ch => ⟨?_, get_replicate ..⟩, rfl, fun drive hd i => ?_⟩
  · simp [Published.publish, Vector.get_eq_getElem, vacant.merged]
  · obtain rfl := Option.some.inj hd
    have dark (j : Fin 36) : ((OutputStage.initial driven label).merged.readBefore s.timer.edges).get j = 0 := by
      rw [OutputStage.initial, readBefore_both]
      exact get_replicate ..
    simp [Vector.get_eq_getElem (v := Vector.ofFn _), FixtureDrive.form, dark]

/-! ## No demand (R155, R156, R161) -/

/-- Table 9-2: a block that passes gives no fixture channel a current above 10000. -/
theorem judgeRead_current_le {s : State} {c : Config} (h : s.judgeRead = .ok c) (i : Fin 32) :
    (fixtureConfig c i).current ≤ 10000 := by
  obtain ⟨-, -, bitTime, mode, rfl⟩ := judgeBlock_ok h
  have read (j : Fin 36) (b : List Byte) : ((buildConfig b bitTime mode).channels.get j).current ≤ 10000 := by
    simp [buildConfig, readChannel, Vector.get_eq_getElem]
  exact read ..

/-- R155, R156: a black picture and a merged set of 0 ask for nothing. -/
theorem demandOf_dark {c : Config} (h : ∀ i : Fin 32, (fixtureConfig c i).current ≤ 10000) :
    demandOf c Figures.zero (Vector.replicate 36 0) = 0 := by
  have tile : ∀ x : Fin 4, tileDemands (Figures.zero.tiles.get x) c.budget.wall (Vector.replicate 36 0) = 0 := fun x => by
    have black : Figures.zero.tiles.get x = Rgb.black := get_replicate ..
    simp [black, Rgb.black, tileDemands, tileDemand]
  have fixture : ∀ i : Fin 32,
      scaleBy (fixtureConfig c i).current ((Vector.replicate 36 0).get (i.castLE (by decide))) = 0 := fun i => by
    have small := h i
    rw [get_replicate]
    exact Nat.div_eq_of_lt (by omega)
  unfold demandOf
  rw [wallDemand_eq_sum, fixtureDemand_eq_sum]
  simp only [tile, fixture, List.map_const', List.sum_replicate, smul_zero, Nat.add_zero]

/-- R159, R161 to R163: the first edge of the budget unit has no frame to judge, and without a demand the scale is the
highest. -/
theorem first_formScale (c : BudgetConfig) (label edge : Nat) (ahead : Bool) :
    ((Budget.initial c.limit label).judgeFrame c ahead).formScale c edge 0 =
      { Budget.initial c.limit label with observed := true, scale := Published.both 65535 edge } := by
  have within : overloaded 0 c.limit c.floor = false := by simp [overloaded]
  have target : targetScale 0 c.limit c.floor = 65535 := targetScale_of_le (Nat.zero_le _)
  have full : newScale 65535 ((Published.both 65535 label).readBefore edge) = 65535 := by
    rw [readBefore_both]
    rfl
  have published : (Published.both 65535 label).publish edge 65535 = Published.both 65535 edge := rfl
  rw [judgeFrame_of_unjudged (.inr rfl)]
  simp [Budget.formScale, Budget.begun, Budget.initial, within, target, full, published]

/-! ## First samples (R168) -/

theorem samplePin_of_level {s : State} {i : Fin 8} {level : Bool}
    (h : (s.triggers.pins.get i).stable ≠ some (!level)) (c : Config) (f : FrameNo) :
    s.samplePin c i level f = s.setPin i ⟨some level, 0⟩ := by
  rw [samplePin_eq, if_neg fun turned => h (turns_iff.mp turned).1, sampled_of_not_other h]

/-- R168: samples that contradict no stable level write the pins alone. -/
theorem sampleAll_of_levels {c : Config} {pins : BitVec 8} {f : FrameNo} (js : List (Fin 8)) {s : State}
    (h : ∀ i : Fin 8, (s.triggers.pins.get i).stable ≠ some (!pins.getLsbD i.val)) :
    ∃ x, s.sampleAll c pins f js = s.setTriggers { s.triggers with pins := x } := by
  induction js generalizing s with
  | nil => exact ⟨s.triggers.pins, rfl⟩
  | cons j rest ih =>
    have kept (i : Fin 8) :
        ((s.setPin j ⟨some (pins.getLsbD j.val), 0⟩).triggers.pins.get i).stable ≠ some (!pins.getLsbD i.val) := by
      by_cases hi : i = j
      · subst hi
        simp [State.setPin, get_set_same]
      · simpa [State.setPin, get_set_of_ne _ hi] using h i
    obtain ⟨x, sampled⟩ := ih kept
    refine ⟨x, Eq.trans ?_ sampled⟩
    exact congrArg (fun t : State => t.sampleAll c pins f rest) (samplePin_of_level (h j) c f)

/-- R168: the first samples give each pin its level and make no pin act. -/
theorem pinsEdge_first {s : State} (ha : s.ahead.pins = 0) (h : ∀ i : Fin 8, s.triggers.pins.get i = ⟨none, 0⟩) (c : Config)
    (pins : BitVec 8) :
    ∃ x : Vector PinState 8, s.pinsEdge c pins = s.setTriggers { s.triggers with pins := x } ∧
      ∀ i : Fin 8, x.get i = ⟨some (pins.getLsbD i.val), 0⟩ := by
  obtain ⟨x, sampled⟩ := sampleAll_of_levels (c := c) (pins := pins) (f := s.frame) (s.pinsToSample 8) (s := s)
    fun i => by simp [h i]
  have written : s.pinsEdge c pins = s.setTriggers { s.triggers with pins := x } := sampled
  refine ⟨x, written, fun i => ?_⟩
  have after := samplePins_pins (c := c) (pins := pins) (f := s.frame) s 8 i
  rw [if_pos ⟨by omega, i.isLt⟩, sampled_of_not_other (by simp [h i])] at after
  rw [← after]
  exact congrArg (fun t : State => t.triggers.pins.get i) written.symm

/-! ## The picture (R71, R84, R87) -/

/-- R71, R84, R87: with no row and an EMPTY back buffer flush and flip leave pixel ingest, and the black front is repeated. -/
theorem first_wallEdge {s : State} {store : PixelStore} {label : Nat} (hi : s.ingest = Ingest.initial store)
    (hw : s.wall = Wall.initial label) (c : Config) :
    (s.flushEdge.wallEdge c).ingest = Ingest.initial store ∧ (s.flushEdge.wallEdge c).wall.front = [] ∧
      (s.flushEdge.wallEdge c).wall.repeatRun = 1 := by
  have flushed : s.flushEdge.ingest = Ingest.initial store := by
    show s.ingest.flush s.frame = _
    rw [hi]
    rfl
  have flipped : s.flushEdge.flip c = s.flushEdge.setWall ((Wall.initial label).repeatFront c s.timer.edges false) := by
    rw [flip_of_keep c (by rw [flushed]; rfl), show s.flushEdge.wall = s.wall from rfl, hw]
    rfl
  obtain ⟨ingest, profile, drive, wall⟩ := wallEdge_picture s.flushEdge c
  rw [ingest, wall, flipped]
  exact ⟨flushed, rfl, rfl⟩

end Sys2Proof.Machine

end

section
/-! SUPPORT. The first edge of a frame timer (R43), and CONFIG_READ_END with a block that passes while none runs (R184). -/

namespace Sys2Proof.Machine

open Sys2Proof

open Vector (get_replicate)

/-! ## The edge of the whole part -/

/-- R43, R184: the blocks stand at the first edge of the frame timer as a start with `c` leaves them, their published values
labelled `label`. -/
structure State.AtFirstEdge (s : State) (c : Config) (label : Nat) (store : PixelStore) : Prop where
  unsampled : s.ahead.pins = 0
  attempt : s.link.attempt = none
  ingest : s.ingest = Ingest.initial store
  wall : s.wall = Wall.initial label
  lanes : s.lanes = LaneEngine.initial c.bindings label
  output : s.output = OutputStage.initial (some (fixturePolarities c)) label
  budget : s.budget = Budget.initial c.budget.limit label
  triggers : s.triggers = Triggers.initial
  report : s.report = ⟨0, 0⟩

/-- Link controller, trigger unit, report unit, and what commands have done of the edge, are as they were. -/
structure TriggersAlike (s t : State) : Prop where
  ahead : t.ahead = s.ahead := by rfl
  link : t.link = s.link := by rfl
  triggers : t.triggers = s.triggers := by rfl
  report : t.report = s.report := by rfl

theorem TriggersAlike.trans {a b c : State} (h : TriggersAlike a b) (k : TriggersAlike b c) : TriggersAlike a c :=
  ⟨k.ahead.trans h.ahead, k.link.trans h.link, k.triggers.trans h.triggers, k.report.trans h.report⟩

theorem LanesAndFetch.triggersAlike {s t : State} (h : LanesAndFetch s t) : TriggersAlike s t :=
  ⟨h.ahead, h.link, h.triggers, h.report⟩

/-- The part at the first edge once its lanes have worked. -/
def State.firstLanes (s : State) (c : Config) : State :=
  ((s.triggerQueueEdge.flushEdge.wallEdge c).fetchEdge c).lanesEdge c

theorem firstLanes_frame (s : State) (c : Config) :
    LanesAndFetch (s.triggerQueueEdge.flushEdge.wallEdge c) (s.firstLanes c) :=
  .trans _ _ _ (fetchEdge_frame ..) (lanesEdge_frame ..)

/-- The part at the first edge when its pins have their turn. -/
def State.firstPinsTurn (s : State) (c : Config) : State := ((s.firstLanes c).outputEdge c).budgetEdge c

theorem blocksEdge_first (s : State) (c : Config) (pins : BitVec 8) :
    s.blocksEdge c pins true = ((s.firstPinsTurn c).pinsEdge c pins).reportEdge c s.ownAtEdge := rfl

theorem firstPinsTurn_alike (s : State) (c : Config) : TriggersAlike s.triggerQueueEdge (s.firstPinsTurn c) := by
  have walled (u : State) : TriggersAlike u (u.wallEdge c) := by
    have same := wallEdge_frame u c u.ingest u.wall
    exact ⟨by simpa using congrArg State.ahead same, by simpa using congrArg State.link same,
      by simpa using congrArg State.triggers same, by simpa using congrArg State.report same⟩
  unfold State.firstPinsTurn
  refine .trans ?_ ⟨setBudget_ahead .., setBudget_link .., setBudget_triggers .., setBudget_report ..⟩
  refine .trans ?_ ⟨setOutput_ahead .., setOutput_link .., setOutput_triggers .., setOutput_report ..⟩
  refine .trans ?_ (firstLanes_frame s c).triggersAlike
  exact .trans (b := s.triggerQueueEdge.flushEdge) {} (walled _)

/-- R174: of the link controller the report unit writes the STATUS slot. -/
theorem reportEdge_eq (s : State) (c : Config) (own : Option Station) :
    ∃ status, s.reportEdge c own = s.setLink { s.link with status := status } := by
  unfold State.reportEdge
  split
  · exact ⟨_, rfl⟩
  · exact ⟨s.link.status, rfl⟩

/-- R43, R184: the first edge leaves the blocks as the start left them, but for the first sample of each pin and the repeat
of the black front; of the link controller it writes the STATUS slot, the trigger queue and the
counters. -/
structure FirstEdgeDone (s t : State) (c : Config) (pins : BitVec 8) : Prop where
  started : t.Started c
  store : t.ingest.back.store = s.ingest.back.store
  front : t.wall.front = []
  repeatRun : t.wall.repeatRun = 1
  dark : ∀ drive, t.output.drive = some drive → ∀ i : Fin 32, (drive.get i).duty = 0
  levels : ∀ i : Fin 8, t.triggers.pins.get i = ⟨some (pins.getLsbD i.val), 0⟩
  link : ∃ status queue counters, t.link = { s.link with status := status, triggers := queue, counters := counters }

section FirstEdge

variable {s : State} {c : Config} {label : Nat} {store : PixelStore} (h : s.AtFirstEdge c label store)

include h

theorem firstLanes_vacant : LanesVacant c (s.firstLanes c) := by
  have walled : (s.triggerQueueEdge.flushEdge.wallEdge c).lanes = s.lanes :=
    (wallEdge_lanes s.triggerQueueEdge.flushEdge c).lanes
  exact (lanesVacant_of_initial (walled.trans h.lanes)).fetchEdge.lanesEdge

theorem firstPinsTurn_vacant : LanesVacant c (s.firstPinsTurn c) := by
  refine (firstLanes_vacant h).same ?_
  exact (setBudget_lanes ..).trans (setOutput_lanes ..)

theorem firstPinsTurn_picture :
    (s.firstPinsTurn c).ingest = Ingest.initial store ∧ (s.firstPinsTurn c).wall.front = [] ∧
      (s.firstPinsTurn c).wall.repeatRun = 1 := by
  have walled := first_wallEdge (s := s.triggerQueueEdge) h.ingest h.wall c
  have laned := firstLanes_frame s c
  have ingest : (s.firstPinsTurn c).ingest = (s.firstLanes c).ingest := (setBudget_ingest ..).trans (setOutput_ingest ..)
  have wall : (s.firstPinsTurn c).wall = (s.firstLanes c).wall := (setBudget_wall ..).trans (setOutput_wall ..)
  rwa [ingest, wall, laned.ingest, laned.wall]

theorem firstPinsTurn_output :
    (∀ ch : Fin 36, (s.firstPinsTurn c).output.merged.last.get ch = 0 ∧
        (s.firstPinsTurn c).output.merged.previous.get ch = 0) ∧
      (s.firstPinsTurn c).output.driven = some (fixturePolarities c) ∧
      ∀ drive, (s.firstPinsTurn c).output.drive = some drive → ∀ i : Fin 32, (drive.get i).duty = 0 := by
  have walled : (s.triggerQueueEdge.flushEdge.wallEdge c).output = s.triggerQueueEdge.flushEdge.output := by
    simpa using congrArg State.output (wallEdge_frame s.triggerQueueEdge.flushEdge c s.ingest s.wall)
  have laned := firstLanes_frame s c
  have stage : (s.firstPinsTurn c).output = ((s.firstLanes c).outputEdge c).output := setBudget_output ..
  rw [stage]
  exact outputEdge_of_vacant (firstLanes_vacant h) (laned.output.trans (walled.trans h.output))

theorem firstPinsTurn_budget (small : ∀ i : Fin 32, (fixtureConfig c i).current ≤ 10000) :
    (s.firstPinsTurn c).budget =
      { Budget.initial c.budget.limit label with
        observed := true, scale := Published.both 65535 s.timer.edges } := by
  have turn := (beforeBudget_turn s c true).budgetEdge c
  have figures : s.wall.figures.last = Figures.zero := by rw [h.wall]; rfl
  have merged : s.output.merged.last = Vector.replicate 36 0 := by rw [h.output]; rfl
  rw [figures, merged, demandOf_dark small, h.budget, first_formScale] at turn
  exact turn

/-- What the first edge leaves of the state at the pins' turn: the levels of the pins, and the STATUS slot. -/
theorem blocksEdge_first_eq (pins : BitVec 8) :
    ∃ (x : Vector PinState 8) (status : Slot StatusBody), (∀ i : Fin 8, x.get i = ⟨some (pins.getLsbD i.val), 0⟩) ∧
      s.blocksEdge c pins true =
        ((s.firstPinsTurn c).setTriggers { Triggers.initial with pins := x }).setLink
          { s.triggerQueueEdge.link with status := status } := by
  have alike := firstPinsTurn_alike s c
  have triggers : (s.firstPinsTurn c).triggers = Triggers.initial := alike.triggers.trans h.triggers
  obtain ⟨x, sampled, levels⟩ := pinsEdge_first (s := s.firstPinsTurn c)
    ((congrArg Ahead.pins alike.ahead).trans h.unsampled) (fun i => by rw [triggers]; exact get_replicate ..) c pins
  obtain ⟨status, reported⟩ := reportEdge_eq ((s.firstPinsTurn c).pinsEdge c pins) c s.ownAtEdge
  refine ⟨x, status, levels, ?_⟩
  rw [blocksEdge_first, reported, sampled, triggers, setTriggers_link, alike.link]

theorem blocksEdge_first_done (small : ∀ i : Fin 32, (fixtureConfig c i).current ≤ 10000) (pins : BitVec 8) :
    FirstEdgeDone s (s.blocksEdge c pins true) c pins := by
  obtain ⟨x, status, levels, left⟩ := blocksEdge_first_eq h pins
  have vacant := firstPinsTurn_vacant h
  obtain ⟨ingest, front, repeatRun⟩ := firstPinsTurn_picture h
  obtain ⟨merged, driven, dark⟩ := firstPinsTurn_output h
  have budget := firstPinsTurn_budget h small
  have report : (s.firstPinsTurn c).report = ⟨0, 0⟩ := (firstPinsTurn_alike s c).report.trans h.report
  have queue : s.triggerQueueEdge.link = s.link.expireTriggers s.frame := setLink_link ..
  rw [left, queue, expireTriggers_of_no_attempt h.attempt]
  generalize s.firstPinsTurn c = u at vacant ingest front repeatRun merged driven dark budget report
  have still (y : Triggers) (k : Link) : LanesVacant c ((u.setTriggers y).setLink k) := vacant.same rfl
  refine ⟨?started, congrArg (fun y : Ingest => y.back.store) (ingest.trans h.ingest.symm), front, repeatRun, dark, levels,
    ⟨_, _, _, rfl⟩⟩
  exact
    { bound := fun i => by rw [(still ..).lane]; rfl
      lanes := fun i => by rw [(still ..).lane]; exact ⟨rfl, rfl, rfl, rfl, fun ch => get_replicate ..⟩
      owners := vacant.owners
      refusals := vacant.counts
      merged := merged
      driven := ⟨_, driven, fun i => by simp [fixturePolarities, Vector.get_eq_getElem]⟩
      limit := by rw [setLink_budget, setTriggers_budget, budget]; exact ⟨rfl, rfl, rfl⟩
      scale := by rw [setLink_budget, setTriggers_budget, budget]; exact ⟨rfl, rfl, rfl⟩
      rails := by rw [setLink_budget, setTriggers_budget, budget]; exact ⟨rfl, rfl, rfl⟩
      sags := by rw [setLink_budget, setTriggers_budget, budget]; rfl
      ingest := by rw [setLink_ingest, setTriggers_ingest, ingest]; exact ⟨rfl, rfl, rfl, rfl⟩
      back := by
        rw [setLink_ingest, setTriggers_ingest, ingest]
        exact ⟨rfl, fun k => get_replicate .., fun k => get_replicate .., fun k => get_replicate ..⟩
      tally := fun i => ⟨get_replicate .., get_replicate ..⟩
      formed := ⟨rfl, rfl, rfl⟩
      report := report }

end FirstEdge

/-! ## The start of the frame timer (R43, R184) -/

theorem startNumber_absent {s : State} {n : Station} (h : s.peers.get n = none) (c : Config) :
    (s.startNumber c).peers.get n = none := by
  have cleared (k : Station) : (s.peers.set k.val none k.isLt).get n = none := by
    by_cases hk : n = k
    · rw [hk, get_set_same]
    · rw [get_set_of_ne _ hk, h]
  unfold State.startNumber
  dsimp only
  repeat' split
  · exact cleared _
  · exact cleared _
  · exact h
  · exact h

/-- R41: the peer table at a pass. -/
def State.peersStarting (s : State) : Vector (Option Peer) 64 := if s.startup.phase = .safe then noPeers else s.peers

theorem peersAtPass_eq (s : State) : s.peersAtPass = s.setPeers s.peersStarting := by
  unfold State.peersAtPass State.peersStarting
  split <;> rfl

/-- The part at a pass, before its number unit starts. -/
def State.blocksAtPass (s : State) (c : Config) : State :=
  ((s.setPeers s.peersStarting).setStartup (s.startup.pass c)).startBlocks c

/-- R184: a pass with no frame timer running starts it after the other blocks. -/
theorem pass_of_stopped {s : State} (ht : s.timer.run = none) (c : Config) (now : Stamp) (pins : BitVec 8) :
    s.pass c now pins = ((s.blocksAtPass c).startNumber c).startTimer c now pins := by
  have stopped : ((s.blocksAtPass c).startNumber c).timer.run = none := by
    rw [(startNumber_frame _ c).timer]
    exact ht
  unfold State.blocksAtPass at stopped ⊢
  unfold State.pass
  rw [peersAtPass_eq]
  dsimp only [setPeers_startup]
  rw [stopped]

/-- R43: the frame timer has started, and its first edge leaves start-up controller, configuration, number unit and peer
table. -/
structure TimerStarted (s t : State) (c : Config) (now : Stamp) : Prop where
  timer : t.timer = ⟨some (TimerRun.fresh c.timer now), TimerCounters.zero, s.timer.edges + 1⟩
  startup : t.startup = s.startup
  config : t.config = s.config
  number : t.number = s.number
  peers : t.peers = s.peers
  memory : t.showMemory = s.showMemory

theorem startTimer_started (s : State) (c : Config) (now : Stamp) (pins : BitVec 8) :
    TimerStarted s (s.startTimer c now pins) c now := by
  unfold State.startTimer
  dsimp only
  have begun :
      TimerStarted s (s.setTimer ⟨some (TimerRun.fresh c.timer now), TimerCounters.zero, s.timer.edges + 1⟩) c now :=
    ⟨rfl, rfl, rfl, rfl, rfl, rfl⟩
  generalize s.setTimer _ = u at begun
  have numbers := blocksEdge_numberAlike u c pins true
  have config : (u.blocksEdge c pins true).config = u.config :=
    (blocksEdge_budgetAlike u c pins true).config.trans ((setBudget_config ..).trans (beforeBudget_turn u c true).config)
  exact ⟨(blocksEdge_clock u c pins true).timer.trans begun.timer,
    (blocksEdge_ordinary u c pins true).startup.trans begun.startup, config.trans begun.config,
    numbers.number.trans begun.number, numbers.peers.trans begun.peers,
    (blocksEdge_showKept u c pins true).memory.trans begun.memory⟩

/-- R184: number unit and frame timer started, the other blocks are at their first edge. -/
theorem atFirstEdge_of_start (s : State) (c : Config) (x : FrameTimer) :
    (((s.startBlocks c).startNumber c).setTimer x).AtFirstEdge c s.timer.edges s.ingest.back.store := by
  have frame := startNumber_frame (s.startBlocks c) c
  have unit := startNumber_started (s.startBlocks c) c
  exact
    { unsampled := congrArg Ahead.pins frame.ahead
      attempt := by rw [setTimer_link, unit.link]; rfl
      ingest := frame.ingest
      wall := frame.wall
      lanes := unit.lanes
      output := frame.output
      budget := frame.budget
      triggers := frame.triggers
      report := frame.report }

/-- R43, R184: the blocks once the frame timer has started. -/
theorem startTimer_done (s : State) {c : Config} (small : ∀ i : Fin 32, (fixtureConfig c i).current ≤ 10000) (now : Stamp)
    (pins : BitVec 8) :
    FirstEdgeDone ((s.startBlocks c).startNumber c) (((s.startBlocks c).startNumber c).startTimer c now pins) c pins := by
  obtain ⟨started, store, front, repeatRun, dark, levels, link⟩ :=
    blocksEdge_first_done (atFirstEdge_of_start s c _) small pins
  exact ⟨started.of_same rfl rfl rfl rfl rfl rfl, store, front, repeatRun, dark, levels, link⟩

/-- Settles O10: the part once its blocks, its number unit and its frame timer have started, and the first edge is taken. -/
theorem passedBlockStartsThePart : Obligations.PassedBlockStartsThePart := by
  intro s now pins c hr hj ht
  obtain ⟨k, hk⟩ := advanceTo_eq s now
  obtain ⟨f, hf⟩ := endRead_eq (s.setTick k)
  have ended := exec_configReadEnd_of_pass hr hj now pins
  rw [hk, hf, pass_of_stopped (by exact ht)] at ended
  generalize he : (State.setFetch _ f).blocksAtPass c = x at ended
  have frame := startNumber_frame x c
  have unit := startNumber_started x c
  have timed := startTimer_started (x.startNumber c) c now pins
  have done : FirstEdgeDone (x.startNumber c) ((x.startNumber c).startTimer c now pins) c pins := by
    rw [← he]
    exact startTimer_done _ (judgeRead_current_le hj) now pins
  generalize (x.startNumber c).startTimer c now pins = t at ended timed done
  have startup : t.startup = { s.startup with readAsked := false }.pass c := by
    rw [timed.startup, frame.startup, ← he]
    rfl
  have config : t.config = some c := by
    rw [timed.config, frame.config, ← he]
    rfl
  have timer : t.timer = ⟨some (TimerRun.fresh c.timer now), TimerCounters.zero, s.timer.edges + 1⟩ := by
    rw [timed.timer, frame.timer, ← he]
    rfl
  obtain ⟨status, queue, counters, link⟩ := done.link
  rw [unit.link, ← he] at link
  refine ⟨t, TimerRun.fresh c.timer now, ended, ?_⟩
  rw [startup, config, timer, link]
  refine ⟨rfl, rfl, rfl, rfl, rfl, rfl, rfl, rfl, rfl, rfl, rfl, rfl, rfl, rfl, rfl, rfl, rfl, rfl, rfl, rfl, rfl, rfl, rfl,
    fun n hm => ?fixed, fun lo hi p hm hk => ?claim, fun hp n => ?reload, done.started, ?store, done.front, done.repeatRun,
    done.dark, done.levels, ?memory⟩
  case fixed =>
    rw [timed.number, timed.peers, startNumber_of_fixed hm]
    exact ⟨rfl, get_set_same ..⟩
  case claim =>
    rw [timed.number, startNumber_of_none_kept hm fun n hn => ?_]
    rw [← he] at hn
    exact absurd (hk.symm.trans hn) nofun
  case reload =>
    rw [timed.peers]
    refine startNumber_absent ?_ c
    rw [← he]
    have emptied : s.peersStarting = noPeers := if_pos hp
    exact (congrArg (fun v : Vector (Option Peer) 64 => v.get n) emptied).trans (get_replicate ..)
  case store =>
    rw [done.store, frame.ingest, ← he]
    rfl
  case memory =>
    rw [timed.memory, frame.showMemory, ← he]
    rfl

end Sys2Proof.Machine

end

section
/-! SUPPORT. A step with a command waiting. -/

namespace Sys2Proof.Machine

open Sys2Proof

/-- With a command waiting the step is that command's, and it no longer stands in the queue the command runs on. -/
theorem step_of_front {s : State} {c : Instr} {q : List Instr} (h : s.pending = c :: q) :
    step s = exec c (s.setPending q) := by
  unfold step
  rw [h]

/-- Settles O1: the second write of the queue replaces the first. -/
theorem stepRunsFrontCommand : Obligations.StepRunsFrontCommand := by
  intro c q s
  rw [step_of_front (setPending_pending s (c :: q)), setPending_setPending]

end Sys2Proof.Machine

end
